-- ==== Sys2Proof/Word.lean ====
section
/-! DEFINITION. The plain types of the FM4120 model: octets, digests, tags, the two small index types and the
archive time. -/

namespace Sys2Proof

/-- One octet (00 section 5: all sizes are in octets, bit 7 the most significant). -/
abbrev Byte := BitVec 8

/-- A CRC-32 register or digest (R55: the register is 32 bits wide). -/
abbrev Crc := BitVec 32

/-- The tag of a directive, repeated by its reply (R160, R163). -/
abbrev Tag := BitVec 16

/-- A lane 0..7 (R7). -/
abbrev LaneNo := Fin 8

/-- A store target 0..3 (R84). -/
abbrev TargetNo := Fin 4

/-- A class 0..15 (R3). -/
abbrev ClassNo := Fin 16

/-- A reading of the archive clock: archive day and second of day (R170, R179). -/
structure Time where
  day : Nat
  second : Nat
  deriving DecidableEq, Repr, Inhabited

/-- "Each is taken as day × 86,400 + second of day" (10.1). -/
def Time.seconds (t : Time) : Nat := t.day * 86400 + t.second

/-- The archive minute: day × 1,440 + the whole minutes of the second of day (R36). -/
def Time.minute (t : Time) : Nat := t.day * 1440 + t.second / 60

/-- Read a table of `n` entries at an index it has. -/
def vget {α : Type} {n : Nat} (v : Vector α n) (i : Fin n) : α := v[i.val]

/-- Replace the entry of a table at an index it has. -/
def vset {α : Type} {n : Nat} (v : Vector α n) (i : Fin n) (x : α) : Vector α n := v.set i.val x

/-- Read a table of `n` entries at any number; a number the table has no entry for reads as `d`. -/
def vgetD {α : Type} {n : Nat} (v : Vector α n) (i : Nat) (d : α) : α :=
  if h : i < n then vget v ⟨i, h⟩ else d

/-- Change the entry of a table at any number; a number the table has no entry for changes nothing. -/
def vmod {α : Type} {n : Nat} (v : Vector α n) (i : Nat) (f : α → α) : Vector α n :=
  if h : i < n then vset v ⟨i, h⟩ (f (vget v ⟨i, h⟩)) else v

/-- A saturating increase: a counter stops at its maximum (00 section 5, Counters). -/
def satAdd (max n k : Nat) : Nat := min (n + k) max

end Sys2Proof
end

