-- ==== Sys2Proof/Machine/Octets.lean ====
section
/-! DEFINITION. Octet strings: numbers most significant octet first, BCD digits, the field encodings of R179, and the
CRC-32 of R55. -/

namespace Sys2Proof.Machine

/-! ### Numbers -/

/-- A number in `w` octets, most significant first (00 section 5; R179). -/
def be : Nat → Nat → List Byte
  | 0, _ => []
  | w + 1, v => BitVec.ofNat 8 (v / 256 ^ w) :: be w v

/-- The number an octet string holds, most significant first. -/
def beNat (l : List Byte) : Nat := l.foldl (fun a b => a * 256 + b.toNat) 0

/-- The octets `off` to `off + len` − 1. -/
def slice (l : List Byte) (off len : Nat) : List Byte := (l.drop off).take len

/-- The number in the `len` octets at `off`. -/
def fieldAt (l : List Byte) (off len : Nat) : Nat := beNat (slice l off len)

/-- The number in the octet at `i`. -/
def octetAt (l : List Byte) (i : Nat) : Nat := fieldAt l i 1

/-- The first `count` pieces of `size` octets each. -/
def pieces : Nat → Nat → List Byte → List (List Byte)
  | 0, _, _ => []
  | count + 1, size, l => l.take size :: pieces count size (l.drop size)

/-! ### Digits (R53, R182, R184) -/

/-- One octet holding two nibbles, the first in the high nibble. -/
def nibblePair (a b : Nat) : Byte := BitVec.ofNat 8 (a * 16 + b)

/-- A digit string in BCD; the final octet of an odd count carries 15 in its low nibble (R53). -/
def bcd : List Nat → List Byte
  | [] => []
  | [a] => [nibblePair a 15]
  | a :: b :: t => nibblePair a b :: bcd t

/-- The nibbles of an octet string, high nibble first. -/
def nibbles : List Byte → List Nat
  | [] => []
  | b :: t => b.toNat / 16 :: b.toNat % 16 :: nibbles t

/-- A digit string in BCD in a field of `w` octets whose filler nibbles hold 15 (R182, R184). -/
def bcdField (w : Nat) (d : List Nat) : List Byte := bcd (d ++ List.replicate (2 * w - d.length) 15)

/-- A dictionary place: length, then the digits with filler 15 (R184); also a prefix parameter (R179). -/
def placeOctets (d : List Nat) : List Byte := BitVec.ofNat 8 d.length :: bcdField 6 d

/-- The digits of a dictionary place: as many nibbles as its length octet gives. -/
def placeDigits (l : List Byte) : List Nat := (nibbles (slice l 1 6)).take (octetAt l 0)

/-! ### Field encodings of replies and notices (R179) -/

/-- A flag: 00h clear, 01h set. -/
def flagOctet (b : Bool) : List Byte := if b then [1] else [0]

/-- A value of a named list by its number. -/
def named (n : Nat) : List Byte := be 1 n

/-- A field that may be ALL, UNMAPPED or absent: a mark octet, then the value, zero when unused. -/
def optNum (w : Nat) : Option Nat → List Byte
  | none => 1 :: be w 0
  | some v => 0 :: be w v

/-- A list: its item count in 2 octets, then the items. -/
def listOctets (items : List (List Byte)) : List Byte := be 2 items.length ++ items.flatten

/-- An archive time: day 2, second 4; FFh in all 6 octets when absent. -/
def timeOctets : Option Time → List Byte
  | none => List.replicate 6 255
  | some t => be 2 t.day ++ be 4 t.second

/-! ### CRC-32 (R55) -/

/-- One shift of the register towards its low end. -/
def crcShift (r : Crc) : Crc := if r.getLsbD 0 then (r >>> 1) ^^^ 0xEDB88320#32 else r >>> 1

/-- Take one octet into the register: exclusive-or into its low eight bits, then eight shifts. -/
def crcOctet (r : Crc) (b : Byte) : Crc :=
  crcShift (crcShift (crcShift (crcShift (crcShift (crcShift (crcShift (crcShift (r ^^^ b.setWidth 32))))))))

/-- Take an octet string into the register. -/
def crcTake (r : Crc) (l : List Byte) : Crc := l.foldl crcOctet r

/-- The register before the first octet. -/
def crcInit : Crc := 0xFFFFFFFF#32

/-- The digest of an octet string. -/
def crc32 (l : List Byte) : Crc := ~~~ (crcTake crcInit l)

/-- A digest as four octets, most significant first (R55). -/
def crcOctets (c : Crc) : List Byte := be 4 c.toNat

end Sys2Proof.Machine
end

