-- ==== Sys2Proof/Machine/Record.lean ====
section
/-! DEFINITION. The canonical record (1.1, R182): its fields, the validation of R1, and the octets a valid record's
fields fix. -/

namespace Sys2Proof.Machine

/-- The rejection causes of R1, in test order. -/
inductive Rejection where
  | presence
  | startRange
  | digits
  | pad
  deriving DecidableEq, Repr

/-- The field values of a valid call record (1.1). -/
structure CallRecord where
  typeCode : Nat
  seq : Nat
  start : Int
  duration : Nat
  cause : Nat
  calling : List Nat
  called : List Nat
  route : Option Nat
  volume : Option Nat
  charge : Option Nat
  deriving DecidableEq, Repr

/-- A digit string of at most `n` digits 0..9. -/
def digitsOk (n : Nat) (d : List Nat) : Bool := d.length ≤ n && d.all (· ≤ 9)

/-- The ranges of the table of 1.1. -/
def CallRecord.ok (c : CallRecord) : Bool :=
  c.typeCode < 256 && c.seq < 2 ^ 32 && (-86400 ≤ c.start && c.start ≤ 86399) && c.duration < 2 ^ 24 && c.cause < 256
    && digitsOk 20 c.calling && digitsOk 24 c.called && c.route.all (· < 2 ^ 16) && c.volume.all (· < 2 ^ 40)
    && c.charge.all (· < 2 ^ 32)

/-- A signed number in 4 octets, two's complement. -/
def signed32 (v : Nat) : Int := if v < 2 ^ 31 then (v : Int) else (v : Int) - 2 ^ 32

/-! ### Fields by the offsets of R182 -/

def recPresence (r : List Byte) : Nat := octetAt r 1
def recStart (r : List Byte) : Int := signed32 (fieldAt r 6 4)
def recCallingCount (r : List Byte) : Nat := octetAt r 14
def recCallingNibbles (r : List Byte) : List Nat := nibbles (slice r 15 10)
def recCalledCount (r : List Byte) : Nat := octetAt r 25
def recCalledNibbles (r : List Byte) : List Nat := nibbles (slice r 26 12)

/-- Presence bit `i`: 0 route, 1 volume, 2 charge. -/
def recPresent (r : List Byte) (i : Nat) : Bool := (recPresence r).testBit i

/-- R1: the first test that fails gives the cause; `none` is a valid record. -/
def validate (r : List Byte) : Option Rejection :=
  if 8 ≤ recPresence r then some .presence
  else if recStart r < -86400 ∨ 86399 < recStart r then some .startRange
  else if 20 < recCallingCount r ∨ 24 < recCalledCount r
      ∨ ((recCallingNibbles r).take (recCallingCount r)).any (9 < ·)
      ∨ ((recCalledNibbles r).take (recCalledCount r)).any (9 < ·) then some .digits
  else if ((recCallingNibbles r).drop (recCallingCount r)).any (· ≠ 15)
      ∨ ((recCalledNibbles r).drop (recCalledCount r)).any (· ≠ 15)
      ∨ (!recPresent r 0 && fieldAt r 38 2 ≠ 0) ∨ (!recPresent r 1 && fieldAt r 40 5 ≠ 0)
      ∨ (!recPresent r 2 && fieldAt r 45 4 ≠ 0) then some .pad
  else none

/-- An optional field: its value when its presence flag is set. -/
def optField (present : Bool) (v : Nat) : Option Nat := if present then some v else none

/-- The field values of a canonical record (R182). -/
def readRecord (r : List Byte) : CallRecord :=
  { typeCode := octetAt r 0, seq := fieldAt r 2 4, start := recStart r, duration := fieldAt r 10 3,
    cause := octetAt r 13, calling := (recCallingNibbles r).take (recCallingCount r),
    called := (recCalledNibbles r).take (recCalledCount r), route := optField (recPresent r 0) (fieldAt r 38 2),
    volume := optField (recPresent r 1) (fieldAt r 40 5), charge := optField (recPresent r 2) (fieldAt r 45 4) }

/-- The presence octet: bit 0 route, bit 1 volume, bit 2 charge, the reserved bits clear (R182, R61). -/
def presenceOctet (c : CallRecord) : Nat :=
  c.route.isSome.toNat + 2 * c.volume.isSome.toNat + 4 * c.charge.isSome.toNat

/-- The 49 octets a valid record's field values fix (1.1, R61, R182). -/
def canonical (c : CallRecord) : List Byte :=
  be 1 c.typeCode ++ be 1 (presenceOctet c) ++ be 4 c.seq ++ be 4 (c.start % 2 ^ 32).toNat ++ be 3 c.duration
    ++ be 1 c.cause ++ be 1 c.calling.length ++ bcdField 10 c.calling ++ be 1 c.called.length ++ bcdField 12 c.called
    ++ be 2 (c.route.getD 0) ++ be 5 (c.volume.getD 0) ++ be 4 (c.charge.getD 0)

end Sys2Proof.Machine
end

