-- ==== Sys2Proof/Config.lean ====
section
/-! DEFINITION. The capacities the spec gives the FM4120, and the free values of the model. -/

namespace Sys2Proof.Config

/-- R19: the Intake FIFO holds up to 64 frames. -/
abbrev fifoCap : Nat := 64
/-- R159: the Directive Queue holds 8 directives. -/
abbrev directiveCap : Nat := 8
/-- R160: the Reply Queue has 16 places. -/
abbrev replyPlaces : Nat := 16
/-- R26: up to 4,096 Continuity records. -/
abbrev recordCap : Nat := 4096
/-- R35: up to 64 Day Table entries. -/
abbrev dayCap : Nat := 64
/-- R63: 32 segment buffers. -/
abbrev bufferCap : Nat := 32
/-- R67: at most 24 segments are OPEN. -/
abbrev openCap : Nat := 24
/-- R65: at most 32 runs in a segment. -/
abbrev runCap : Nat := 32
/-- Section 4.1: a payload is at most 1,048,064 octets. -/
abbrev payloadCap : Nat := 1048064
/-- R81: up to 4,194,304 Directory entries. -/
abbrev dirCap : Nat := 4194304
/-- R69: the highest segment id. -/
abbrev maxSegId : Nat := 4294967295
/-- R104: up to 64 erase entries in a target's Erase Queue. -/
abbrev eraseCap : Nat := 64
/-- R104: an issued erase has been suspended at most 8 times. -/
abbrev suspendCap : Nat := 8
/-- R142: the Audit Event Queue holds up to 64 events. -/
abbrev eventCap : Nat := 64
/-- R146: the Decode Queue holds up to 8 requests. -/
abbrev decodeCap : Nat := 8
/-- R146: at most 6 of the Decode Queue's places hold requests of origin SCRUB. -/
abbrev scrubCap : Nat := 6
/-- R128: the Hold Table holds up to 32 entries. -/
abbrev holdCap : Nat := 32
/-- The maximum of a 32-bit saturating counter. -/
abbrev max32 : Nat := 4294967295
/-- R78: buffers in use at which the flow state turns to PAUSE. -/
abbrev flowHigh : Nat := 30
/-- R78: buffers in use at or below which the flow state turns to GO. -/
abbrev flowLow : Nat := 26
/-- R180: the most canonical records in one RECORDS frame. -/
abbrev recordsPerFrame : Nat := 167
/-- R1, 01: octets of a canonical record. -/
abbrev recordOctets : Nat := 49

/-- FREE VALUE (log entry 24). What an evaluation of the current day or minute sees while the archive clock is
NOT_SET: R170 says the clock then has no reading, and R120 evaluates a Guard Window against "the archive clock's day"
at a SET GUARD that R140 allows before the first SET CLOCK. Nothing constrains it. -/
opaque unsetReading : Time

/-- FREE VALUE (log entry 50). The kind octet of the return frames of a family (3 FLOW, 4 REPLY, 5 NOTICE, 6 RECORDS): R180
gives every link frame a kind octet and numbers kinds for FILE and DIRECTIVE alone. Nothing constrains it. -/
opaque returnKind (family : Nat) : Byte

end Sys2Proof.Config
end

