-- ==== Sys2Proof/Syntax.lean ====
section
/-! DEFINITION. The commands of the FM4120: one constructor for each row of spec/opcode_table.json, in the table's
order. The table's rows are "the part's steps, each whole and indivisible" (95). A row in which the Directive Decoder
takes a directive carries no operand: code, tag and parameters stand in the Directive Queue's head (R161, log
entry 2). -/

namespace Sys2Proof

/-- A level of the protect line (R128). -/
inductive Level where
  | high
  | low
  deriving DecidableEq, Repr

/-- Which request an answer on a store link answers (R92 tells three cases apart; log entry 11). -/
inductive AnswerTo where
  /-- The request or beat now outstanding on the link. -/
  | live
  /-- A beat, SUSPEND or RESUME whose ack timer has already expired. -/
  | expired
  /-- No request outstanding (for instance one sent before an engine reset, R102). -/
  | stray
  deriving DecidableEq, Repr

/-- Which ack timer of a link controller expires: a beat's (R94), or that of a SUSPEND or RESUME (R106). -/
inductive AckTimer where
  | beat
  | eraseRequest
  deriving DecidableEq, Repr

/-- The commands, one for each row of spec/opcode_table.json. -/
inductive Instr where
  /-- POWER_ON (R178). -/
  | powerOn
  /-- RESET_INPUT (R178). -/
  | resetInput
  /-- LINK_LOSS (R165). -/
  | linkLoss
  /-- LINK_UP (R165). -/
  | linkUp
  /-- PROTECT_LINE_CHANGE (R130). -/
  | protectLineChange (level : Level)
  /-- FRAME_ARRIVAL (R158). -/
  | frameArrival (octets : List Byte)
  /-- LINK_RESET (R166). -/
  | linkReset
  /-- TAKE_FILE_OPEN (R8). -/
  | takeFileOpen
  /-- TAKE_FILE_DATA (R12). -/
  | takeFileData
  /-- TAKE_FILE_CLOSE (R15). -/
  | takeFileClose
  /-- TAKE_FILE_ABORT (R16). -/
  | takeFileAbort
  /-- OVERRUN_MARK_TAKEN (R21). -/
  | overrunMarkTaken (lane : LaneNo)
  /-- STALL_END (R20). -/
  | stallEnd
  /-- LANE_IDLE_TIMER_EXPIRY (R18). -/
  | laneIdleTimerExpiry (lane : LaneNo)
  /-- CLOCK_SECOND (R170). -/
  | clockSecond
  /-- HOLD_REMAINDER_END (R170). -/
  | holdRemainderEnd
  /-- CLOSE_DEADLINE_REACHED (R36). -/
  | closeDeadlineReached (day : Nat)
  /-- SWEEP_TIMER_MATCH (R111). -/
  | sweepTimerMatch
  /-- SWEEP_EXAMINATION (R117). -/
  | sweepExamination
  /-- COMMIT_BEGIN (R98). -/
  | commitBegin
  /-- ARBITER_BEGIN (R103). -/
  | arbiterBegin (target : TargetNo)
  /-- BEAT_ACCEPT (R93). -/
  | beatAccept (target : TargetNo) (answers : AnswerTo) (data : List Byte)
  /-- BEAT_ERROR (R93). -/
  | beatError (target : TargetNo) (answers : AnswerTo)
  /-- ACK_TIMER_EXPIRY (R94). -/
  | ackTimerExpiry (target : TargetNo) (timer : AckTimer)
  /-- ERASE_DONE (R107). -/
  | eraseDone (target : TargetNo) (answers : AnswerTo)
  /-- ERASE_ERROR (R108). -/
  | eraseError (target : TargetNo) (answers : AnswerTo)
  /-- SUSPENDED (R105). -/
  | suspended (target : TargetNo) (answers : AnswerTo)
  /-- RESUMED (R105). -/
  | resumed (target : TargetNo) (answers : AnswerTo)
  /-- ERASE_TIMER_EXPIRY (R106). -/
  | eraseTimerExpiry (target : TargetNo)
  /-- DECODE_ACTIVATE (R148). -/
  | decodeActivate
  /-- DECODE_COMPLETE (R61). -/
  | decodeComplete
  /-- RETURN_FRAME_BEGIN (R164). -/
  | returnFrameBegin
  /-- RETURN_FRAME_SENT (R164). -/
  | returnFrameSent
  /-- HOLD_PROGRAM_END (R132). -/
  | holdProgramEnd (ok : Bool)
  /-- DIRECTIVE_UNKNOWN (R161). -/
  | directiveUnknown
  /-- SET_CLOCK (R171). -/
  | setClock
  /-- LOAD_SOURCES (R24). -/
  | loadSources
  /-- LOAD_TYPE_MAP (R5). -/
  | loadTypeMap
  /-- LOAD_CLASSES (R5). -/
  | loadClasses
  /-- LOAD_DICTIONARY (R60). -/
  | loadDictionary
  /-- LOAD_TARGET (R85). -/
  | loadTarget
  /-- SET_TARGET (R90). -/
  | setTarget
  /-- SET_DAY_POLICY (R43). -/
  | setDayPolicy
  /-- SET_SWEEP (R114). -/
  | setSweep
  /-- SET_NOTICES (R173). -/
  | setNotices
  /-- SET_GUARD (R140). -/
  | setGuard
  /-- ADD_HOLD (R133). -/
  | addHold
  /-- DROP_HOLD (R138). -/
  | dropHold
  /-- SET_PROTECT_MODE (R131). -/
  | setProtectMode
  /-- START_ARCHIVE (R175). -/
  | startArchive
  /-- CLOSE_DAY (R38). -/
  | closeDay
  /-- WAIVE (R39). -/
  | waive
  /-- FLUSH (R72). -/
  | flush
  /-- SWEEP_NOW (R115). -/
  | sweepNow
  /-- SCRUB_NOW (R115). -/
  | scrubNow
  /-- VERIFY (R147). -/
  | verify
  /-- RETRIEVE (R147). -/
  | retrieve
  /-- RETRY_COMMITS (R101). -/
  | retryCommits
  /-- CLEAR_SUSPECT (R153). -/
  | clearSuspect
  /-- ENGINE_RESET (R178). -/
  | engineReset
  /-- INTAKE_RESET (R166). -/
  | intakeReset
  /-- READ_CLOCK (R170). -/
  | readClock
  /-- READ_STATUS (R169). -/
  | readStatus
  /-- READ_EVENTS (R144). -/
  | readEvents
  /-- READ_GAP_SUMMARY (R145). -/
  | readGapSummary
  /-- READ_SEGMENT (R83). -/
  | readSegment
  /-- READ_DAY (R44). -/
  | readDay
  /-- READ_CONTINUITY (R44). -/
  | readContinuity
  /-- READ_TARGET (R109). -/
  | readTarget
  /-- READ_HOLDS (R141). -/
  | readHolds
  /-- READ_LINK (R168). -/
  | readLink
  deriving DecidableEq, Repr

end Sys2Proof
end

