-- ==== Sys2Proof/Machine/State.lean ====
section
/-! DEFINITION. The state of the FM4120 as plain data: every table, queue, buffer, timer, counter and flag the spec
gives the part, block by block in the order of 00 section 2, and the state after power-on. -/

namespace Sys2Proof.Machine

/-! ### Stops -/

/-- Reasons a step could stop with a fault. The FM4120 has none: every finding of the spec is a counter, an audit
event, a reply code, a notice or a state, and the part goes on. -/
inductive Fault where
  deriving DecidableEq, Repr

/-- Reasons a command is refused. -/
inductive Refusal where
  /-- Raised by `exec`'s arm of a command that has no meaning yet; safe. No arm of this model raises it. -/
  | notModelled (mnemonic : String)
  deriving DecidableEq, Repr

/-! ### Archive Clock (10.1) and engine (10.3) -/

/-- R170. -/
inductive ClockMode where
  | notSet
  | running
  | holding
  deriving DecidableEq, Repr

/-- The archive clock (table of 10.1). The reading is absent while the mode is NOT_SET. -/
structure Clock where
  mode : ClockMode
  reading : Option Time
  remainder : Nat
  deriving DecidableEq, Repr

/-- The engine state (table of 10.3). -/
inductive EngineState where
  | unconfigured
  | rebuilding
  | running
  deriving DecidableEq, Repr

/-! ### Audit events (R142) -/

/-- The twelve event codes, in the order of the code table of R142. -/
inductive EventCode where
  | gap
  | defect
  | conflict
  | lateFile
  | fileRefused
  | fileAborted
  | sequenceJump
  | integrity
  | stranded
  | eraseFailed
  | eventsLost
  | rebuilt
  deriving DecidableEq, Repr

/-- R142. -/
inductive EventState where
  | opened
  | closed
  | point
  deriving DecidableEq, Repr

/-- The refusal causes of R8, in check order. -/
inductive RefuseCause where
  | notReady
  | unknownSource
  | slotRange
  | future
  | stale
  | dayTableFull
  | continuityFull
  deriving DecidableEq, Repr

/-- The abort causes of R17, in the order R17 lists them. -/
inductive AbortCause where
  | superseded
  | aborted
  | stalled
  | corrupt
  | format
  | overrun
  | reset
  deriving DecidableEq, Repr

/-- The causes an audit event may carry (R142). -/
inductive Cause where
  | late
  | waived
  | rejected
  | count
  | digest
  | noDigest
  | refuse (c : RefuseCause)
  | abort (c : AbortCause)
  | header
  | run
  | malformed
  | reverified
  | cleared
  | error
  | timeout
  deriving DecidableEq, Repr

/-- One audit event (R142). -/
structure AuditEvent where
  code : EventCode
  state : EventState
  cause : Option Cause
  source : Option Nat
  day : Option Nat
  slot : Option Nat
  segId : Option Nat
  target : Option Nat
  figure : Option Nat
  time : Option Time
  deriving DecidableEq, Repr

/-! ### Intake Port and Directive Decoder (09) -/

/-- What a file frame carries (R180), once it has passed the checks of R158 and R181. -/
inductive FileBody where
  | opening (source day slot seq : Nat)
  | data (payload : List Byte)
  | closing (declared : Nat) (crc : Crc)
  | aborting
  deriving DecidableEq, Repr

/-- A file frame in the Intake FIFO with its arrival time (R19). -/
structure FileFrame where
  lane : LaneNo
  body : FileBody
  arrival : Option Time
  deriving DecidableEq, Repr

/-- A directive in the Directive Queue: its code, tag and payload octets (R159, R180). -/
structure Directive where
  code : Nat
  tag : Tag
  payload : List Byte
  deriving DecidableEq, Repr

/-- The result codes of R163, in the order of its table. -/
inductive Result where
  | done
  | busy
  | refusedState
  | refusedRange
  | refusedProtect
  | notFound
  | tooLate
  | failed
  | unknown
  deriving DecidableEq, Repr

/-- A reply: tag, result code, CLAMPED mark and the octets of its figures and contents (R163, R180). -/
structure Reply where
  tag : Tag
  result : Result
  clamped : Bool
  figures : List Byte
  deriving DecidableEq, Repr

/-- R78. -/
inductive Flow where
  | pause
  | go
  deriving DecidableEq, Repr

/-- R165. -/
inductive LinkState where
  | up
  | lost
  deriving DecidableEq, Repr

/-- One RECORDS frame of a retrieval (R156). -/
structure RecordsFrame where
  tag : Tag
  number : Nat
  segId : Nat
  run : Nat
  final : Bool
  source : Nat
  slot : Nat
  records : List (List Byte)
  deriving DecidableEq, Repr

/-- The return frame in progress (R164). `placed` says that the reply still holds its Reply Queue place, `live`
that the RECORDS frame still belongs to the active request; an engine reset clears them (R167, R157). -/
inductive Sending where
  | flow (f : Flow)
  | reply (r : Reply) (placed : Bool)
  | notice (source : Fin 8) (count : Nat) (time : Option Time) (snapshot : List Byte)
  | records (f : RecordsFrame) (live : Bool)
  deriving DecidableEq, Repr

/-- The eleven link counters, in the order of R168. -/
structure LinkCounters where
  received : Nat := 0
  sent : Nat := 0
  checkFailures : Nat := 0
  lengthFaults : Nat := 0
  unknownKinds : Nat := 0
  overruns : Nat := 0
  refusedFull : Nat := 0
  dropped : Nat := 0
  losses : Nat := 0
  intakeResets : Nat := 0
  unknownDirectives : Nat := 0
  deriving DecidableEq, Repr

/-- The Intake Port. `replies` are the places holding a reply, oldest first; `reserved` the tags of the long
directives outstanding, one for each reserved place (R160). `placeDue`: a place that became free while the decoder
waited for one is due to its next take (R160, log entry 34). -/
structure Port where
  fifo : List FileFrame
  directives : List Directive
  replies : List Reply
  reserved : List Tag
  placeDue : Bool
  flow : Flow
  flowSlot : Option Flow
  sending : Option Sending
  link : LinkState
  counters : LinkCounters
  deriving DecidableEq, Repr

/-! ### File Assembler (01) -/

/-- R7. -/
inductive LaneState where
  | idle
  | receiving
  | suspect
  | discarding
  deriving DecidableEq, Repr

/-- R10, in the order R7 names them. -/
inductive Routing where
  | occupied
  | inProgress
  | settled
  deriving DecidableEq, Repr

/-- The facts copied from an accepted FILE_OPEN (R7, R10). -/
structure FileInfo where
  source : Nat
  day : Nat
  slot : Nat
  seq : Nat
  deriving DecidableEq, Repr

/-- One lane context (R7). `timer` holds the expiry time, in seconds as 10.1 counts readings, of a running idle
timer. `overrun` is the number of frames of the FIFO up to and including the one the mark records (R21). -/
structure Lane where
  state : LaneState
  file : Option FileInfo
  reason : Option Routing
  digest : Crc
  appended : Nat
  rejected : Nat
  timer : Option Nat
  overrun : Option Nat
  deriving DecidableEq, Repr

/-- Why the assembler holds a frame: it is part-way, between two of its records (R5), or it stalls on a step of R67 that
could not be made. -/
inductive StallCause where
  | between
  | ids
  | directory
  | buffer
  deriving DecidableEq, Repr

/-- What the assembler keeps of a frame it has not finished (R19, R20): the lane, the record in hand, the rest of the
frame, and why it is held. In a stall the record's octets are in the digest and it has its class (fixed by R4); `turnedAway`
says that it was offered to a segment that sealed for want of room (R66). Between two records the record in hand is the
next one, not yet taken; class and `turnedAway` then say nothing (log entry 32). -/
structure Hand where
  lane : LaneNo
  record : List Byte
  cls : ClassNo
  turnedAway : Bool
  rest : List (List Byte)
  cause : StallCause
  deriving DecidableEq, Repr

/-- The File Assembler: lanes, stall, rejection counters (R2), stray and discarded frame counters (R14). -/
structure Assembler where
  lanes : Vector Lane 8
  hand : Option Hand
  presence : Nat
  startRange : Nat
  digits : Nat
  pad : Nat
  stray : Nat
  discarded : Nat
  deriving DecidableEq, Repr

/-! ### Classification tables (R3) and Prefix Dictionary (R58) -/

/-- A Class Table entry (R3). -/
structure ClassEntry where
  retention : Nat
  target : TargetNo
  group : Fin 4
  enable : Bool
  deriving DecidableEq, Repr

/-- A Prefix Dictionary group: its filled places 0 up to the prefix count − 1, and its generation (R58). -/
structure DictGroup where
  prefixes : List (List Nat)
  generation : Nat
  deriving DecidableEq, Repr

/-- The loaded tables: Type Map (`none` is UNMAPPED), Class Table, Prefix Dictionary. -/
structure Tables where
  typeMap : Vector (Option ClassNo) 256
  classes : Vector ClassEntry 16
  dict : Vector DictGroup 4
  deriving DecidableEq, Repr

/-! ### Continuity Tracker (02) -/

/-- A Source Table entry (R23). -/
structure SourceEntry where
  active : Bool
  filesPerDay : Nat
  expected : Option Nat
  duplicates : Nat
  conflicts : Nat
  deriving DecidableEq, Repr

/-- R27. -/
inductive SlotState where
  | missing
  | inProgress
  | received
  | defective
  | waived
  deriving DecidableEq, Repr

/-- The stored facts of the file that filled a slot (R27). -/
structure SlotFacts where
  digest : Crc
  seq : Nat
  arrival : Option Time
  deriving DecidableEq, Repr

/-- A slot record (R27). -/
structure Slot where
  state : SlotState
  holder : Option LaneNo
  prior : Option SlotState
  facts : Option SlotFacts
  gapOpen : Bool
  deriving DecidableEq, Repr

/-- R26. -/
inductive RecordState where
  | collecting
  | reconciling
  deriving DecidableEq, Repr

/-- A Continuity record (R26). -/
structure ContRecord where
  source : Nat
  day : Nat
  expected : Nat
  slots : List Slot
  state : RecordState
  archived : Nat
  rejected : Nat
  duplicates : Nat
  conflicts : Nat
  suspects : Nat
  deriving DecidableEq, Repr

/-- An item of a day's retired list (R35, R40). -/
structure RetiredItem where
  source : Nat
  expected : Nat
  archived : Nat
  rejected : Nat
  duplicates : Nat
  conflicts : Nat
  deriving DecidableEq, Repr

/-- R35. -/
inductive DayState where
  | opened
  | closed
  deriving DecidableEq, Repr

/-- A Day Table entry (R35). -/
structure DayEntry where
  day : Nat
  state : DayState
  deadline : Nat
  live : Nat
  inProgress : Nat
  retired : List RetiredItem
  deriving DecidableEq, Repr

/-- The day policy (R43). -/
structure Policy where
  closeDelay : Nat
  acceptWindow : Nat
  laneTimeout : Nat
  deriving DecidableEq, Repr

/-- The Continuity Tracker. `records` stand in ascending day, then source; `days` in ascending day; bit d of
`settled` is the Settlement Map flag of day d (R42). -/
structure Tracker where
  sources : Vector SourceEntry 512
  records : List ContRecord
  days : List DayEntry
  settled : BitVec 65536
  policy : Policy
  deriving DecidableEq, Repr

/-! ### Record Coder (03) -/

/-- A coding context (R46). -/
structure Ctx where
  type : Nat
  seq : Nat
  start : Int
  cause : Nat
  calling : List Nat
  deriving DecidableEq, Repr

/-- An image the Record Coder works on, in its turn (R176): the read buffer of the active decode request, or the
scan buffer of a target. -/
inductive CoderJob where
  | request
  | scan (t : TargetNo)
  deriving DecidableEq, Repr

/-! ### Segment Builder and Segment Directory (04) -/

/-- R79, in its order. -/
inductive SegState where
  | opened
  | held
  | sealed
  | committing
  | stranded
  | stored
  | expiring
  deriving DecidableEq, Repr

/-- The seal reasons, in the order of their codes in the segment header (R184). -/
inductive SealReason where
  | full
  | runs
  | crowded
  | dayClosed
  | dictionary
  | flush
  deriving DecidableEq, Repr

/-- R73. -/
inductive RunStatus where
  | provisional
  | firm
  | void
  deriving DecidableEq, Repr

/-- A run record of a Directory entry's run list (R73). -/
structure RunRec where
  source : Nat
  slot : Nat
  status : RunStatus
  continued : Bool
  count : Nat
  digest : Option Crc
  firstSeq : Nat
  lane : Option LaneNo
  deriving DecidableEq, Repr

/-- A Segment Directory entry (R79). `place` is its target and extent. -/
structure SegEntry where
  id : Nat
  cls : ClassNo
  day : Nat
  state : SegState
  group : Nat
  generation : Nat
  place : Option (TargetNo × Nat)
  payloadLen : Nat
  recordCount : Nat
  runs : List RunRec
  segDigest : Option Crc
  sealReason : Option SealReason
  attempts : Nat
  verifyCount : Nat
  lastVerified : Option Nat
  suspect : Bool
  pins : Nat
  deriving DecidableEq, Repr

/-- The buffer's part of a run: its coded octets and, while it can still grow, its coding context; its run digest
register until the seal (R46, R56, R63). -/
structure BufRun where
  coded : List Byte
  ctx : Option Ctx
  reg : Option Crc
  deriving DecidableEq, Repr

/-- A segment buffer in use (R63). Its run headers and the other header image fields are those of the Directory
entry of the same id (log entry 30). -/
structure Buffer where
  segId : Nat
  dict : List (List Nat)
  runs : List BufRun
  lastPlacement : Nat
  deriving DecidableEq, Repr

/-- An entry of the open-segment index (R64). -/
structure IndexEntry where
  cls : ClassNo
  day : Nat
  segId : Nat
  deriving DecidableEq, Repr

/-- A FLUSH waiting for the ends of the segments it sealed (R72). -/
structure FlushWait where
  tag : Tag
  awaited : List Nat
  count : Nat
  stored : Nat
  stranded : Nat
  discarded : Nat
  deriving DecidableEq, Repr

/-- The Segment Builder. `nextId` is absent when the ids are exhausted (R69). -/
structure Builder where
  buffers : List Buffer
  openIndex : List IndexEntry
  nextId : Option Nat
  placement : Nat
  opened : Nat
  flush : Option FlushWait
  deriving DecidableEq, Repr

/-! ### Commit Engine (05) -/

/-- An entry of the Commit Queue, and the current commit: a segment and its stranded-before mark (R96). -/
structure CommitEntry where
  segId : Nat
  strandedBefore : Bool
  deriving DecidableEq, Repr

/-- The Commit Engine. `waited`: PRESSURE has been made pending and no commit has begun since (R97). -/
structure CommitEngine where
  queue : List CommitEntry
  current : Option CommitEntry
  waited : Bool
  deriving DecidableEq, Repr

/-! ### Store Link Controllers (05) -/

/-- R86. -/
inductive TargetState where
  | absent
  | scanning
  | online
  | degraded
  | offline
  deriving DecidableEq, Repr

/-- R88. -/
inductive ExtentState where
  | free
  | allocated
  | written
  | erasing
  | bad
  deriving DecidableEq, Repr

/-- An erase entry (R104). Group members are extent and segment id, in ascending extent order. -/
inductive EraseEntry where
  | single (extent : Nat) (segId : Nat)
  | group (g : Nat) (members : List (Nat × Nat)) (fillers : List Nat)
  deriving DecidableEq, Repr

/-- R105. -/
inductive EraseState where
  | running
  | suspendRequested
  | suspended
  | resumeRequested
  deriving DecidableEq, Repr

/-- The erase slot: the head entry of the Erase Queue is issued (R104). Timer and timeout in seconds (R106). -/
structure EraseSlot where
  state : EraseState
  suspends : Nat
  timer : Nat
  timeout : Nat
  deriving DecidableEq, Repr

/-- What a transfer moves: the commit write, a decode read, or a read of a scan. -/
inductive XferKind where
  | write
  | read
  | scan
  deriving DecidableEq, Repr

/-- A transfer in progress (R93, R95). Beats `first` to `beats` − 1 of the extent, with the unit size and gather flag
it began with (R85); beat `beat` is in flight with ack timeout `ackMs` (R94). `image` is what a write sends. `cut`: its
target has gone OFFLINE and a read ends at its next answer (R91). -/
structure Xfer where
  kind : XferKind
  extent : Nat
  first : Nat
  beats : Nat
  unitSize : Nat
  gather : Bool
  beat : Nat
  ackMs : Nat
  image : List Byte
  cut : Bool
  deriving DecidableEq, Repr

/-- A decode read handed to an arbiter: the extent and the payload length of the entry at that moment (R95, R148). -/
structure ReadJob where
  extent : Nat
  payloadLen : Nat
  deriving DecidableEq, Repr

/-- The reply a scan owes: of LOAD TARGET, with its CLAMPED mark and first figures (R85, R87), or of START ARCHIVE,
whose tag each of its scans holds (R177). -/
structure ScanReply where
  tag : Tag
  clamped : Bool
  figures : List Byte
  deriving DecidableEq, Repr

/-- A scan in progress (R87, R176): whether START ARCHIVE made it, the extent being classified (the extent count once
the last is classified), the scan buffer, the entries made and the reply owed. -/
structure Scan where
  rebuild : Bool
  extent : Nat
  buf : List Byte
  made : List Nat
  reply : Option ScanReply
  deriving DecidableEq, Repr

/-- One Store Link Controller with its target's configuration (R84), state (R86), Extent Map (R88), Erase Queue and
slot (R104), arbiter (R103), transfer, scan and counters (R92, R109). -/
structure Target where
  configured : Bool
  extents : Option Nat
  unitSize : Option Nat
  gather : Option Bool
  ackMs : Nat
  eraseSecs : Nat
  state : TargetState
  faults : Nat
  map : Option (List ExtentState)
  queue : List EraseEntry
  erase : Option EraseSlot
  waitWrite : Bool
  waitRead : Option ReadJob
  xfer : Option Xfer
  scan : Option Scan
  expired : Nat
  unexpected : Nat
  late : Nat
  writeFails : Nat
  readFails : Nat
  erasesDone : Nat
  eraseFails : Nat
  suspensions : Nat
  deriving DecidableEq, Repr

/-! ### Expiry Engine (06) -/

/-- R110. -/
inductive SweepMode where
  | off
  | single
  | cyclic
  deriving DecidableEq, Repr

/-- R110. -/
inductive PassKind where
  | sweep
  | scrub
  deriving DecidableEq, Repr

/-- R124. -/
inductive PassOrigin where
  | timer
  | directive
  deriving DecidableEq, Repr

/-- R117. -/
inductive StopCause where
  | batch
  | round
  | queueFull
  | empty
  deriving DecidableEq, Repr

/-- Reasons an entry is kept, in the order of the tests of R119. -/
inductive KeepReason where
  | retained
  | unsettled
  | suspect
  | pinned
  | guarded
  | heldBy
  deriving DecidableEq, Repr

/-- The counts a sweep pass gathers for its summary (R124). -/
structure PassCounts where
  examined : Nat := 0
  expiring : Nat := 0
  allVoid : Nat := 0
  eligible : Vector Nat 16 := Vector.replicate 16 0
  kept : Vector Nat 6 := Vector.replicate 6 0
  coalesced : Nat := 0
  deriving DecidableEq, Repr

/-- A running pass (R116): its kind, origin, starting id, whether its walk has wrapped, the batch it took, the oldest
day it took (R120), its skipped flag and its counts. A scrub pass begins and ends within one step (R154), so a pass
that is found running is a sweep. -/
structure Pass where
  kind : PassKind
  origin : PassOrigin
  startId : Nat
  wrapped : Bool
  batch : Nat
  oldest : Option Nat
  skipped : Bool
  counts : PassCounts
  deriving DecidableEq, Repr

/-- A pass summary (R124). For a scrub pass `queued` holds the VERIFY requests queued. -/
structure Summary where
  kind : PassKind
  origin : PassOrigin
  stop : Option StopCause
  stopTarget : Option TargetNo
  counts : PassCounts
  queued : Nat
  skipped : Bool
  cursor : Nat
  erased : Nat
  failed : Nat
  deriving DecidableEq, Repr

/-- The Expiry Engine (R110, R116, R125). -/
structure Expiry where
  mode : SweepMode
  alternate : Bool
  interval : Nat
  batch : Nat
  scrubBatch : Nat
  count : Nat
  nextKind : PassKind
  cursor : Nat
  pass : Option Pass
  erased : Nat
  failed : Nat
  last : Option Summary
  deriving DecidableEq, Repr

/-! ### Hold Store (07) -/

/-- R129. -/
inductive HoldKind where
  | revocable
  | irrevocable
  deriving DecidableEq, Repr

/-- A hold entry (R129) with its mark for removal (R138). -/
structure Hold where
  id : Nat
  firstDay : Nat
  lastDay : Nat
  classMask : BitVec 16
  kind : HoldKind
  release : Option Nat
  marked : Bool
  deriving DecidableEq, Repr

/-- R120. -/
inductive Anchor where
  | newest
  | oldest
  deriving DecidableEq, Repr

/-- The Guard Window (R120). -/
structure Guard where
  anchor : Anchor
  span : Nat
  complement : Bool
  deriving DecidableEq, Repr

/-- R130. -/
inductive ProtectMode where
  | opened
  | line
  | pinned
  deriving DecidableEq, Repr

/-- What the non-volatile memory holds (R128). -/
structure NvStore where
  holds : List Hold
  guard : Guard
  mode : ProtectMode
  level : Level
  deriving DecidableEq, Repr

/-- The three figures of an acceptance (R136). -/
structure Figures where
  rescued : Nat := 0
  lost : Nat := 0
  deferred : Nat := 0
  deriving DecidableEq, Repr

/-- The operation the program unit has in hand (R132), with what its end needs. -/
inductive HoldOp where
  | add (tag : Tag) (entry : Hold) (figs : Figures)
  | drop (tag : Tag) (id : Nat)
  | guard (tag : Tag) (old : Guard) (figs : Figures)
  | mode (tag : Tag) (oldMode : ProtectMode) (oldLevel : Level)
  | lapse (ids : List Nat)
  deriving DecidableEq, Repr

/-- The Hold Store: working copy (entries in ascending hold id), non-volatile copy, the protect line, the program
unit, and the lapse removals pending and those whose write failed (R128, R132, R139). -/
structure HoldStore where
  holds : List Hold
  guard : Guard
  mode : ProtectMode
  level : Level
  nv : NvStore
  line : Level
  unit : Option HoldOp
  lapsePending : List (List Nat)
  lapseFailed : List Nat
  deriving DecidableEq, Repr

/-! ### Audit Unit (08) -/

/-- R146. -/
inductive RequestKind where
  | verify
  | retrieve
  deriving DecidableEq, Repr

/-- A decode request (R146). An absent `origin` is SCRUB. -/
structure Request where
  kind : RequestKind
  segId : Nat
  origin : Option Tag
  filter : Option Nat
  deriving DecidableEq, Repr

/-- How far the active request has come: its read is with a target's arbiter, its image is with the Record Coder, or
its RECORDS frames are being sent. -/
inductive ActivePhase where
  | reading (t : TargetNo)
  | decoding
  | sending
  deriving DecidableEq, Repr

/-- The Audit Unit. `active` is present while the head of `requests` is active (R146). `output` are the RECORDS frames
still to be sent, the first of them offered (R156). -/
structure Audit where
  events : List AuditEvent
  lost : Nat
  gaps : BitVec 512
  requests : List Request
  active : Option ActivePhase
  readBuffer : List Byte
  output : List RecordsFrame
  scrubMatch : Nat
  scrubMismatch : Nat
  scrubMalformed : Nat
  scrubReadFail : Nat
  deriving DecidableEq, Repr

/-! ### Notice Arbiter (10.2) -/

/-- R173. -/
inductive NoticeMode where
  | fixed
  | promote
  | silent
  deriving DecidableEq, Repr

/-- A notice source (R173). -/
structure NoticeSource where
  flag : Bool
  snapshot : List Byte
  time : Option Time
  count : Nat
  enable : Bool
  deriving DecidableEq, Repr

/-- The Notice Arbiter: sources AUDIT 0, DAY 1, COMMIT 2, TARGET 3, SWEEP 4, PRESSURE 5, HOLD 6, START 7 (R173). -/
structure Notices where
  sources : Vector NoticeSource 8
  master : Bool
  mode : NoticeMode
  promoted : Fin 8
  deriving DecidableEq, Repr

/-! ### The whole part -/

/-- The state of the FM4120, and the queue of commands that wait (the model's own: first in, first out). -/
structure State where
  pending : List Instr
  engine : EngineState
  current : Option Directive
  clock : Clock
  port : Port
  asm : Assembler
  tables : Tables
  tracker : Tracker
  builder : Builder
  dir : List SegEntry
  commit : CommitEngine
  targets : Vector Target 4
  expiry : Expiry
  hold : HoldStore
  audit : Audit
  coder : List CoderJob
  notices : Notices
  deriving DecidableEq, Repr

/-- R7: the values of an IDLE lane. The digest register has no stated value (log entry 6). -/
def Lane.reset : Lane :=
  { state := .idle, file := none, reason := none, digest := 0xFFFFFFFF#32, appended := 0, rejected := 0,
    timer := none, overrun := none }

/-- R84, R86, R88, R92, R109, R104: a target at power-on. -/
def Target.reset : Target :=
  { configured := false, extents := none, unitSize := none, gather := none, ackMs := 20, eraseSecs := 10,
    state := .absent, faults := 0, map := none, queue := [], erase := none, waitWrite := false, waitRead := none,
    xfer := none, scan := none, expired := 0, unexpected := 0, late := 0, writeFails := 0, readFails := 0,
    erasesDone := 0, eraseFails := 0, suspensions := 0 }

/-- R167, R78, R165, R168. -/
def Port.reset : Port :=
  { fifo := [], directives := [], replies := [], reserved := [], placeDue := false, flow := .pause,
    flowSlot := some .pause, sending := none, link := .lost, counters := {} }

/-- R7, R2, R14. -/
def Assembler.reset : Assembler :=
  { lanes := Vector.replicate 8 Lane.reset, hand := none, presence := 0, startRange := 0, digits := 0, pad := 0,
    stray := 0, discarded := 0 }

/-- R3, R58. -/
def Tables.reset : Tables :=
  { typeMap := Vector.replicate 256 none,
    classes := Vector.replicate 16 { retention := 0, target := 0, group := 0, enable := false },
    dict := Vector.replicate 4 { prefixes := [], generation := 0 } }

/-- R23: a Source Table entry after power-on. -/
def SourceEntry.reset : SourceEntry :=
  { active := false, filesPerDay := 1, expected := none, duplicates := 0, conflicts := 0 }

/-- R23, R26, R35, R42, R43. -/
def Tracker.reset : Tracker :=
  { sources := Vector.replicate 512 SourceEntry.reset,
    records := [], days := [], settled := 0, policy := { closeDelay := 240, acceptWindow := 35, laneTimeout := 300 } }

/-- R63, R64, R69. -/
def Builder.reset : Builder :=
  { buffers := [], openIndex := [], nextId := some 1, placement := 0, opened := 0, flush := none }

/-- R110, R116, R125. -/
def Expiry.reset : Expiry :=
  { mode := .off, alternate := false, interval := 60, batch := 4096, scrubBatch := 4, count := 0, nextKind := .sweep,
    cursor := 1, pass := none, erased := 0, failed := 0, last := none }

/-- R128: the non-volatile memory of a part as delivered. -/
def NvStore.factory : NvStore :=
  { holds := [], guard := { anchor := .newest, span := 0, complement := false }, mode := .opened, level := .high }

/-- R128: the Hold Store after power-on with the given non-volatile contents and protect line. PINNED becomes OPEN in
the working copy alone. -/
def HoldStore.powerOn (nv : NvStore) (line : Level) : HoldStore :=
  { holds := nv.holds, guard := nv.guard, mode := if nv.mode = .pinned then .opened else nv.mode, level := nv.level,
    nv := nv, line := line, unit := none, lapsePending := [], lapseFailed := [] }

/-- R142, R145, R146, R155. -/
def Audit.reset : Audit :=
  { events := [], lost := 0, gaps := 0, requests := [], active := none, readBuffer := [], output := [],
    scrubMatch := 0, scrubMismatch := 0, scrubMalformed := 0, scrubReadFail := 0 }

/-- R173. -/
def Notices.reset : Notices :=
  { sources := Vector.replicate 8 { flag := false, snapshot := [], time := none, count := 0, enable := false },
    master := false, mode := .fixed, promoted := 0 }

/-- The part after power-on with a given Hold Store; the command queue is empty (R178). -/
def State.powerOnWith (h : HoldStore) : State :=
  { pending := [], engine := .unconfigured, current := none,
    clock := { mode := .notSet, reading := none, remainder := 0 },
    port := Port.reset, asm := Assembler.reset, tables := Tables.reset, tracker := Tracker.reset,
    builder := Builder.reset, dir := [], commit := { queue := [], current := none, waited := false },
    targets := Vector.replicate 4 Target.reset, expiry := Expiry.reset, hold := h, audit := Audit.reset, coder := [],
    notices := Notices.reset }

/-- The machine right after power-on, with the Hold Store of a part as delivered (R128) and the protect line LOW
(log entry 5). -/
def State.reset : State := State.powerOnWith (HoldStore.powerOn NvStore.factory .low)

end Sys2Proof.Machine
end

