-- ==== Sys2Proof/Machine/Coder.lean ====
section
/-! DEFINITION. The Record Coder's arithmetic (03): coding a record against a context and a dictionary copy, and
decoding it again. -/

namespace Sys2Proof.Machine

/-- The context at its reset values (R46). -/
def Ctx.reset : Ctx := { type := 0, seq := 0, start := 0, cause := 0, calling := [] }

/-- The context after a record is placed or decoded (R46). -/
def Ctx.after (c : CallRecord) : Ctx :=
  { type := c.typeCode, seq := c.seq, start := c.start, cause := c.cause, calling := c.calling }

/-! ### Encodings (R53) -/

/-- A varint of at most `f` + 1 octets, lowest-order group first. -/
def varintAux : Nat → Nat → List Byte
  | 0, v => [BitVec.ofNat 8 (v % 128)]
  | f + 1, v =>
    if v < 128 then [BitVec.ofNat 8 v] else BitVec.ofNat 8 (v % 128 + 128) :: varintAux f (v / 128)

/-- The varint of a value below 2^42. -/
def varint (v : Nat) : List Byte := varintAux 5 v

/-- R53. -/
def zigzag (d : Int) : Nat := if 0 ≤ d then (2 * d).toNat else (-2 * d - 1).toNat

/-- R53: the reverse mapping. -/
def unzigzag (z : Nat) : Int := if z % 2 = 0 then ((z / 2 : Nat) : Int) else -(((z + 1) / 2 : Nat) : Int)

/-- R49: the signed step from the previous sequence, in −2^31..2^31−1. -/
def seqStep (prev cur : Nat) : Int :=
  let d : Nat := (cur + 2 ^ 32 - prev) % 2 ^ 32
  if 2 ^ 31 ≤ d then (d : Int) - 2 ^ 32 else (d : Int)

/-- R51: the number of leading positions at which two numbers hold the same digit. -/
def sharedDigits : List Nat → List Nat → Nat
  | a :: s, b :: t => if a = b then sharedDigits s t + 1 else 0
  | _, _ => 0

/-- R52: the longest filled place of a dictionary copy whose digits begin the number: its index and length.
`i` is the index of the first place of the list, `best` the longest found so far. -/
def longestMatch (called : List Nat) : List (List Nat) → Nat → Option (Nat × Nat) → Option (Nat × Nat)
  | [], _, best => best
  | p :: t, i, best =>
    let better := p ≠ [] ∧ p.isPrefixOf called = true ∧ (best.map Prod.snd).getD 0 < p.length
    longestMatch called t (i + 1) (if better then some (i, p.length) else best)

/-! ### Coding (R47 to R52) -/

/-- R51: the calling code and the digits that differ. -/
def codeCalling (prev cur : List Nat) : List Byte :=
  let p := sharedDigits prev cur
  varint (p * 21 + (cur.length - p)) ++ bcd (cur.drop p)

/-- R52: the called code and the digits beyond the match. -/
def codeCalled (dict : List (List Nat)) (called : List Nat) : List Byte :=
  match longestMatch called dict 0 none with
  | none => varint called.length ++ bcd called
  | some (i, len) => varint ((i + 1) * 25 + (called.length - len)) ++ bcd (called.drop len)

/-- The control octet (R183): TYPE_SAME 0, SEQ_NEXT 1, CAUSE_SAME 2, ROUTE 3, VOLUME 4, CHARGE 5. -/
def controlOctet (x : Ctx) (c : CallRecord) : Nat :=
  (decide (c.typeCode = x.type)).toNat + 2 * (decide (seqStep x.seq c.seq = 1)).toNat
    + 4 * (decide (c.cause = x.cause)).toNat + 8 * c.route.isSome.toNat + 16 * c.volume.isSome.toNat
    + 32 * c.charge.isSome.toNat

/-- An optional field: nothing when absent, its varint when present (R48). -/
def codeOpt : Option Nat → List Byte
  | none => []
  | some v => varint v

/-- R47: the coded record, its fields in order. -/
def codeRecord (x : Ctx) (dict : List (List Nat)) (c : CallRecord) : List Byte :=
  be 1 (controlOctet x c)
    ++ (if c.typeCode = x.type then [] else be 1 c.typeCode)
    ++ (if seqStep x.seq c.seq = 1 then [] else varint (zigzag (seqStep x.seq c.seq)))
    ++ varint (zigzag (c.start - x.start)) ++ varint c.duration
    ++ codeCalling x.calling c.calling ++ codeCalled dict c.called
    ++ (if c.cause = x.cause then [] else be 1 c.cause)
    ++ codeOpt c.route ++ codeOpt c.volume ++ codeOpt c.charge

/-! ### Decoding (R61, R62). `none` is a malformed finding. -/

/-- A varint of at most `f` octets. -/
def getVarintAux : Nat → List Byte → Option (Nat × List Byte)
  | 0, _ => none
  | _ + 1, [] => none
  | f + 1, b :: t =>
    if b.toNat < 128 then some (b.toNat, t)
    else match getVarintAux f t with
      | none => none
      | some (v, u) => some (v * 128 + b.toNat % 128, u)

/-- R62: a varint whose sixth octet carries the continuation mark is malformed. -/
def getVarint (l : List Byte) : Option (Nat × List Byte) := getVarintAux 6 l

/-- One octet. -/
def getOctet : List Byte → Option (Nat × List Byte)
  | [] => none
  | b :: t => some (b.toNat, t)

/-- `r` BCD digits (R53): a digit above 9, or a pad nibble other than 15, is malformed. -/
def getDigits (r : Nat) (l : List Byte) : Option (List Nat × List Byte) :=
  let n := (r + 1) / 2
  let ns := nibbles (l.take n)
  if l.length < n ∨ (ns.take r).any (9 < ·) ∨ (ns.drop r).any (· ≠ 15) then none
  else some (ns.take r, l.drop n)

/-- R61: the calling number, from the shared count and the digits that follow. -/
def getCalling (prev : List Nat) (l : List Byte) : Option (List Nat × List Byte) :=
  match getVarint l with
  | none => none
  | some (code, l) =>
    let p := code / 21
    let r := code % 21
    if prev.length < p ∨ 20 < p + r then none
    else match getDigits r l with
      | none => none
      | some (d, l) => some (prev.take p ++ d, l)

/-- R61: the called number, from the dictionary copy (an empty place is an empty list) and the digits that follow. -/
def getCalled (dict : List (List Nat)) (l : List Byte) : Option (List Nat × List Byte) :=
  match getVarint l with
  | none => none
  | some (code, l) =>
    let m := code / 25
    let r := code % 25
    let stem := if m = 0 then [] else (dict[m - 1]?).getD []
    if 64 < m ∨ (m ≠ 0 ∧ stem = []) ∨ 24 < stem.length + r then none
    else match getDigits r l with
      | none => none
      | some (d, l) => some (stem ++ d, l)

/-- An optional field with its maximum (R62). -/
def getOpt (present : Bool) (max : Nat) (l : List Byte) : Option (Option Nat × List Byte) :=
  if present then
    match getVarint l with
    | none => none
    | some (v, l) => if max < v then none else some (some v, l)
  else some (none, l)

/-- A field that the control octet may mark "same as before" (R48). -/
def getSame (same : Bool) (prev : Nat) (l : List Byte) : Option (Nat × List Byte) :=
  if same then some (prev, l) else getOctet l

/-- R49 undone. -/
def getSeq (next : Bool) (prev : Nat) (l : List Byte) : Option (Nat × List Byte) :=
  if next then some ((prev + 1) % 2 ^ 32, l)
  else match getVarint l with
    | none => none
    | some (z, l) =>
      if 2 ^ 32 ≤ z then none else some ((((prev : Int) + unzigzag z) % 2 ^ 32).toNat, l)

/-- R50 undone. -/
def getStart (prev : Int) (l : List Byte) : Option (Int × List Byte) :=
  match getVarint l with
  | none => none
  | some (z, l) =>
    let v := prev + unzigzag z
    if v < -86400 ∨ 86399 < v then none else some (v, l)

/-- R50 undone. -/
def getDuration (l : List Byte) : Option (Nat × List Byte) :=
  match getVarint l with
  | none => none
  | some (v, l) => if 16777215 < v then none else some (v, l)

/-- R61, R62: one coded record, its fields in the order of R47. -/
def decodeRecord (x : Ctx) (dict : List (List Nat)) (l : List Byte) : Option (CallRecord × List Byte) := do
  let (ctl, l) ← getOctet l
  if 64 ≤ ctl then none else
  let (ty, l) ← getSame (ctl.testBit 0) x.type l
  let (sq, l) ← getSeq (ctl.testBit 1) x.seq l
  let (st, l) ← getStart x.start l
  let (du, l) ← getDuration l
  let (cg, l) ← getCalling x.calling l
  let (cd, l) ← getCalled dict l
  let (ca, l) ← getSame (ctl.testBit 2) x.cause l
  let (ro, l) ← getOpt (ctl.testBit 3) 65535 l
  let (vo, l) ← getOpt (ctl.testBit 4) (2 ^ 40 - 1) l
  let (ch, l) ← getOpt (ctl.testBit 5) (2 ^ 32 - 1) l
  some ({ typeCode := ty, seq := sq, start := st, duration := du, cause := ca, calling := cg, called := cd,
          route := ro, volume := vo, charge := ch }, l)

/-- R61 step 3: `count` coded records of a run, the first with record index `i`; an error names the record index. -/
def decodeRecords (dict : List (List Nat)) :
    Nat → Nat → Ctx → List Byte → Except Nat (List CallRecord × List Byte)
  | 0, _, _, l => .ok ([], l)
  | count + 1, i, x, l =>
    match decodeRecord x dict l with
    | none => .error i
    | some (c, l) =>
      match decodeRecords dict count (i + 1) (Ctx.after c) l with
      | .error j => .error j
      | .ok (cs, l) => .ok (c :: cs, l)

end Sys2Proof.Machine
end

