-- ==== Sys2Proof/Machine/Image.lean ====
section
/-! DEFINITION. The segment image (R184): writing it from a Directory entry and its buffer, reading its header, and
walking its payload (R61, R62, R185). -/

namespace Sys2Proof.Machine

/-! ### Codes -/

/-- R184: seal reasons 1 FULL to 6 FLUSH. -/
def sealCode : SealReason → Nat
  | .full => 1
  | .runs => 2
  | .crowded => 3
  | .dayClosed => 4
  | .dictionary => 5
  | .flush => 6

/-- R184, backwards. -/
def sealOfCode : Nat → Option SealReason
  | 1 => some .full
  | 2 => some .runs
  | 3 => some .crowded
  | 4 => some .dayClosed
  | 5 => some .dictionary
  | 6 => some .flush
  | _ => none

/-- R184: the status octet of a run header: 1 FIRM, 2 VOID, bit 7 CONTINUED. -/
def runStatusOctet (r : RunRec) : Nat :=
  (match r.status with
    | .provisional => 0
    | .firm => 1
    | .void => 2) + (if r.continued then 128 else 0)

/-- The digest an absent one is written as: it is only written once it is fixed (R56, R57). -/
def digestNat (d : Option Crc) : Nat := (d.map BitVec.toNat).getD 0

/-! ### Writing an image -/

/-- R184: the 16 octets of a run header. -/
def runHeaderOctets (r : RunRec) : List Byte :=
  be 2 r.source ++ be 1 r.slot ++ be 1 (runStatusOctet r) ++ be 4 r.count ++ be 4 (digestNat r.digest)
    ++ be 4 r.firstSeq

/-- The payload: runs laid end to end, each its header and its coded records (4.1; log entry 7). -/
def payloadOctets : List RunRec → List BufRun → List Byte
  | r :: rs, b :: bs => runHeaderOctets r ++ b.coded ++ payloadOctets rs bs
  | _, _ => []

/-- R184: the dictionary copy, 64 places. -/
def dictOctets (dict : List (List Nat)) : List Byte :=
  (dict.map placeOctets ++ List.replicate (64 - dict.length) (placeOctets [])).flatten

/-- R184: octets 0 to 507 of the header. -/
def headerBody (e : SegEntry) (dict : List (List Nat)) : List Byte :=
  be 4 e.id ++ be 2 e.day ++ be 1 e.cls.val ++ be 1 ((e.sealReason.map sealCode).getD 0) ++ be 1 e.group
    ++ be 1 e.generation ++ be 1 dict.length ++ be 1 e.runs.length ++ be 4 e.payloadLen
    ++ be 4 (digestNat e.segDigest) ++ List.replicate 40 0 ++ dictOctets dict

/-- R184: the header with its header check. -/
def headerOctets (e : SegEntry) (dict : List (List Nat)) : List Byte :=
  headerBody e dict ++ crcOctets (crc32 (headerBody e dict))

/-- The segment image a commit writes: header and payload (R93, R98). -/
def segmentImage (e : SegEntry) (b : Buffer) : List Byte :=
  headerOctets e b.dict ++ payloadOctets e.runs b.runs

/-! ### Reading a header -/

/-- The fields of a segment header as read (R184). `places` are the dictionary places below the prefix count, each
its length octet and its digits. -/
structure Header where
  segId : Nat
  day : Nat
  cls : Nat
  reason : Nat
  group : Nat
  generation : Nat
  prefixCount : Nat
  runCount : Nat
  payloadLen : Nat
  digest : Nat
  places : List (Nat × List Nat)
  deriving DecidableEq, Repr

/-- Read the header of an image. -/
def readHeader (img : List Byte) : Header :=
  { segId := fieldAt img 0 4, day := fieldAt img 4 2, cls := octetAt img 6, reason := octetAt img 7,
    group := octetAt img 8, generation := octetAt img 9, prefixCount := octetAt img 10, runCount := octetAt img 11,
    payloadLen := fieldAt img 12 4, digest := fieldAt img 16 4,
    places := (pieces (min (octetAt img 10) 64) 7 (img.drop 60)).map fun p => (octetAt p 0, placeDigits p) }

/-- The dictionary copy a decoder uses: an empty place is an empty list (R185). -/
def Header.dict (h : Header) : List (List Nat) := h.places.map Prod.snd

/-- Two filled places hold the same string. -/
def repeatsPlace : List (List Nat) → Bool
  | [] => false
  | p :: t => (p ≠ [] && t.contains p) || repeatsPlace t

/-- R62, row Header. -/
def Header.malformed (h : Header) : Bool :=
  h.runCount = 0 || 32 < h.runCount || 1048064 < h.payloadLen || 64 < h.prefixCount
    || h.places.any (fun p => 12 < p.1 || p.2.any (9 < ·)) || repeatsPlace h.dict

/-- R176: a header is sound. -/
def soundHeader (img : List Byte) : Bool :=
  let h := readHeader img
  fieldAt img 508 4 = (crc32 (img.take 508)).toNat && 512 ≤ img.length && 1 ≤ h.segId && h.cls ≤ 15
    && (sealOfCode h.reason).isSome && !h.malformed

/-! ### Walking the payload -/

/-- A run as decoded (R61): its header values, its records, and its recomputed run digest. -/
structure DecRun where
  source : Nat
  slot : Nat
  statusOctet : Nat
  count : Nat
  digest : Nat
  firstSeq : Nat
  records : List CallRecord
  recomputed : Crc
  deriving DecidableEq, Repr

/-- The run's status is FIRM. -/
def DecRun.firm (r : DecRun) : Bool := r.statusOctet % 4 = 1

/-- The CONTINUED flag of the run. -/
def DecRun.continued (r : DecRun) : Bool := r.statusOctet.testBit 7

/-- Where a malformed finding was made (R62): a run index and a record index, each absent where it has none. -/
structure Finding where
  run : Option Nat
  record : Option Nat
  deriving DecidableEq, Repr

/-- R62 and R185, row Run header, on 16 octets. -/
def runHeaderMalformed (h : List Byte) : Bool :=
  h.length < 16 || fieldAt h 4 4 = 0 || octetAt h 3 % 4 = 0 || octetAt h 3 % 4 = 3 || 4 ≤ octetAt h 3 % 128
    || 511 < fieldAt h 0 2 || 95 < octetAt h 2

/-- The digest of a run's records (R56). -/
def runDigest (cs : List CallRecord) : Crc := ~~~ (cs.foldl (fun r c => crcTake r (canonical c)) crcInit)

/-- The segment digest over run digests (R57). -/
def segmentDigest (ds : List Crc) : Crc := crc32 (ds.map crcOctets).flatten

/-- R61: decode `left` runs, the first with run index `i`. -/
def decodeRuns (dict : List (List Nat)) : Nat → Nat → List Byte → Except Finding (List DecRun × List Byte)
  | 0, _, l => .ok ([], l)
  | left + 1, i, l =>
    let h := l.take 16
    if runHeaderMalformed h then .error { run := some i, record := none }
    else match decodeRecords dict (fieldAt h 4 4) 0 Ctx.reset (l.drop 16) with
      | .error j => .error { run := some i, record := some j }
      | .ok (cs, l) =>
        match decodeRuns dict left (i + 1) l with
        | .error f => .error f
        | .ok (rs, l) =>
          .ok ({ source := fieldAt h 0 2, slot := octetAt h 2, statusOctet := octetAt h 3, count := fieldAt h 4 4,
                 digest := fieldAt h 8 4, firstSeq := fieldAt h 12 4, records := cs, recomputed := runDigest cs } :: rs,
               l)

/-- R61, R62: decode a whole image. Octets beyond the payload length are not examined (R185). The indexes of an
End-of-payload finding, the last run and no record, are the model's choice (log entry 8). -/
def decodeImage (img : List Byte) : Except Finding (List DecRun) :=
  let h := readHeader img
  if h.malformed then .error { run := none, record := none }
  else
    let payload := slice img 512 h.payloadLen
    match decodeRuns h.dict h.runCount 0 payload with
    | .error f => .error f
    | .ok (rs, rest) =>
      if rest = [] ∧ payload.length = h.payloadLen then .ok rs
      else .error { run := some (h.runCount - 1), record := none }

end Sys2Proof.Machine
end

