-- ==== Sys2Proof/Machine/Ops.lean ====
section
/-! DEFINITION. The shared operations over the state: one update for each block, lookups and updates of the tables by
their keys, raising an audit event, making a notice source pending, and the Reply Queue. -/

namespace Sys2Proof.Machine

/-! ### One update for each block -/

def State.setEngine (s : State) (e : EngineState) : State := { s with engine := e }
def State.setCurrent (s : State) (d : Option Directive) : State := { s with current := d }
def State.onClock (s : State) (f : Clock → Clock) : State := { s with clock := f s.clock }
def State.onPort (s : State) (f : Port → Port) : State := { s with port := f s.port }
def State.onAsm (s : State) (f : Assembler → Assembler) : State := { s with asm := f s.asm }
def State.onTables (s : State) (f : Tables → Tables) : State := { s with tables := f s.tables }
def State.onTracker (s : State) (f : Tracker → Tracker) : State := { s with tracker := f s.tracker }
def State.onBuilder (s : State) (f : Builder → Builder) : State := { s with builder := f s.builder }
def State.onDir (s : State) (f : List SegEntry → List SegEntry) : State := { s with dir := f s.dir }
def State.onCommit (s : State) (f : CommitEngine → CommitEngine) : State := { s with commit := f s.commit }
def State.onTargets (s : State) (f : Vector Target 4 → Vector Target 4) : State := { s with targets := f s.targets }
def State.onExpiry (s : State) (f : Expiry → Expiry) : State := { s with expiry := f s.expiry }
def State.onHold (s : State) (f : HoldStore → HoldStore) : State := { s with hold := f s.hold }
def State.onAudit (s : State) (f : Audit → Audit) : State := { s with audit := f s.audit }
def State.onCoder (s : State) (f : List CoderJob → List CoderJob) : State := { s with coder := f s.coder }
def State.onNotices (s : State) (f : Notices → Notices) : State := { s with notices := f s.notices }

/-! ### Lanes, targets -/

/-- The context of a lane (R7). -/
def State.lane (s : State) (l : LaneNo) : Lane := vget s.asm.lanes l

/-- Change one lane context. -/
def State.onLane (s : State) (l : LaneNo) (f : Lane → Lane) : State :=
  s.onAsm fun a => { a with lanes := vset a.lanes l (f (vget a.lanes l)) }

/-- The controller of a target (R84). -/
def State.target (s : State) (t : TargetNo) : Target := vget s.targets t

/-- Change one Store Link Controller. -/
def State.onTarget (s : State) (t : TargetNo) (f : Target → Target) : State :=
  s.onTargets fun v => vset v t (f (vget v t))

/-- The lanes in ascending number. -/
def allLanes : List LaneNo := [0, 1, 2, 3, 4, 5, 6, 7]

/-- The targets in ascending number. -/
def allTargets : List TargetNo := [0, 1, 2, 3]

/-! ### The present time -/

/-- The clock's reading as an evaluation of the current day or minute sees it; free while NOT_SET (log entry 24). -/
def State.now (s : State) : Time := s.clock.reading.getD Config.unsetReading

/-- The current day (R8, R119). -/
def State.today (s : State) : Nat := s.now.day

/-! ### Segment Directory (R81) and segment buffers (R63) -/

/-- The entry with a segment id (R81). -/
def State.entry? (s : State) (id : Nat) : Option SegEntry := s.dir.find? (·.id = id)

/-- Change the entry with a segment id. -/
def updateEntry (id : Nat) (f : SegEntry → SegEntry) (d : List SegEntry) : List SegEntry :=
  d.map fun e => if e.id = id then f e else e

/-- Remove the entry with a segment id; the order of the rest is unchanged (R81). -/
def removeEntry (id : Nat) (d : List SegEntry) : List SegEntry := d.filter (·.id ≠ id)

/-- Insert an entry at its place in segment-id order (R81, R87). -/
def insertEntry (e : SegEntry) : List SegEntry → List SegEntry
  | [] => [e]
  | x :: t => if e.id < x.id then e :: x :: t else x :: insertEntry e t

/-- Change the entry with a segment id. -/
def State.onEntry (s : State) (id : Nat) (f : SegEntry → SegEntry) : State := s.onDir (updateEntry id f)

/-- The buffer of a segment. -/
def State.buffer? (s : State) (id : Nat) : Option Buffer := s.builder.buffers.find? (·.segId = id)

/-- Change the buffer of a segment. -/
def State.onBuffer (s : State) (id : Nat) (f : Buffer → Buffer) : State :=
  s.onBuilder fun b => { b with buffers := b.buffers.map fun x => if x.segId = id then f x else x }

/-- Free the buffer of a segment (R63). -/
def State.freeBuffer (s : State) (id : Nat) : State :=
  s.onBuilder fun b => { b with buffers := b.buffers.filter (·.segId ≠ id) }

/-- The number of entries in a state (R77). -/
def State.countState (s : State) (st : SegState) : Nat := s.dir.countP (·.state = st)

/-! ### Continuity Tracker tables -/

/-- The Source Table entry of a source; a number above 511 has none and reads as inactive (R23, R181). -/
def State.source (s : State) (n : Nat) : SourceEntry := vgetD s.tracker.sources n SourceEntry.reset

/-- Change the Source Table entry of a source. -/
def State.onSource (s : State) (n : Nat) (f : SourceEntry → SourceEntry) : State :=
  s.onTracker fun k => { k with sources := vmod k.sources n f }

/-- The Continuity record of a source and day (R26). -/
def State.record? (s : State) (source day : Nat) : Option ContRecord :=
  s.tracker.records.find? fun r => r.source = source ∧ r.day = day

/-- Change the Continuity record of a source and day. -/
def State.onRecord (s : State) (source day : Nat) (f : ContRecord → ContRecord) : State :=
  s.onTracker fun k =>
    { k with records := k.records.map fun r => if r.source = source ∧ r.day = day then f r else r }

/-- Insert a Continuity record, in ascending day, then source. -/
def insertRecord (r : ContRecord) : List ContRecord → List ContRecord
  | [] => [r]
  | x :: t => if r.day < x.day ∨ (r.day = x.day ∧ r.source < x.source) then r :: x :: t else x :: insertRecord r t

/-- The Day Table entry of a day (R35). -/
def State.day? (s : State) (day : Nat) : Option DayEntry := s.tracker.days.find? (·.day = day)

/-- Change the Day Table entry of a day. -/
def State.onDay (s : State) (day : Nat) (f : DayEntry → DayEntry) : State :=
  s.onTracker fun k => { k with days := k.days.map fun d => if d.day = day then f d else d }

/-- Insert a Day Table entry, in ascending day. -/
def insertDay (d : DayEntry) : List DayEntry → List DayEntry
  | [] => [d]
  | x :: t => if d.day < x.day then d :: x :: t else x :: insertDay d t

/-- The slot of a record; slots are 0 up to the expected file count − 1 (R26). -/
def ContRecord.slot? (r : ContRecord) (i : Nat) : Option Slot := r.slots[i]?

/-- Change one slot of a record. -/
def ContRecord.onSlot (r : ContRecord) (i : Nat) (f : Slot → Slot) : ContRecord :=
  { r with slots := r.slots.modify i f }

/-- Change one slot of the Continuity record of a source and day. -/
def State.onSlot (s : State) (source day slot : Nat) (f : Slot → Slot) : State :=
  s.onRecord source day fun r => r.onSlot slot f

/-! ### Notices (R173) -/

abbrev noticeAudit : Fin 8 := 0
abbrev noticeDay : Fin 8 := 1
abbrev noticeCommit : Fin 8 := 2
abbrev noticeTarget : Fin 8 := 3
abbrev noticeSweep : Fin 8 := 4
abbrev noticePressure : Fin 8 := 5
abbrev noticeHold : Fin 8 := 6
abbrev noticeStart : Fin 8 := 7

/-- R173: a source is made pending: flag set, snapshot and cause time replaced, cause count up by one. -/
def NoticeSource.pend (n : NoticeSource) (snap : List Byte) (time : Option Time) : NoticeSource :=
  { n with flag := true, snapshot := snap, time := time, count := satAdd 255 n.count 1 }

/-- Make a notice source pending, with its snapshot. -/
def State.notify (s : State) (src : Fin 8) (snap : List Byte) : State :=
  s.onNotices fun n => { n with sources := vset n.sources src ((vget n.sources src).pend snap s.clock.reading) }

/-! ### Audit events (R142, R143, R145) -/

/-- An event of a code and state raised now, carrying nothing yet. -/
def State.event (s : State) (code : EventCode) (state : EventState) : AuditEvent :=
  { code := code, state := state, cause := none, source := none, day := none, slot := none, segId := none,
    target := none, figure := none, time := s.clock.reading }

/-- R145: GAP OPENED, DEFECT OPENED and CONFLICT mark their source in the Gap Summary. -/
def AuditEvent.marksGap (e : AuditEvent) : Bool :=
  (e.code = .gap && e.state = .opened) || (e.code = .defect && e.state = .opened) || e.code = .conflict

/-- R145: set a source's flag. -/
def setGap (gaps : BitVec 512) (source : Nat) : BitVec 512 := gaps ||| BitVec.twoPow 512 source

/-- R143, R145: what an offered event does to the Audit Unit. -/
def Audit.offer (a : Audit) (e : AuditEvent) : Audit :=
  let a := if e.marksGap then { a with gaps := setGap a.gaps (e.source.getD 512) } else a
  if a.events.length < Config.eventCap then { a with events := a.events ++ [e] }
  else { a with lost := satAdd 65535 a.lost 1 }

/-- The AUDIT notice's snapshot: events in queue and lost counter (R143). -/
def Audit.snapshot (a : Audit) : List Byte := be 4 a.events.length ++ be 4 a.lost

/-- R143: offer an event to the Audit Event Queue and make the AUDIT notice source pending. -/
def State.raise (s : State) (e : AuditEvent) : State :=
  let s := s.onAudit (·.offer e)
  s.notify noticeAudit s.audit.snapshot

/-- Offer several events in order. -/
def State.raiseAll (s : State) (es : List AuditEvent) : State := es.foldl State.raise s

/-! ### Replies (R160 to R163) -/

/-- Places neither holding a reply nor reserved (R160). -/
def Port.freePlaces (p : Port) : Nat := Config.replyPlaces - (p.replies.length + p.reserved.length)

/-- Place a reply; replies are queued in the order in which they are made (R160). -/
def State.putReply (s : State) (r : Reply) : State := s.onPort fun p => { p with replies := p.replies ++ [r] }

/-- Answer a directive: result, CLAMPED mark clear, figures. -/
def State.answer (s : State) (tag : Tag) (result : Result) (figures : List Byte) : State :=
  s.putReply { tag := tag, result := result, clamped := false, figures := figures }

/-- R162: reserve a free place for a long directive, which is then outstanding. -/
def State.reserve (s : State) (tag : Tag) : State := s.onPort fun p => { p with reserved := p.reserved ++ [tag] }

/-- R162: the reply of a long directive goes into its reserved place. -/
def State.complete (s : State) (r : Reply) : State :=
  s.onPort fun p => { p with reserved := p.reserved.erase r.tag, replies := p.replies ++ [r] }

/-- Complete a long directive without the CLAMPED mark. -/
def State.completeWith (s : State) (tag : Tag) (result : Result) (figures : List Byte) : State :=
  s.complete { tag := tag, result := result, clamped := false, figures := figures }

end Sys2Proof.Machine
end

