-- ==== Sys2Proof/Machine/Flags.lean ====
section
/-! DEFINITION. The flags: the flow state (R78), the Settlement Map (R42), class masks, the Guard Window (R120) and hold
coverage (R121), and the retirement and settlement conditions (R40, R41). -/

namespace Sys2Proof.Machine

/-! ### Flow state (R78) -/

/-- Buffers in use (R77). -/
def State.buffersInUse (s : State) : Nat := s.builder.buffers.length

/-- R78: the flow state the buffers in use and the engine state set. -/
def flowNext (engine : EngineState) (inUse : Nat) (f : Flow) : Flow :=
  match f with
  | .go => if Config.flowHigh ≤ inUse then .pause else .go
  | .pause => if inUse ≤ Config.flowLow ∧ engine = .running then .go else .pause

/-- R78: the flow state an engine reset recomputes. -/
def flowRecompute (engine : EngineState) (inUse : Nat) (f : Flow) : Flow :=
  if engine ≠ .running ∨ Config.flowHigh ≤ inUse then .pause
  else if inUse ≤ Config.flowLow then .go else f

/-- R78: test the flow state after a change of buffers in use or engine state; a change queues a FLOW frame. -/
def State.checkFlow (s : State) : State :=
  let f := flowNext s.engine s.buffersInUse s.port.flow
  if f = s.port.flow then s else s.onPort fun p => { p with flow := f, flowSlot := some f }

/-- R78: queue a FLOW frame carrying the present flow state (R164: it takes the FLOW slot). -/
def State.queueFlow (s : State) : State := s.onPort fun p => { p with flowSlot := some p.flow }

/-! ### Settlement Map (R42) -/

/-- The Settlement Map flag of a day. -/
def State.isSettled (s : State) (day : Nat) : Bool := s.tracker.settled.getLsbD day

/-- Set the Settlement Map flag of a day. -/
def State.settleFlag (s : State) (day : Nat) : State :=
  s.onTracker fun k => { k with settled := k.settled ||| BitVec.twoPow 65536 day }

/-- The day has a Day Table entry in state OPEN (R71, R74). -/
def State.dayIsOpen (s : State) (day : Nat) : Bool :=
  match s.day? day with
  | some d => d.state = .opened
  | none => false

/-! ### Slots and records -/

/-- R27: accounted. -/
def Slot.accounted (x : Slot) : Bool := x.state = .received || x.state = .waived

/-- R27: occupied. -/
def Slot.occupied (x : Slot) : Bool := x.state = .received || x.state = .defective

/-- R40: what a record of a CLOSED day needs to retire. -/
def ContRecord.canRetire (r : ContRecord) : Bool := r.slots.all Slot.accounted && r.suspects = 0

/-- R41: what a day needs to settle. -/
def DayEntry.canSettle (d : DayEntry) : Bool := d.state = .closed && d.live = 0 && d.inProgress = 0

/-! ### Guard Window (R120) and holds (R121) -/

/-- The lowest day among STORED entries (R120). -/
def oldestDay (d : List SegEntry) : Option Nat :=
  d.foldl (fun m e => if e.state = .stored then some ((m.map (min e.day)).getD e.day) else m) none

/-- R120: the range before complement. -/
def Guard.inRange (g : Guard) (today : Nat) (oldest : Option Nat) (day : Nat) : Bool :=
  if g.span = 0 then false
  else match g.anchor with
    | .newest => decide (today + 1 - g.span ≤ day ∧ day ≤ today)
    | .oldest => match oldest with
      | none => false
      | some o => decide (o ≤ day ∧ day ≤ min 65535 (o + g.span - 1))

/-- R120: the Guard Window covers a day. -/
def Guard.covers (g : Guard) (today : Nat) (oldest : Option Nat) (day : Nat) : Bool :=
  g.inRange today oldest day ^^ g.complement

/-- R121: a hold covers a day and class. -/
def Hold.covers (h : Hold) (day : Nat) (cls : ClassNo) : Bool :=
  h.firstDay ≤ day && day ≤ h.lastDay && h.classMask.getLsbD cls.val

/-- The protect line is active: it stands at the active level (R130). -/
def HoldStore.lineActive (h : HoldStore) : Bool := h.line = h.level

/-! ### Segments -/

/-- A run is PROVISIONAL. -/
def RunRec.isProvisional (r : RunRec) : Bool := r.status = .provisional

/-- Every run is VOID, that is, no run is FIRM or PROVISIONAL (R76, R118). -/
def SegEntry.allVoid (e : SegEntry) : Bool := e.runs.all (·.status = .void)

/-- Some run is FIRM. -/
def SegEntry.hasFirm (e : SegEntry) : Bool := e.runs.any (·.status = .firm)

/-- Some run is PROVISIONAL. -/
def SegEntry.hasProvisional (e : SegEntry) : Bool := e.runs.any RunRec.isProvisional

end Sys2Proof.Machine
end

