-- ==== Sys2Proof/Machine/Builder.lean ====
section
/-! DEFINITION. The Segment Builder (04): opening, filling, sealing and discarding segments, resolving runs, and the
waiting FLUSH. -/

namespace Sys2Proof.Machine

/-! ### The waiting FLUSH (R72) -/

/-- The ends of a segment a waiting FLUSH counts (R72). -/
inductive FlushEnd where
  | stored
  | stranded
  | discarded
  deriving DecidableEq, Repr

/-- Count one end of an awaited segment; a segment is counted at the first end it reaches. -/
def FlushWait.countEnd (w : FlushWait) (id : Nat) (k : FlushEnd) : FlushWait :=
  let w := { w with awaited := w.awaited.filter (· ≠ id) }
  match k with
  | .stored => { w with stored := w.stored + 1 }
  | .stranded => { w with stranded := w.stranded + 1 }
  | .discarded => { w with discarded := w.discarded + 1 }

/-- The figures of a waiting FLUSH's reply: sealed, stored, stranded, discarded. -/
def FlushWait.figures (w : FlushWait) : List Byte := be 4 w.count ++ be 4 w.stored ++ be 4 w.stranded ++ be 4 w.discarded

/-- R72: a FLUSH waiting on the segment counts its end, and replies when every sealed segment has ended. -/
def State.flushEnd (s : State) (id : Nat) (k : FlushEnd) : State :=
  match s.builder.flush with
  | none => s
  | some w =>
    if w.awaited.contains id then
      let w := w.countEnd id k
      if w.awaited = [] then
        (s.onBuilder fun b => { b with flush := none }).completeWith w.tag .done w.figures
      else s.onBuilder fun b => { b with flush := some w }
    else s

/-! ### Sealing (R70) -/

/-- R56: at the seal the run digest register is inverted into the run digest. -/
def fixDigest (r : RunRec) (b : BufRun) : RunRec :=
  match b.reg with
  | none => r
  | some c => { r with digest := some (~~~ c) }

/-- R56 for every run of a segment. -/
def fixDigests : List RunRec → List BufRun → List RunRec
  | r :: rs, b :: bs => fixDigest r b :: fixDigests rs bs
  | rs, _ => rs

/-- R46, R56: the contexts are discarded and the registers given up. -/
def BufRun.close (b : BufRun) : BufRun := { b with ctx := none, reg := none }

/-- R70 steps 2 to 4: the entry as the seal leaves it. -/
def SegEntry.seal (e : SegEntry) (runs : List BufRun) (reason : SealReason) : SegEntry :=
  let rs := fixDigests e.runs runs
  { e with
    runs := rs
    segDigest := some (segmentDigest (rs.map fun r => r.digest.getD 0))
    sealReason := some reason
    state := if e.hasProvisional then .held else .sealed }

/-- Remove a segment from the open-segment index (R64, R70). -/
def State.unindex (s : State) (id : Nat) : State :=
  s.onBuilder fun b => { b with openIndex := b.openIndex.filter (·.segId ≠ id) }

/-- R70: seal an OPEN segment: index, runs, segment digest, state, Commit Queue. -/
def State.sealSegment (s : State) (reason : SealReason) (id : Nat) : State :=
  let runs := ((s.buffer? id).map Buffer.runs).getD []
  (((s.unindex id).onEntry id fun e => e.seal runs reason).onBuffer id
      fun b => { b with runs := b.runs.map BufRun.close }).onCommit
    fun c => { c with queue := c.queue ++ [{ segId := id, strandedBefore := false }] }

/-- Seal several segments in the order given. -/
def State.sealAll (s : State) (reason : SealReason) (ids : List Nat) : State :=
  ids.foldl (fun s id => s.sealSegment reason id) s

/-- The OPEN segments that satisfy a condition, in ascending id: R72's order for FLUSH, and the model's choice for the
seals of a day close, LOAD CLASSES and LOAD DICTIONARY (log entry 41). -/
def State.openSegments (s : State) (p : SegEntry → Bool) : List Nat :=
  (s.dir.filter fun e => e.state = .opened && p e).map SegEntry.id

/-! ### Discarding (R76) -/

/-- R76: discard a segment: index, Commit Queue, Directory entry, buffer. -/
def State.discardSegment (s : State) (id : Nat) : State :=
  (((((s.unindex id).onCommit fun c => { c with queue := c.queue.filter (·.segId ≠ id) }).onDir
      (removeEntry id)).freeBuffer id).flushEnd id .discarded).checkFlow

/-! ### Resolving runs (R74, R75, R76, R71) -/

/-- R74 step 1 for one run of the file on a lane. -/
def RunRec.resolve (l : LaneNo) (st : RunStatus) (r : RunRec) : RunRec :=
  if r.lane = some l then { r with status := st, lane := none } else r

/-- R74 step 2: what FIRM runs add to the entry's record count. -/
def SegEntry.firmed (e : SegEntry) (l : LaneNo) : Nat :=
  (e.runs.map fun r => if r.lane = some l then r.count else 0).sum

/-- R74 steps 1 and 2. -/
def SegEntry.resolve (e : SegEntry) (l : LaneNo) (st : RunStatus) : SegEntry :=
  { e with
    runs := e.runs.map (RunRec.resolve l st)
    recordCount := if st = .firm then e.recordCount + e.firmed l else e.recordCount }

/-- The file on a lane has a PROVISIONAL run in the segment. -/
def SegEntry.hasLane (e : SegEntry) (l : LaneNo) : Bool := e.runs.any (·.lane = some l)

/-- R46: the contexts of the file's runs are discarded when the file ends. -/
def dropContexts (l : LaneNo) : List RunRec → List BufRun → List BufRun
  | r :: rs, b :: bs => (if r.lane = some l then { b with ctx := none } else b) :: dropContexts l rs bs
  | _, bs => bs

/-- R74 step 3: the segment's state is tested, by R76, R75 and R71. -/
def State.testSegment (s : State) (id : Nat) : State :=
  match s.entry? id with
  | none => s
  | some e =>
    if (e.state = .opened ∨ e.state = .held) ∧ e.allVoid then s.discardSegment id
    else if e.state = .held ∧ ¬ e.hasProvisional then s.onEntry id fun e => { e with state := .sealed }
    else if e.state = .opened ∧ ¬ e.hasProvisional ∧ ¬ s.dayIsOpen e.day then s.sealSegment .dayClosed id
    else s

/-- R74: resolve the runs of the file on a lane in one segment. -/
def State.resolveIn (s : State) (l : LaneNo) (st : RunStatus) (id : Nat) : State :=
  match s.entry? id with
  | none => s
  | some e =>
    ((s.onBuffer id fun b => { b with runs := dropContexts l e.runs b.runs }).onEntry id
      fun e => e.resolve l st).testSegment id

/-- R74: the end of the file on a lane resolves its runs in every segment that holds one; the order of the segments is the
model's choice (ascending id, log entry 41). -/
def State.resolveRuns (s : State) (l : LaneNo) (st : RunStatus) : State :=
  ((s.dir.filter fun e => e.hasLane l).map SegEntry.id).foldl (fun s id => s.resolveIn l st id) s

/-! ### Opening (R67, R68, R69) -/

/-- R69: the next segment id after one is given. -/
def nextAfter (id : Nat) : Option Nat := if Config.maxSegId ≤ id then none else some (id + 1)

/-- R79: a new entry. -/
def SegEntry.new (id : Nat) (cls : ClassNo) (day group generation : Nat) : SegEntry :=
  { id := id, cls := cls, day := day, state := .opened, group := group, generation := generation, place := none,
    payloadLen := 0, recordCount := 0, runs := [], segDigest := none, sealReason := none, attempts := 0,
    verifyCount := 0, lastVerified := none, suspect := false, pins := 0 }

/-- R68: the OPEN segment whose last placement number is lowest. -/
def State.crowdedChoice (s : State) : Option Nat :=
  let opens := s.openSegments fun _ => true
  let bufs := s.builder.buffers.filter fun b => opens.contains b.segId
  (bufs.foldl (fun m b => match m with
    | none => some b
    | some x => if b.lastPlacement < x.lastPlacement then some b else some x) (none : Option Buffer)).map Buffer.segId

/-- R67 step 3: with 24 segments OPEN, a CROWDED seal. -/
def State.crowdedSeal (s : State) : State :=
  if Config.openCap ≤ s.countState .opened then
    match s.crowdedChoice with
    | none => s
    | some id => s.sealSegment .crowded id
  else s

/-- R67 step 5: the opening, with the id given. -/
def State.openSegment (s : State) (cls : ClassNo) (day id : Nat) : State :=
  let g := (vget s.tables.classes cls).group
  let d := vget s.tables.dict g
  ((s.onDir (insertEntry (SegEntry.new id cls day g.val d.generation))).onBuilder fun b =>
    { b with
      buffers := b.buffers ++ [{ segId := id, dict := d.prefixes, runs := [], lastPlacement := b.placement }]
      openIndex := b.openIndex ++ [{ cls := cls, day := day, segId := id }]
      nextId := nextAfter id
      opened := b.opened + 1 }).checkFlow

/-! ### Placing a record (R64 to R66) -/

/-- How a placement ends: the record is placed, or the assembler stalls on it (R20, R67). `turnedAway` says that the
record was offered to a segment that sealed for want of room for it (R66). -/
inductive Placement where
  | placed (s : State)
  | stalled (s : State) (cause : StallCause) (turnedAway : Bool)

/-- The run of the file on a lane in a run list, by index (R65: it can still grow). -/
def runIndex (l : LaneNo) (runs : List RunRec) : Option Nat := runs.findIdx? (·.lane = some l)

/-- R66: the file has a run of the class in an earlier segment, which sealed while the file was open. -/
def State.hasEarlierRun (s : State) (l : LaneNo) (cls : ClassNo) (id : Nat) : Bool :=
  s.dir.any fun e => e.id ≠ id && e.cls = cls && e.hasLane l

/-- A record to place: its lane, class, octets, file, and whether it was turned away (R66). -/
structure Offer where
  lane : LaneNo
  cls : ClassNo
  octets : List Byte
  file : FileInfo
  turnedAway : Bool

/-- The context and new-run flag a record is coded with in a segment (R45, R65). -/
def codingOf (l : LaneNo) (e : SegEntry) (b : Buffer) : Ctx × Bool :=
  match runIndex l e.runs with
  | none => (Ctx.reset, true)
  | some i => (((b.runs[i]?).bind BufRun.ctx).getD Ctx.reset, false)

/-- R65: the fit rule. -/
def fits (e : SegEntry) (begins : Bool) (len : Nat) : Bool :=
  !(begins && Config.runCap ≤ e.runs.length)
    && e.payloadLen + (if begins then 16 else 0) + len ≤ Config.payloadCap

/-- R65: the entry's run list after the placement. -/
def placeRun (o : Offer) (c : CallRecord) (continued : Bool) (runs : List RunRec) : List RunRec :=
  match runIndex o.lane runs with
  | none => runs ++ [{ source := o.file.source, slot := o.file.slot, status := .provisional, continued := continued,
                       count := 1, digest := none, firstSeq := c.seq, lane := some o.lane }]
  | some i => runs.modify i fun r => { r with count := r.count + 1 }

/-- R45: the buffer's part of the run after the placement. -/
def placeBuf (o : Offer) (c : CallRecord) (coded : List Byte) (runs : List RunRec) (bufs : List BufRun) :
    List BufRun :=
  match runIndex o.lane runs with
  | none => bufs ++ [{ coded := coded, ctx := some (Ctx.after c), reg := some (crcTake crcInit o.octets) }]
  | some i => bufs.modify i fun b =>
      { coded := b.coded ++ coded, ctx := some (Ctx.after c), reg := b.reg.map fun r => crcTake r o.octets }

/-- R65, R45: append a record that fits: payload, run, context, digest register and placement numbers. -/
def State.appendRecord (s : State) (o : Offer) (e : SegEntry) (b : Buffer) (coded : List Byte) : State :=
  let c := readRecord o.octets
  let begins := (codingOf o.lane e b).2
  let continued := o.turnedAway || s.hasEarlierRun o.lane o.cls e.id
  let n := s.builder.placement + 1
  ((s.onEntry e.id fun x =>
      { x with
        payloadLen := x.payloadLen + (if begins then 16 else 0) + coded.length
        runs := placeRun o c continued x.runs }).onBuffer e.id fun x =>
      { x with runs := placeBuf o c coded e.runs x.runs, lastPlacement := n }).onBuilder
    fun k => { k with placement := n }

/-- R65: try to append to the OPEN segment with an id; `none` when the record does not fit, with the seal reason. -/
def State.tryAppend (s : State) (o : Offer) (id : Nat) : State ⊕ SealReason :=
  match s.entry? id, s.buffer? id with
  | some e, some b =>
    let (x, begins) := codingOf o.lane e b
    let coded := codeRecord x b.dict (readRecord o.octets)
    if fits e begins coded.length then .inl (s.appendRecord o e b coded)
    else .inr (if begins && Config.runCap ≤ e.runs.length then .runs else .full)
  | _, _ => .inl s

/-- R67: open a new segment for a record and append it as the first record of its first run, or stall. -/
def State.openFor (s : State) (o : Offer) : Placement :=
  match s.builder.nextId with
  | none => .stalled s .ids o.turnedAway
  | some id =>
    if Config.dirCap ≤ s.dir.length then .stalled s .directory o.turnedAway
    else
      let s := s.crowdedSeal
      if Config.bufferCap ≤ s.buffersInUse then .stalled s .buffer o.turnedAway
      else match (s.openSegment o.cls o.file.day id).tryAppend o id with
        | .inl s => .placed s
        | .inr _ => .placed (s.openSegment o.cls o.file.day id)

/-- R64: place a record: append to the OPEN segment of its class and day, seal it first (R66), or open a new one. -/
def State.place (s : State) (o : Offer) : Placement :=
  match s.builder.openIndex.find? fun x => x.cls = o.cls ∧ x.day = o.file.day with
  | none => s.openFor o
  | some x =>
    match s.tryAppend o x.segId with
    | .inl s => .placed s
    | .inr reason => (s.sealSegment reason x.segId).openFor { o with turnedAway := true }

end Sys2Proof.Machine
end

