-- ==== Sys2Proof/Machine/Tracker.lean ====
section
/-! DEFINITION. The Continuity Tracker (02): open, close and abort outcomes, judging suspect files, day close,
retirement and settlement. -/

namespace Sys2Proof.Machine

/-- An event about a slot (2.9): source, day and slot. -/
def State.slotEvent (s : State) (code : EventCode) (state : EventState) (source day slot : Nat) : AuditEvent :=
  { s.event code state with source := some source, day := some day, slot := some slot }

/-! ### Retirement and settlement (R40, R41) -/

/-- R40: the item a retiring record adds to its day's retired list. -/
def ContRecord.retiredItem (r : ContRecord) : RetiredItem :=
  { source := r.source, expected := r.expected, archived := r.archived, rejected := r.rejected,
    duplicates := r.duplicates, conflicts := r.conflicts }

/-- R40: a record of a day retires. -/
def ContRecord.retires (day : Nat) (r : ContRecord) : Bool := r.day = day && r.canRetire

/-- R40: retirement is tested for the records of a day; it is made only while the day is CLOSED. -/
def State.testRetirement (s : State) (day : Nat) : State :=
  match s.day? day with
  | none => s
  | some d =>
    if d.state = .closed then
      let gone := s.tracker.records.filter (ContRecord.retires day)
      (s.onTracker fun k => { k with records := k.records.filter fun r => !ContRecord.retires day r }).onDay day
        fun d => { d with retired := d.retired ++ gone.map ContRecord.retiredItem, live := d.live - gone.length }
    else s

/-- The DAY notice's snapshot: the day and the state SETTLED (R41; SETTLED is the third day state). -/
def daySnapshot (day : Nat) : List Byte := be 2 day ++ named 3

/-- R41: settlement is tested for a day: flag set, entry freed, DAY made pending. -/
def State.testSettlement (s : State) (day : Nat) : State :=
  match s.day? day with
  | none => s
  | some d =>
    if d.canSettle then
      ((s.settleFlag day).onTracker fun k => { k with days := k.days.filter (·.day ≠ day) }).notify noticeDay
        (daySnapshot day)
    else s

/-- The ending of a file counted in a day's files in progress (R30 to R34): the count goes down, then retirement and
settlement are tested. -/
def State.fileEnded (s : State) (day : Nat) : State :=
  ((s.onDay day fun d => { d with inProgress := d.inProgress - 1 }).testRetirement day).testSettlement day

/-! ### The file sequence (R25) -/

/-- R25: the forward distance, modulo 65,536. -/
def seqDistance (expected received : Nat) : Nat := (received + 65536 - expected) % 65536

/-- R25: check the file sequence against the expected one. -/
def State.checkSequence (s : State) (f : FileInfo) : State :=
  let advance (s : State) := s.onSource f.source fun x => { x with expected := some ((f.seq + 1) % 65536) }
  match (s.source f.source).expected with
  | none => advance s
  | some e =>
    let d := seqDistance e f.seq
    if d = 0 then advance s
    else if d ≤ 32767 then
      advance (s.raise { s.slotEvent .sequenceJump .point f.source f.day f.slot with figure := some d })
    else s

/-! ### The open outcome (R28, R29) -/

/-- R27: a new slot record. -/
def Slot.new : Slot := { state := .missing, holder := none, prior := none, facts := none, gapOpen := false }

/-- R27: a slot restored by R29. -/
def Slot.restored : Slot := { Slot.new with state := .received }

/-- R35, R29: a new Day Table entry, CLOSED when the current minute is at or beyond its close deadline. -/
def State.newDay (s : State) (day : Nat) : DayEntry :=
  let deadline := (day + 1) * 1440 + s.tracker.policy.closeDelay
  { day := day, state := if deadline ≤ s.now.minute then .closed else .opened, deadline := deadline, live := 0,
    inProgress := 0, retired := [] }

/-- R28 step 1. -/
def State.ensureDay (s : State) (day : Nat) : State :=
  match s.day? day with
  | some _ => s
  | none => s.onTracker fun k => { k with days := insertDay (s.newDay day) k.days }

/-- A new Continuity record with the given slots (R26). -/
def ContRecord.new (source day : Nat) (state : RecordState) (slots : List Slot) : ContRecord :=
  { source := source, day := day, expected := slots.length, slots := slots, state := state, archived := 0,
    rejected := 0, duplicates := 0, conflicts := 0, suspects := 0 }

/-- Add a record to the Continuity Table and count it among its day's live records (R28 step 2). -/
def State.addRecord (s : State) (r : ContRecord) : State :=
  (s.onTracker fun k => { k with records := insertRecord r k.records }).onDay r.day fun d => { d with live := d.live + 1 }

/-- The slots 0 up to n − 1 other than one. -/
def otherSlots (n slot : Nat) : List Nat := (List.range n).filter (· ≠ slot)

/-- R29: a new record in a CLOSED day, its source not on the retired list: every slot other than the file's own is a
gap, opened now. -/
def State.addLateRecord (s : State) (f : FileInfo) (n : Nat) : State :=
  let slots := (List.range n).map fun i => { Slot.new with gapOpen := decide (i ≠ f.slot) }
  (s.addRecord (ContRecord.new f.source f.day .reconciling slots)).raiseAll
    ((otherSlots n f.slot).map fun i => s.slotEvent .gap .opened f.source f.day i)

/-- R29: the record is restored from the retired list, and its item removed. -/
def State.restoreRecord (s : State) (f : FileInfo) (i : RetiredItem) : State :=
  (s.addRecord { ContRecord.new f.source f.day .reconciling (List.replicate i.expected Slot.restored) with
      archived := i.archived, rejected := i.rejected, duplicates := i.duplicates, conflicts := i.conflicts }).onDay
    f.day fun d => { d with retired := d.retired.filter (·.source ≠ f.source) }

/-- The item of a source on a day's retired list (R40). -/
def DayEntry.retiredItem? (d : DayEntry) (source : Nat) : Option RetiredItem := d.retired.find? (·.source = source)

/-- R28 step 2, R29. -/
def State.ensureRecord (s : State) (f : FileInfo) : State :=
  match s.record? f.source f.day, s.day? f.day with
  | some _, _ => s
  | none, none => s
  | none, some d =>
    let n := (s.source f.source).filesPerDay
    if d.state = .opened then s.addRecord (ContRecord.new f.source f.day .collecting (List.replicate n Slot.new))
    else match d.retiredItem? f.source with
      | some i => s.restoreRecord f i
      | none => s.addLateRecord f n

/-- R28 step 3: a normally routed file takes its slot. -/
def Slot.take (l : LaneNo) (x : Slot) : Slot :=
  { x with state := .inProgress, holder := some l, prior := some x.state, facts := none }

/-- R28 step 3. -/
def State.enterFile (s : State) (l : LaneNo) (f : FileInfo) (reason : Option Routing) : State :=
  match reason with
  | none => s.onSlot f.source f.day f.slot (Slot.take l)
  | some _ => s.onRecord f.source f.day fun r => { r with suspects := r.suspects + 1 }

/-- R28: the open outcome of an accepted file. -/
def State.openOutcome (s : State) (l : LaneNo) (f : FileInfo) (reason : Option Routing) : State :=
  if s.isSettled f.day then s.checkSequence f
  else
    ((((s.ensureDay f.day).ensureRecord f).enterFile l f reason).onDay f.day
      fun d => { d with inProgress := d.inProgress + 1 }).checkSequence f

/-! ### The close outcome (R30, R32 to R34) -/

/-- The facts a close outcome carries (R15). -/
structure CloseFacts where
  lane : LaneNo
  file : FileInfo
  appended : Nat
  rejected : Nat
  declared : Nat
  digest : Crc
  arrival : Option Time
  deriving DecidableEq, Repr

/-- R30 step 1: the closed file is DEFECTIVE. -/
def CloseFacts.defective (o : CloseFacts) : Bool := 0 < o.rejected || o.appended + o.rejected ≠ o.declared

/-- R30 steps 1 and 2, and the gap-open flag of step 5. -/
def CloseFacts.slot (o : CloseFacts) : Slot :=
  { state := if o.defective then .defective else .received, holder := none, prior := none,
    facts := some { digest := o.digest, seq := o.file.seq, arrival := o.arrival }, gapOpen := false }

/-- R30 step 3. -/
def ContRecord.count (o : CloseFacts) (r : ContRecord) : ContRecord :=
  { r with archived := r.archived + o.appended, rejected := satAdd (2 ^ 48 - 1) r.rejected o.rejected }

/-- R30 step 5: the events of a clean close, given the slot as it stood before. -/
def State.closeEvents (s : State) (o : CloseFacts) (before : Slot) : List AuditEvent :=
  (if before.prior = some .waived ∨ before.gapOpen then
    [{ s.slotEvent .gap .closed o.file.source o.file.day o.file.slot with cause := some .late }] else [])
  ++ (if o.defective then
    [{ s.slotEvent .defect .opened o.file.source o.file.day o.file.slot with
        cause := some (if 0 < o.rejected then .rejected else .count), figure := some o.declared }] else [])

/-- R30: the close outcome of a normally routed file. -/
def State.closeNormal (s : State) (o : CloseFacts) : State :=
  let before := (((s.record? o.file.source o.file.day).bind (·.slot? o.file.slot)).getD Slot.new)
  let s := s.onRecord o.file.source o.file.day fun r => (r.onSlot o.file.slot fun _ => o.slot).count o
  let s := s.resolveRuns o.lane .firm
  (s.raiseAll (s.closeEvents o before)).fileEnded o.file.day

/-- R32: a late file. -/
def State.closeLate (s : State) (o : CloseFacts) : State :=
  let s := s.resolveRuns o.lane .firm
  s.raise { s.slotEvent .lateFile .point o.file.source o.file.day o.file.slot with figure := some o.file.seq }

/-- R33: the file is a duplicate: its slot is occupied, with an equal stored digest. -/
def Slot.duplicates (x : Slot) (digest : Crc) : Bool := x.occupied && x.facts.map SlotFacts.digest = some digest

/-- R34: DIGEST when the slot is occupied and stores a digest, NO_DIGEST otherwise. -/
def Slot.conflictCause (x : Slot) : Cause := if x.occupied && x.facts.isSome then .digest else .noDigest

/-- R33: the effects of a duplicate. -/
def State.closeDuplicate (s : State) (o : CloseFacts) : State :=
  (((s.resolveRuns o.lane .void).onRecord o.file.source o.file.day fun r =>
      { r with duplicates := satAdd 65535 r.duplicates 1, suspects := r.suspects - 1 }).onSource o.file.source
    fun x => { x with duplicates := satAdd Config.max32 x.duplicates 1 }).fileEnded o.file.day

/-- R34: the effects of a conflict. -/
def State.closeConflict (s : State) (o : CloseFacts) (cause : Cause) : State :=
  let s := ((s.resolveRuns o.lane .firm).onRecord o.file.source o.file.day fun r =>
      { r with conflicts := satAdd 65535 r.conflicts 1, suspects := r.suspects - 1 }).onSource o.file.source
    fun x => { x with conflicts := satAdd Config.max32 x.conflicts 1 }
  (s.raise { s.slotEvent .conflict .point o.file.source o.file.day o.file.slot with
      cause := some cause, figure := some o.file.seq }).fileEnded o.file.day

/-- R33, R34: the close outcome of a file routed OCCUPIED or IN_PROGRESS, judged by its slot as it stands. -/
def State.closeSuspect (s : State) (o : CloseFacts) : State :=
  let x := (((s.record? o.file.source o.file.day).bind (·.slot? o.file.slot)).getD Slot.new)
  if x.duplicates o.digest then s.closeDuplicate o else s.closeConflict o x.conflictCause

/-- R15: the close outcome, by the lane's routing. -/
def State.closeOutcome (s : State) (o : CloseFacts) (reason : Option Routing) : State :=
  match reason with
  | none => s.closeNormal o
  | some .settled => s.closeLate o
  | some .occupied => s.closeSuspect o
  | some .inProgress => s.closeSuspect o

/-! ### The abort outcome (R31) -/

/-- R31: the slot returns to its prior state. -/
def Slot.release (dayClosed : Bool) (x : Slot) : Slot :=
  let st := x.prior.getD .missing
  { x with state := st, holder := none, prior := none, gapOpen := x.gapOpen || (st = .missing && dayClosed) }

/-- R31: a gap is opened when the slot returns to MISSING in a CLOSED day with its gap-open flag clear. -/
def Slot.opensGap (dayClosed : Bool) (x : Slot) : Bool := x.prior.getD .missing = .missing && dayClosed && !x.gapOpen

/-- The day has a Day Table entry in state CLOSED. -/
def State.dayIsClosed (s : State) (day : Nat) : Bool :=
  match s.day? day with
  | some d => d.state = .closed
  | none => false

/-- R31: the abort outcome of a normally routed file. -/
def State.abortNormal (s : State) (f : FileInfo) : State :=
  let x := (((s.record? f.source f.day).bind (·.slot? f.slot)).getD Slot.new)
  let closed := s.dayIsClosed f.day
  let s := s.onSlot f.source f.day f.slot (Slot.release closed)
  (if x.opensGap closed then s.raise (s.slotEvent .gap .opened f.source f.day f.slot) else s).fileEnded f.day

/-- R31: the abort outcome of a file, by its routing. -/
def State.abortOutcome (s : State) (f : FileInfo) (reason : Option Routing) : State :=
  match reason with
  | none => s.abortNormal f
  | some .settled => s
  | some .occupied | some .inProgress =>
    (s.onRecord f.source f.day fun r => { r with suspects := r.suspects - 1 }).fileEnded f.day

/-! ### Day close (R37) -/

/-- The slots of a record that are MISSING, in ascending order. -/
def ContRecord.missing (r : ContRecord) : List Nat :=
  (List.range r.slots.length).filter fun i => (r.slots[i]?.map Slot.state) = some .missing

/-- R37 step 3, one record: gap-open flags of the MISSING slots. -/
def ContRecord.openGaps (r : ContRecord) : ContRecord :=
  { r with slots := r.slots.map fun x => if x.state = .missing then { x with gapOpen := true } else x }

/-- The records of a day, in ascending source. -/
def State.recordsOf (s : State) (day : Nat) : List ContRecord := s.tracker.records.filter (·.day = day)

/-- R37 step 3: the gap events, ascending slots within ascending sources. -/
def State.gapEvents (s : State) (day : Nat) : List AuditEvent :=
  ((s.recordsOf day).map fun r => r.missing.map fun i => s.slotEvent .gap .opened r.source day i).flatten

/-- Change every record of a day. -/
def State.onRecordsOf (s : State) (day : Nat) (f : ContRecord → ContRecord) : State :=
  s.onTracker fun k => { k with records := k.records.map fun r => if r.day = day then f r else r }

/-- R37 steps 1 to 4: the day after its close, before settlement is tested. The order of the seals of step 1 is the model's
choice (ascending id, log entry 41). -/
def State.closeDaySteps (s : State) (day : Nat) : State :=
  let s := s.sealAll .dayClosed (s.openSegments (·.day = day))
  let s := s.onDay day fun d => { d with state := .closed }
  let s := (s.onRecordsOf day ContRecord.openGaps).raiseAll (s.gapEvents day)
  (s.onRecordsOf day fun r => { r with state := .reconciling }).testRetirement day

/-- R37: a day closes. -/
def State.closeDay (s : State) (day : Nat) : State := (s.closeDaySteps day).testSettlement day

/-- R38: the figures of CLOSE DAY's reply: gaps opened, records retired, records left RECONCILING, settled. -/
def State.closeDayFigures (s : State) (day : Nat) : List Byte :=
  let before := (s.recordsOf day).length
  let after := ((s.closeDay day).recordsOf day).length
  be 4 (s.gapEvents day).length ++ be 4 (before - after) ++ be 4 after ++ flagOctet ((s.closeDay day).isSettled day)

end Sys2Proof.Machine
end

