-- ==== Sys2Proof/Machine/Assembler.lean ====
section
/-! DEFINITION. The File Assembler (01): lanes, idle timers, opening, taking records, closing and aborting files, the
stall and the overrun mark. -/

namespace Sys2Proof.Machine

/-- A file is open on the lane: it is RECEIVING or SUSPECT (R7). -/
def Lane.hasFile (x : Lane) : Bool := x.state = .receiving || x.state = .suspect

/-! ### Idle timers (R18) -/

/-- A frame of the lane is in the Intake FIFO. -/
def Port.hasLane (p : Port) (l : LaneNo) : Bool := p.fifo.any (·.lane = l)

/-- R18: start the lane's idle timer with the full lane timeout, when no frame of the lane is in the Intake FIFO and its
overrun mark is clear. A clock without a reading starts no timer. -/
def State.startTimer (s : State) (l : LaneNo) : State :=
  if (s.lane l).hasFile ∧ ¬ s.port.hasLane l ∧ (s.lane l).overrun = none then
    s.onLane l fun x => { x with timer := s.clock.reading.map fun t => t.seconds + s.tracker.policy.laneTimeout }
  else s

/-- R18: stop the lane's idle timer. -/
def State.stopTimer (s : State) (l : LaneNo) : State := s.onLane l fun x => { x with timer := none }

/-! ### Aborting a file (R17) -/

/-- R17: the lane state an abort cause leaves. -/
def abortState : AbortCause → LaneState
  | .superseded => .idle
  | .aborted => .idle
  | .corrupt => .idle
  | .reset => .idle
  | .stalled => .discarding
  | .format => .discarding
  | .overrun => .discarding

/-- The lane when its file has ended: facts absent, counts 0, timer stopped (R7, R17). R7 gives the digest register no value
then, nor at a reset; it keeps its running value until the next FILE_OPEN: DESIGN CHOICE, log entry 6. -/
def Lane.clear (st : LaneState) (x : Lane) : Lane :=
  { x with state := st, file := none, reason := none, appended := 0, rejected := 0, timer := none }

/-- R17: abort the file open on a lane: runs VOID, abort outcome, FILE_ABORTED, lane cleared. A lane with no file is
left alone. -/
def State.abortFile (s : State) (l : LaneNo) (cause : AbortCause) : State :=
  match (s.lane l).hasFile, (s.lane l).file with
  | true, some f =>
    let s := (s.resolveRuns l .void).abortOutcome f (s.lane l).reason
    (s.raise { s.slotEvent .fileAborted .point f.source f.day f.slot with cause := some (.abort cause) }).onLane l
      (Lane.clear (abortState cause))
  | _, _ => s

/-! ### Taking frames (R19, R21) -/

/-- An overrun mark is due: the frame it records has been taken, and finished when the assembler holds none. -/
def Lane.markDue (x : Lane) : Bool := x.overrun = some 0

/-- The assembler can take a frame: it holds none (R20) and no overrun mark is due (R21). -/
def State.assemblerFree (s : State) : Bool :=
  s.asm.hand.isNone && allLanes.all fun l => !(s.lane l).markDue

/-- R19, R21: the head frame leaves the FIFO; the positions of the overrun marks move up. -/
def State.popFrame (s : State) : State :=
  (s.onPort fun p => { p with fifo := p.fifo.tail }).onAsm fun a =>
    { a with lanes := a.lanes.map fun x => { x with overrun := x.overrun.map (· - 1) } }

/-- The frame the assembler takes next, when it can take one. -/
def State.headFrame (s : State) : Option FileFrame := if s.assemblerFree then s.port.fifo.head? else none

/-! ### Opening a file (R8 to R11) -/

/-- R8: the expected file count of check 3. -/
def State.expectedCount (s : State) (source day : Nat) : Nat :=
  match s.record? source day with
  | some r => r.expected
  | none => match (s.day? day).bind (·.retiredItem? source) with
    | some i => i.expected
    | none => (s.source source).filesPerDay

/-- R8: the seven checks in order; the first that applies. -/
def State.refusal (s : State) (f : FileInfo) : Option RefuseCause :=
  let settled := s.isSettled f.day
  if s.engine ≠ .running ∨ s.builder.nextId = none then some .notReady
  else if ¬ (s.source f.source).active then some .unknownSource
  else if s.expectedCount f.source f.day ≤ f.slot then some .slotRange
  else if s.today + 1 < f.day then some .future
  else if f.day + s.tracker.policy.acceptWindow < s.today ∧ ¬ settled then some .stale
  else if ¬ settled ∧ s.day? f.day = none ∧ Config.dayCap ≤ s.tracker.days.length then some .dayTableFull
  else if ¬ settled ∧ s.record? f.source f.day = none ∧ Config.recordCap ≤ s.tracker.records.length then
    some .continuityFull
  else none

/-- R10: the routing reason, `none` for a RECEIVING lane. -/
def State.routing (s : State) (f : FileInfo) : Option Routing :=
  if s.isSettled f.day then some .settled
  else match (s.record? f.source f.day).bind (·.slot? f.slot) with
    | none => none
    | some x =>
      if x.occupied then some .occupied
      else if x.state = .inProgress then some .inProgress
      else none

/-- R10: the lane of an accepted file. -/
def Lane.accept (f : FileInfo) (reason : Option Routing) (x : Lane) : Lane :=
  { x with state := if reason = none then .receiving else .suspect, file := some f, reason := reason,
           digest := crcInit, appended := 0, rejected := 0, timer := none }

/-- R10: accept a file: lane, open outcome, idle timer. -/
def State.acceptFile (s : State) (l : LaneNo) (f : FileInfo) : State :=
  let reason := s.routing f
  ((s.onLane l (Lane.accept f reason)).openOutcome l f reason).startTimer l

/-- R9: refuse a file: FILE_REFUSED with the arrival time of its FILE_OPEN, lane DISCARDING. -/
def State.refuseFile (s : State) (l : LaneNo) (f : FileInfo) (arrival : Option Time) (c : RefuseCause) : State :=
  (s.raise { s.slotEvent .fileRefused .point f.source f.day f.slot with
      cause := some (.refuse c), time := arrival }).onLane l (Lane.clear .discarding)

/-- R8 to R11: a FILE_OPEN on a lane; a file open on it is first aborted SUPERSEDED. -/
def State.openFile (s : State) (l : LaneNo) (f : FileInfo) (arrival : Option Time) : State :=
  let s := s.abortFile l .superseded
  match s.refusal f with
  | some c => s.refuseFile l f arrival c
  | none => s.acceptFile l f

/-! ### Taking records (R12, R13, R2, R4) -/

/-- R4: the class of a valid record. -/
def State.classify (s : State) (l : LaneNo) (r : List Byte) : ClassNo :=
  if (s.lane l).state = .suspect then 15
  else match vgetD s.tables.typeMap (octetAt r 0) none with
    | none => 14
    | some c => if (vget s.tables.classes c).enable ∨ 14 ≤ c.val then c else 14

/-- R2: the assembler's rejection counter of a cause. -/
def Assembler.reject (c : Rejection) (a : Assembler) : Assembler :=
  match c with
  | .presence => { a with presence := satAdd Config.max32 a.presence 1 }
  | .startRange => { a with startRange := satAdd Config.max32 a.startRange 1 }
  | .digits => { a with digits := satAdd Config.max32 a.digits 1 }
  | .pad => { a with pad := satAdd Config.max32 a.pad 1 }

/-- R2: a rejected record is counted on its lane (R7's range; log entry 42) and by its cause. -/
def State.rejectRecord (s : State) (l : LaneNo) (c : Rejection) : State :=
  (s.onLane l fun x => { x with rejected := satAdd Config.max32 x.rejected 1 }).onAsm (Assembler.reject c)

/-- R13 step 4: the appended count goes up by 1, to the end of R7's range (log entry 42). -/
def State.countAppended (s : State) (l : LaneNo) : State :=
  s.onLane l fun x => { x with appended := satAdd Config.max32 x.appended 1 }

/-- The offer of a record of the file on a lane to the Segment Builder (R4). -/
def State.offerOf (s : State) (l : LaneNo) (cls : ClassNo) (r : List Byte) (turnedAway : Bool) : Offer :=
  { lane := l, cls := cls, octets := r, turnedAway := turnedAway,
    file := (s.lane l).file.getD { source := 0, day := 0, slot := 0, seq := 0 } }

/-- R5, R19: the assembler keeps a frame that is part-way, its next record not yet taken. -/
def State.keepFrame (s : State) (l : LaneNo) (next : List Byte) (rest : List (List Byte)) : State :=
  s.onAsm fun a =>
    { a with hand := some { lane := l, record := next, cls := 0, turnedAway := false, rest := rest, cause := .between } }

/-- R5: a LOAD TYPE MAP or LOAD CLASSES waits that the Directive Decoder can take now (R161). -/
def State.loadWaits (s : State) : Bool :=
  s.current.isNone && 0 < s.port.freePlaces && s.port.directives.head?.any fun d => d.code = 0x03 || d.code = 0x04

/-- R19, R5: one record of a frame has been taken: the assembler goes on with the rest, but keeps the frame part-way when a
load can fall before the next record (log entry 32). -/
def State.goOn (l : LaneNo) (rest : List (List Byte)) (more : State → State) (s : State) : State :=
  match rest with
  | [] => more s
  | r :: t => if s.loadWaits then s.keepFrame l r t else more s

/-- R13: take the records of a well-formed frame in order, until the last, a stall (R20), or a place where a load can fall
(R5). -/
def State.takeRecords (l : LaneNo) : List (List Byte) → State → State
  | [], s => (s.onAsm fun a => { a with hand := none }).startTimer l
  | r :: rest, s =>
    let s := s.onLane l fun x => { x with digest := crcTake x.digest r }
    match validate r with
    | some c => State.goOn l rest (State.takeRecords l rest) (s.rejectRecord l c)
    | none =>
      let cls := s.classify l r
      match s.place (s.offerOf l cls r false) with
      | .placed s => State.goOn l rest (State.takeRecords l rest) (s.countAppended l)
      | .stalled s cause away => s.onAsm fun a =>
          { a with hand := some { lane := l, record := r, cls := cls, turnedAway := away, rest := rest, cause := cause } }

/-- R12: the payload of a FILE_DATA frame is malformed. -/
def dataMalformed (payload : List Byte) : Bool :=
  payload.length = 0 || payload.length % Config.recordOctets ≠ 0 || 8183 < payload.length

/-- The canonical records of a well-formed payload. -/
def recordsOfPayload (payload : List Byte) : List (List Byte) :=
  pieces (payload.length / Config.recordOctets) Config.recordOctets payload

/-- R14: count a stray frame. -/
def State.countStray (s : State) : State := s.onAsm fun a => { a with stray := satAdd Config.max32 a.stray 1 }

/-- R14: count a discarded frame. -/
def State.countDiscarded (s : State) : State :=
  s.onAsm fun a => { a with discarded := satAdd Config.max32 a.discarded 1 }

/-- R12 to R14: a FILE_DATA frame on a lane. -/
def State.dataFrame (s : State) (l : LaneNo) (payload : List Byte) : State :=
  match (s.lane l).state with
  | .idle => s.countStray
  | .discarding => s.countDiscarded
  | .receiving | .suspect =>
    if dataMalformed payload then s.abortFile l .format else State.takeRecords l (recordsOfPayload payload) s

/-! ### Closing and aborting (R15, R16) -/

/-- The close outcome of the file on a lane (R15). -/
def State.closeFacts (s : State) (l : LaneNo) (f : FileInfo) (declared : Nat) (arrival : Option Time) : CloseFacts :=
  { lane := l, file := f, appended := (s.lane l).appended, rejected := (s.lane l).rejected, declared := declared,
    digest := ~~~ (s.lane l).digest, arrival := arrival }

/-- R15: a FILE_CLOSE on a lane. -/
def State.closeFrame (s : State) (l : LaneNo) (declared : Nat) (crc : Crc) (arrival : Option Time) : State :=
  match (s.lane l).state, (s.lane l).file with
  | .idle, _ => s.countStray
  | .discarding, _ => s.countDiscarded.onLane l (Lane.clear .idle)
  | _, none => s
  | _, some f =>
    if ~~~ (s.lane l).digest = crc then
      (s.closeOutcome (s.closeFacts l f declared arrival) (s.lane l).reason).onLane l (Lane.clear .idle)
    else s.abortFile l .corrupt

/-- R16: a FILE_ABORT on a lane. -/
def State.abortFrame (s : State) (l : LaneNo) : State :=
  match (s.lane l).state with
  | .idle => s.countStray
  | .discarding => s.countDiscarded.onLane l (Lane.clear .idle)
  | .receiving | .suspect => s.abortFile l .aborted

/-! ### The commands -/

/-- TAKE_FILE_OPEN (R8 to R11, R19). Taken when the frame at the head of the Intake FIFO is a FILE_OPEN. -/
def takeFileOpen (s : State) : State :=
  match s.headFrame with
  | some { lane := l, body := .opening source day slot seq, arrival := t } =>
    s.popFrame.openFile l { source := source, day := day, slot := slot, seq := seq } t
  | _ => s

/-- The frame that is part-way in the assembler between two records, if one is (R5). -/
def State.partWay (s : State) : Option Hand := s.asm.hand.filter fun h => h.cause = .between

/-- TAKE_FILE_DATA (R12 to R14, R19): the head frame, or the rest of the one that is part-way. -/
def takeFileData (s : State) : State :=
  match s.partWay, s.headFrame with
  | some h, _ => State.takeRecords h.lane (h.record :: h.rest) s
  | none, some { lane := l, body := .data payload, arrival := _ } => s.popFrame.dataFrame l payload
  | none, _ => s

/-- TAKE_FILE_CLOSE (R15, R19). -/
def takeFileClose (s : State) : State :=
  match s.headFrame with
  | some { lane := l, body := .closing declared crc, arrival := t } => s.popFrame.closeFrame l declared crc t
  | _ => s

/-- TAKE_FILE_ABORT (R16, R19). -/
def takeFileAbort (s : State) : State :=
  match s.headFrame with
  | some { lane := l, body := .aborting, arrival := _ } => s.popFrame.abortFrame l
  | _ => s

/-- R21: what taking a mark does to a lane. -/
def State.takeMark (s : State) (l : LaneNo) : State :=
  let s := s.onLane l fun x => { x with overrun := none }
  match (s.lane l).state with
  | .receiving | .suspect => s.abortFile l .overrun
  | .idle => s.onLane l (Lane.clear .discarding)
  | .discarding => s

/-- OVERRUN_MARK_TAKEN (R21): taken when the lane's mark is due and the assembler holds no frame. -/
def overrunMarkTaken (l : LaneNo) (s : State) : State :=
  if s.asm.hand = none ∧ (s.lane l).markDue then s.takeMark l else s

/-- R67: what a stall waits for has come. -/
def State.stallOver (s : State) (c : StallCause) : Bool :=
  match c with
  | .between => false
  | .ids => false
  | .directory => s.dir.length < Config.dirCap
  | .buffer => s.buffersInUse < Config.bufferCap

/-- STALL_END (R20): the stalled record is placed afresh by R64 and the rest of its frame taken. -/
def stallEnd (s : State) : State :=
  match s.asm.hand with
  | none => s
  | some h =>
    if s.stallOver h.cause then
      match s.place (s.offerOf h.lane h.cls h.record h.turnedAway) with
      | .placed s => State.goOn h.lane h.rest (State.takeRecords h.lane h.rest) (s.countAppended h.lane)
      | .stalled s cause away => s.onAsm fun a =>
          { a with hand := some { h with cause := cause, turnedAway := away } }
    else s

/-- R18: the lane's idle timer has reached its expiry time; while the clock is not RUNNING none is reached. -/
def State.timerDue (s : State) (l : LaneNo) : Bool :=
  match (s.lane l).timer, s.clock.reading with
  | some e, some t => s.clock.mode = .running && e ≤ t.seconds
  | _, _ => false

/-- LANE_IDLE_TIMER_EXPIRY (R18). -/
def laneIdleTimerExpiry (l : LaneNo) (s : State) : State := if s.timerDue l then s.abortFile l .stalled else s

end Sys2Proof.Machine
end

