-- ==== Sys2Proof/Machine/Audit.lean ====
section
/-! DEFINITION. The Audit Unit (08): the Decode Queue and its requests, verification, retrieval output and scrub
selection. -/

namespace Sys2Proof.Machine

/-! ### Endings of a decode request (R148 to R152, R157) -/

/-- The causes of READ_FAIL, in the order R95 and R152 list them. -/
inductive ReadCause where
  | error
  | timeout
  | offline
  deriving DecidableEq, Repr

/-- What a comparison of R150 found different, with the run index where there is one. -/
inductive Difference where
  | header
  | run (i : Option Nat)
  | digest (i : Option Nat)
  deriving DecidableEq, Repr

/-- How a decode request ends. -/
inductive Ending where
  | matched
  | mismatch (d : Difference)
  | malformed (f : Finding)
  | readFail (c : ReadCause)
  | notFound
  | tooLate
  deriving DecidableEq, Repr

def ReadCause.number : ReadCause → Nat
  | .error => 1
  | .timeout => 2
  | .offline => 3

def Difference.cause : Difference → Cause
  | .header => .header
  | .run _ => .run
  | .digest _ => .digest

def Difference.number : Difference → Nat
  | .header => 1
  | .run _ => 2
  | .digest _ => 3

def Difference.index : Difference → Option Nat
  | .header => none
  | .run i => i
  | .digest i => i

/-! ### Comparing an image with its entry (R150) -/

/-- Step 1 of R150: the header agrees with the entry. -/
def headerAgrees (e : SegEntry) (h : Header) : Bool :=
  h.segId = e.id && h.cls = e.cls.val && h.day = e.day && h.group = e.group && h.generation = e.generation
    && h.payloadLen = e.payloadLen && h.runCount = e.runs.length && h.digest = digestNat e.segDigest
    && h.reason = (e.sealReason.map sealCode).getD 0

/-- The run header agrees with the run record (step 3 of R150, first part). -/
def runAgrees (r : RunRec) (d : DecRun) : Bool :=
  d.source = r.source && d.slot = r.slot && d.statusOctet = runStatusOctet r && d.count = r.count
    && d.digest = digestNat r.digest && d.firstSeq = r.firstSeq

/-- The recomputed values agree with the run header (step 3 of R150, second part). -/
def digestAgrees (d : DecRun) : Bool :=
  d.recomputed.toNat = d.digest && (d.records.head?.map CallRecord.seq) = some d.firstSeq

/-- Step 3 of R150 over the runs in payload order, the first with index `i`: the first difference. -/
def compareRuns : Nat → List RunRec → List DecRun → Option Difference
  | i, r :: rs, d :: ds =>
    if ¬ runAgrees r d then some (.run (some i))
    else if ¬ digestAgrees d then some (.digest (some i))
    else compareRuns (i + 1) rs ds
  | _, _, _ => none

/-- The sum of the record counts of the FIRM runs (step 5 of R150; R176). -/
def firmCount (ds : List DecRun) : Nat := (ds.map fun d => if d.firm then d.count else 0).sum

/-- R150: the outcome of a VERIFY. -/
def verifyImage (e : SegEntry) (img : List Byte) : Ending :=
  if ¬ headerAgrees e (readHeader img) then .mismatch .header
  else match decodeImage img with
    | .error f => .malformed f
    | .ok ds =>
      match compareRuns 0 e.runs ds with
      | some d => .mismatch d
      | none =>
        if (segmentDigest (ds.map DecRun.recomputed)).toNat ≠ digestNat e.segDigest then .mismatch (.digest none)
        else if firmCount ds ≠ e.recordCount then .mismatch (.run none)
        else .matched

/-! ### Applying an outcome (R151, R152) -/

/-- An INTEGRITY event of a segment. -/
def State.integrityEvent (s : State) (st : EventState) (e : SegEntry) (cause : Cause) (run : Option Nat) : AuditEvent :=
  { s.event .integrity st with cause := some cause, segId := some e.id, day := some e.day, figure := run }

/-- R151: a MATCH. -/
def State.applyMatch (s : State) (e : SegEntry) : State :=
  let s1 := s.onEntry e.id fun x =>
    { x with verifyCount := satAdd 65535 x.verifyCount 1, lastVerified := some s.today, suspect := false }
  if e.suspect then s1.raise (s1.integrityEvent .closed e .reverified none) else s1

/-- R152: a MISMATCH or MALFORMED outcome. -/
def State.applyMismatch (s : State) (e : SegEntry) (cause : Cause) (run : Option Nat) : State :=
  if e.suspect then s
  else
    let s1 := s.onEntry e.id fun x => { x with suspect := true }
    s1.raise (s1.integrityEvent .opened e cause run)

/-- What an ending of a VERIFY changes in the entry. -/
def State.applyVerify (s : State) (e : SegEntry) : Ending → State
  | .matched => s.applyMatch e
  | .mismatch d => s.applyMismatch e d.cause d.index
  | .malformed f => s.applyMismatch e .malformed f.run
  | .readFail _ => s
  | .notFound => s
  | .tooLate => s

/-- Outcomes by number, in the order MATCH, MISMATCH, MALFORMED, READ_FAIL (R151, R152, R155). -/
def readFailFigures (c : ReadCause) : List Byte := named 4 ++ named c.number

/-- R151, R152: the result and figures of a VERIFY's reply, from the entry as it stood before. -/
def verifyReply (e : SegEntry) : Ending → Result × List Byte
  | .matched => (.done, named 1 ++ be 4 (satAdd 65535 e.verifyCount 1) ++ flagOctet e.suspect)
  | .mismatch d => (.done, named 2 ++ named d.number ++ optNum 1 d.index ++ flagOctet (!e.suspect))
  | .malformed f => (.done, named 3 ++ named 4 ++ optNum 1 f.run ++ flagOctet (!e.suspect))
  | .readFail c => (.failed, readFailFigures c)
  | .notFound => (.notFound, [])
  | .tooLate => (.tooLate, [])

/-- R157: the result and figures of a RETRIEVE that has no output. -/
def retrieveReply : Ending → Result × List Byte
  | .malformed f => (.failed, named 3 ++ optNum 1 f.run ++ optNum 4 f.record)
  | .readFail c => (.failed, readFailFigures c)
  | .notFound => (.notFound, [])
  | .tooLate => (.tooLate, [])
  | .matched => (.done, [])
  | .mismatch _ => (.done, [])

/-- R155: the scrub counter of an outcome. -/
def Audit.countScrub (a : Audit) : Ending → Audit
  | .matched => { a with scrubMatch := satAdd Config.max32 a.scrubMatch 1 }
  | .mismatch _ => { a with scrubMismatch := satAdd Config.max32 a.scrubMismatch 1 }
  | .malformed _ => { a with scrubMalformed := satAdd Config.max32 a.scrubMalformed 1 }
  | .readFail _ => { a with scrubReadFail := satAdd Config.max32 a.scrubReadFail 1 }
  | .notFound => { a with scrubReadFail := satAdd Config.max32 a.scrubReadFail 1 }
  | .tooLate => { a with scrubReadFail := satAdd Config.max32 a.scrubReadFail 1 }

/-- R146: a segment's pin count goes up by one. -/
def State.pin (s : State) (id : Nat) : State := s.onEntry id fun e => { e with pins := e.pins + 1 }

/-- R146: the number of requests that name a segment, which its pin count is. -/
def State.requestsFor (s : State) (id : Nat) : Nat := s.audit.requests.countP (·.segId = id)

/-- R149 steps 1 and 2: the active request leaves the queue and its segment is unpinned. -/
def State.dequeueRequest (s : State) : State :=
  match s.audit.requests with
  | [] => s
  | r :: t =>
    (s.onAudit fun a => { a with requests := t, active := none, readBuffer := [], output := [] }).onEntry r.segId
      fun e => { e with pins := e.pins - 1 }

/-- R149 step 3: the reply of a request, or its scrub counter (R155). -/
def State.replyRequest (s : State) (r : Request) (k : Ending) (reply : Result × List Byte) : State :=
  match r.origin with
  | some tag => s.completeWith tag reply.1 reply.2
  | none => s.onAudit (·.countScrub k)

/-- The reply of a request's ending. An entry that is absent has no figures to give. -/
def requestReply (r : Request) (e : Option SegEntry) (k : Ending) : Result × List Byte :=
  match r.kind, e with
  | .retrieve, _ => retrieveReply k
  | .verify, some e => verifyReply e k
  | .verify, none => retrieveReply k

/-- The entry changes of a request's ending: a VERIFY alone makes any. -/
def State.applyEnding (s : State) (r : Request) (k : Ending) : State :=
  match r.kind, s.entry? r.segId with
  | .verify, some e => s.applyVerify e k
  | _, _ => s

/-- R149: the active request ends. -/
def State.finishRequest (s : State) (k : Ending) : State :=
  match s.audit.requests with
  | [] => s
  | r :: _ => ((s.applyEnding r k).dequeueRequest).replyRequest r k (requestReply r (s.entry? r.segId) k)

/-! ### Retrieval (R156) -/

/-- A list cut into pieces of at most `n`; `fuel` bounds the number of pieces. -/
def chunks {α : Type} (n : Nat) : Nat → List α → List (List α)
  | 0, _ => []
  | _ + 1, [] => []
  | fuel + 1, x :: l => (x :: l).take n :: chunks n fuel ((x :: l).drop n)

/-- The runs a retrieval takes: FIRM, and of the source given; each with its run index. -/
def chosenRuns (filter : Option Nat) : Nat → List DecRun → List (Nat × DecRun)
  | _, [] => []
  | i, d :: t =>
    let more := chosenRuns filter (i + 1) t
    if d.firm ∧ (filter = none ∨ filter = some d.source) then (i, d) :: more else more

/-- The frames of one run, not yet numbered. -/
def runFrames (tag : Tag) (segId : Nat) (r : Nat × DecRun) : List RecordsFrame :=
  (chunks Config.recordsPerFrame r.2.records.length (r.2.records.map canonical)).map fun rs =>
    { tag := tag, number := 0, segId := segId, run := r.1, final := false, source := r.2.source, slot := r.2.slot,
      records := rs }

/-- Number the frames from `n`; the last carries the final flag. -/
def numberFrames : Nat → List RecordsFrame → List RecordsFrame
  | _, [] => []
  | n, [f] => [{ f with number := n, final := true }]
  | n, f :: t => { f with number := n } :: numberFrames (n + 1) t

/-- The one frame of a retrieval that chooses no run. -/
def emptyFrame (tag : Tag) (segId : Nat) : RecordsFrame :=
  { tag := tag, number := 0, segId := segId, run := 0, final := true, source := 0, slot := 0, records := [] }

/-- R156: the RECORDS frames of a retrieval. -/
def retrieveFrames (tag : Tag) (segId : Nat) (chosen : List (Nat × DecRun)) : List RecordsFrame :=
  match (chosen.map (runFrames tag segId)).flatten with
  | [] => [emptyFrame tag segId]
  | fs => numberFrames 0 fs

/-- R156: the figures of a retrieval's reply. -/
def retrieveFigures (frames : List RecordsFrame) (chosen : List (Nat × DecRun)) : List Byte :=
  be 4 frames.length ++ be 4 (chosen.map fun r => r.2.records.length).sum ++ be 4 chosen.length
    ++ be 4 (chosen.countP fun r => r.2.recomputed.toNat ≠ r.2.digest)

/-- R156: the output of a retrieval: the reply is queued and the first frame offered. -/
def State.offerRetrieval (s : State) (r : Request) (ds : List DecRun) : State :=
  let tag := r.origin.getD 0
  let chosen := chosenRuns r.filter 0 ds
  let frames := retrieveFrames tag r.segId chosen
  (s.onAudit fun a => { a with active := some .sending, output := frames }).completeWith tag .done
    (retrieveFigures frames chosen)

/-- R156: the header fields a retrieval compares when its read has completed. -/
def retrieveHeaderAgrees (e : SegEntry) (h : Header) : Bool :=
  h.segId = e.id && h.cls = e.cls.val && h.day = e.day && h.payloadLen = e.payloadLen

/-- The outcome of a decode, applied (R148, R150, R156). -/
def State.applyDecode (s : State) (r : Request) (e : SegEntry) : State :=
  match r.kind with
  | .verify => s.finishRequest (verifyImage e s.audit.readBuffer)
  | .retrieve =>
    match decodeImage s.audit.readBuffer with
    | .error f => s.finishRequest (.malformed f)
    | .ok ds => s.offerRetrieval r ds

/-- R148: the Audit Unit comes to apply the result of a decode, and looks at the entry once more. -/
def State.decodeResult (s : State) : State :=
  match s.audit.requests with
  | [] => s
  | r :: _ =>
    match s.entry? r.segId with
    | none => s.finishRequest .notFound
    | some e => if e.state = .expiring then s.finishRequest .tooLate else s.applyDecode r e

/-- R95, R148: an image joins the images that wait for the Record Coder. -/
def State.toCoder (s : State) : State :=
  (s.onAudit fun a => { a with active := some .decoding }).onCoder (· ++ [.request])

/-- The read of the active request has completed: a RETRIEVE's header is compared (R156; log entry 31), then the image
goes to the Record Coder. -/
def State.imageRead (s : State) : State :=
  match s.audit.requests with
  | [] => s
  | r :: _ =>
    match r.kind with
    | .verify => s.toCoder
    | .retrieve =>
      match s.entry? r.segId with
      | none => s.finishRequest .notFound
      | some e =>
        if retrieveHeaderAgrees e (readHeader s.audit.readBuffer) then s.toCoder
        else if e.state = .expiring then s.finishRequest .tooLate
        else s.finishRequest (.malformed { run := none, record := none })

/-! ### Queueing requests (R146, R147) and scrub (R154) -/

/-- R146: a request joins the tail of the Decode Queue and pins its segment. -/
def State.queueRequest (s : State) (r : Request) : State :=
  (s.onAudit fun a => { a with requests := a.requests ++ [r] }).pin r.segId

/-- R86: ONLINE and DEGRADED targets take writes, reads and erases. -/
def Target.usable (t : Target) : Bool := t.state = .online || t.state = .degraded

/-- The requests of origin SCRUB in the Decode Queue. -/
def Audit.scrubs (a : Audit) : Nat := a.requests.countP (·.origin = none)

/-- R154: a candidate for scrub. -/
def State.scrubCandidate (s : State) (e : SegEntry) : Bool :=
  e.state = .stored && e.pins = 0 && !e.suspect && e.place.any fun p => (s.target p.1).usable

/-- R154: the order of candidates: no last verified day first, then the lowest day. -/
def scrubKey (e : SegEntry) : Nat :=
  match e.lastVerified with
  | none => 0
  | some d => d + 1

/-- Insert a candidate behind those of an equal or lower key. -/
def insertCandidate (e : SegEntry) : List SegEntry → List SegEntry
  | [] => [e]
  | x :: t => if scrubKey e < scrubKey x then e :: x :: t else x :: insertCandidate e t

/-- R154: the candidates in the order they are chosen. -/
def State.scrubOrder (s : State) : List SegEntry :=
  (s.dir.filter s.scrubCandidate).foldl (fun l e => insertCandidate e l) []

/-- R154: the number a scrub pass queues. -/
def State.scrubNumber (s : State) (batch : Nat) : Nat :=
  min (min batch (Config.scrubCap - s.audit.scrubs))
    (min (Config.decodeCap - s.audit.requests.length) s.scrubOrder.length)

/-- R154: queue the requests of a scrub pass. -/
def State.queueScrubs (s : State) (batch : Nat) : State :=
  ((s.scrubOrder.take (s.scrubNumber batch)).map SegEntry.id).foldl
    (fun s id => s.queueRequest { kind := .verify, segId := id, origin := none, filter := none }) s

end Sys2Proof.Machine
end

