-- ==== Sys2Proof/Machine/Store.lean ====
section
/-! DEFINITION. The Store Link Controllers and the Commit Engine (05): the Extent Map, faults and target states, transfers
begun, succeeded and failed, commits, the arbiter and erases. -/

namespace Sys2Proof.Machine

/-! ### Geometry (R84, R93) -/

/-- Units in an extent of 1,048,576 octets. -/
def unitsPerExtent (unit : Nat) : Nat := 1048576 / unit

/-- R93: N = ceil((512 + payload length) ÷ unit size). -/
def beatsFor (unit payloadLen : Nat) : Nat := (512 + payloadLen + unit - 1) / unit

/-- The octets of beat `k` of a write: the image from k × unit size onwards, the last beat filled out with zero. -/
def beatOctets (unit k : Nat) (image : List Byte) : List Byte :=
  let l := slice image (k * unit) unit
  l ++ List.replicate (unit - l.length) 0

/-- A request sent for beats: first unit address and beat count (R92). -/
structure BeatRequest where
  address : Nat
  count : Nat
  deriving DecidableEq, Repr

/-- R93, R176 (log entry 22): the request that begins with the beat in flight, when one does. With gather set a
request covers up to 16 beats counted from the transfer's first, with gather clear one. -/
def Xfer.request (x : Xfer) : Option BeatRequest :=
  let size : Nat := if x.gather then 16 else 1
  if (x.beat - x.first) % size = 0 then
    some { address := x.extent * unitsPerExtent x.unitSize + x.beat, count := min size (x.beats - x.beat) }
  else none

/-- The data that goes with the beat in flight of a write. -/
def Xfer.data (x : Xfer) : List Byte := beatOctets x.unitSize x.beat x.image

/-! ### Extent Map (R88) -/

/-- Change the state of one extent. -/
def Target.setExtent (x : Nat) (st : ExtentState) (t : Target) : Target :=
  { t with map := t.map.map fun m => m.set x st }

/-- Change the states of several extents. -/
def Target.setExtents (xs : List Nat) (st : ExtentState) (t : Target) : Target :=
  xs.foldl (fun t x => t.setExtent x st) t

/-- The state of an extent. -/
def Target.extent? (t : Target) (x : Nat) : Option ExtentState := t.map.bind fun m => m[x]?

/-- The lowest-numbered FREE extent. -/
def Target.firstFree (t : Target) : Option Nat := t.map.bind fun m => m.findIdx? (· = .free)

/-- The number of extents in a state. -/
def Target.countExtents (t : Target) (st : ExtentState) : Nat := ((t.map.getD []).filter (· = st)).length

/-! ### Erase entries (R104) -/

/-- The member segments with their extents. -/
def EraseEntry.members : EraseEntry → List (Nat × Nat)
  | .single x id => [(x, id)]
  | .group _ ms _ => ms

/-- The filler extents. -/
def EraseEntry.fillers : EraseEntry → List Nat
  | .single _ _ => []
  | .group _ _ fs => fs

/-- Every extent of the entry, member and filler. -/
def EraseEntry.extents (e : EraseEntry) : List Nat := e.members.map Prod.fst ++ e.fillers

/-- The member segments. -/
def EraseEntry.segments (e : EraseEntry) : List Nat := e.members.map Prod.snd

/-- First extent of the ERASE request. -/
def EraseEntry.first : EraseEntry → Nat
  | .single x _ => x
  | .group g _ _ => 16 * g

/-- Extent count of the ERASE request. -/
def EraseEntry.count : EraseEntry → Nat
  | .single _ _ => 1
  | .group _ _ _ => 16

/-- R84: the erase timeout of an entry. -/
def EraseEntry.timeout (eraseSecs : Nat) : EraseEntry → Nat
  | .single _ _ => eraseSecs
  | .group _ _ _ => 4 * eraseSecs

/-! ### Target states and faults (R86, R89, R91, R101) -/

/-- Target states by number (R86). -/
def TargetState.number : TargetState → Nat
  | .absent => 1
  | .scanning => 2
  | .online => 3
  | .degraded => 4
  | .offline => 5

/-- R86: the TARGET source is made pending with the target and its new state. -/
def State.notifyTarget (s : State) (t : TargetNo) : State :=
  s.notify noticeTarget (be 1 t.val ++ named (s.target t).state.number)

/-- The STRANDED segments, in ascending segment id. -/
def State.strandedIds (s : State) : List Nat := (s.dir.filter (·.state = .stranded)).map SegEntry.id

/-- R101: STRANDED segments return to the tail of the Commit Queue. -/
def State.returnStranded (s : State) : State :=
  (s.onCommit fun c =>
      { c with queue := c.queue ++ s.strandedIds.map fun id => { segId := id, strandedBefore := true } }).onDir
    fun d => d.map fun e => if e.state = .stranded then { e with state := .sealed, attempts := 0 } else e

/-- R86: a target enters ONLINE: fault count 0, TARGET notice from SCANNING or OFFLINE, STRANDED segments returned. -/
def State.enterOnline (s : State) (t : TargetNo) : State :=
  let old := (s.target t).state
  let s := s.onTarget t fun x => { x with state := .online, faults := 0 }
  let s := if old = .scanning ∨ old = .offline then s.notifyTarget t else s
  s.returnStranded

/-- R96: put the current commit back at the head of the Commit Queue. -/
def CommitEngine.requeue (c : CommitEngine) : CommitEngine :=
  { c with queue := c.current.toList ++ c.queue, current := none }

/-- R91: the current commit is withdrawn: extent FREE, entry SEALED with no place, head of the Commit Queue. -/
def State.withdrawCommit (s : State) (t : TargetNo) : State :=
  match s.commit.current with
  | none => s
  | some c =>
    let x := (s.entry? c.segId).bind SegEntry.place
    (((s.onTarget t fun k => match x with
        | some p => k.setExtent p.2 .free
        | none => k).onEntry c.segId fun e => { e with state := .sealed, place := none })).onCommit
      CommitEngine.requeue

/-- R91, R105: a suspended erase of an OFFLINE target is resumed at once. -/
def EraseSlot.resumeNow (x : EraseSlot) : EraseSlot :=
  if x.state = .suspended then { x with state := .resumeRequested } else x

/-- R91: the controller's own part of going OFFLINE. -/
def Target.offline (t : Target) : Target :=
  { t with state := .offline, waitWrite := false, waitRead := none, erase := t.erase.map EraseSlot.resumeNow,
           xfer := t.xfer.map fun x => if x.kind = .read then { x with cut := true } else x }

/-- R91: a target becomes OFFLINE. -/
def State.goOffline (s : State) (t : TargetNo) : State :=
  let old := s.target t
  let s := (s.onTarget t Target.offline).notifyTarget t
  let s := if old.waitWrite then s.withdrawCommit t else s
  if old.waitRead.isSome then s.finishRequest (.readFail .offline) else s

/-- R89: a failure is counted; nothing changes while the target is OFFLINE. -/
def State.faultUp (s : State) (t : TargetNo) : State :=
  let x := s.target t
  if x.state = .offline then s
  else
    let s := s.onTarget t fun x => { x with faults := x.faults + 1 }
    if 3 ≤ x.faults + 1 then s.goOffline t
    else if x.state = .online then s.onTarget t fun x => { x with state := .degraded }
    else s

/-- R89: a success; nothing changes while the target is OFFLINE. -/
def State.faultClear (s : State) (t : TargetNo) : State :=
  match (s.target t).state with
  | .offline => s
  | .degraded => s.enterOnline t
  | .absent | .scanning | .online => s.onTarget t fun x => { x with faults := 0 }

/-! ### Suspending and resuming (R105) -/

/-- A write or read waits at the arbiter (R103). -/
def Target.waits (t : Target) : Bool := t.waitWrite || t.waitRead.isSome

/-- R105, R91: what a controller does about its issued erase: SUSPEND a RUNNING one for a waiting transfer within the
budget, RESUME a SUSPENDED one when none waits and the link is free, or at once when the target is OFFLINE. -/
def Target.pokeErase (t : Target) : Target :=
  match t.erase with
  | none => t
  | some x =>
    match x.state with
    | .running =>
      if t.waits ∧ x.suspends < Config.suspendCap then { t with erase := some { x with state := .suspendRequested } }
      else t
    | .suspended =>
      if t.state = .offline ∨ (¬ t.waits ∧ t.xfer = none) then
        { t with erase := some { x with state := .resumeRequested } }
      else t
    | .suspendRequested => t
    | .resumeRequested => t

/-- R105 on one target of the part. -/
def State.pokeErase (s : State) (t : TargetNo) : State := s.onTarget t Target.pokeErase

/-! ### Commits (R97 to R100) -/

/-- The SEALED entry nearest the head of the Commit Queue (R97). -/
def State.nextCommit (s : State) : Option CommitEntry :=
  s.commit.queue.find? fun c => (s.entry? c.segId).any (·.state = .sealed)

/-- R97: the target can take a commit. -/
def Target.takesCommit (t : Target) : Bool := t.usable && t.firstFree.isSome

/-- R97: the preferred target of a class, or the lowest-numbered other one. -/
def State.chooseTarget (s : State) (cls : ClassNo) : Option TargetNo :=
  let p := (vget s.tables.classes cls).target
  if (s.target p).takesCommit then some p else allTargets.find? fun t => (s.target t).takesCommit

/-- R98: a commit begins on a target and extent. -/
def State.beginCommit (s : State) (c : CommitEntry) (t : TargetNo) (x : Nat) : State :=
  (((s.onCommit fun k =>
        { queue := k.queue.filter (·.segId ≠ c.segId), current := some c, waited := false }).onTarget t fun k =>
      { k.setExtent x .allocated with waitWrite := true }).onEntry c.segId fun e =>
    { e with state := .committing, place := some (t, x) }).pokeErase t

/-- R97: the Commit Engine begins to wait. -/
def State.waitForTarget (s : State) : State :=
  if s.commit.waited then s
  else (s.onCommit fun c => { c with waited := true }).notify noticePressure (be 4 s.commit.queue.length)

/-- COMMIT_BEGIN (R97, R98; log entry 35). -/
def commitBegin (s : State) : State :=
  if s.commit.current.isSome then s
  else match s.nextCommit with
    | none => s
    | some c =>
      match (s.entry? c.segId).bind fun e => s.chooseTarget e.cls with
      | none => s.waitForTarget
      | some t =>
        match (s.target t).firstFree with
        | none => s
        | some x => s.beginCommit c t x

/-- The segment id of the current commit, when there is one. -/
def State.committing (s : State) : Option (CommitEntry × SegEntry) :=
  s.commit.current.bind fun c => (s.entry? c.segId).map fun e => (c, e)

/-- R99: the stranded-before mark gives a STRANDED CLOSED event. -/
def State.closeStranded (s : State) (c : CommitEntry) : State :=
  if c.strandedBefore then s.raise { s.event .stranded .closed with segId := some c.segId } else s

/-- R99: the write of the current commit succeeds on extent `x`. -/
def State.writeSuccess (s : State) (t : TargetNo) (x : Nat) : State :=
  let s := s.onTarget t fun k => { k.setExtent x .written with xfer := none }
  let s := match s.commit.current with
    | none => s.faultClear t
    | some c =>
      let s := (s.onEntry c.segId fun e => { e with state := .stored }).freeBuffer c.segId
      let s := ((s.checkFlow.faultClear t).closeStranded c).flushEnd c.segId .stored
      s.onCommit fun k => { k with current := none }
  s.pokeErase t

/-- R100 step 5: a segment is set STRANDED. -/
def State.strand (s : State) (id : Nat) (t : TargetNo) : State :=
  let s := s.onEntry id fun e => { e with state := .stranded }
  let s := s.raise { s.event .stranded .opened with segId := some id, target := some t.val }
  ((s.notify noticeCommit (be 4 (s.countState .stranded))).flushEnd id .stranded).onCommit
    fun k => { k with current := none }

/-- R100 steps 3 to 6: the attempt is counted, and the segment tries again or is set STRANDED. -/
def State.countAttempt (s : State) (c : CommitEntry) (t : TargetNo) : State :=
  let n := ((s.entry? c.segId).map SegEntry.attempts).getD 0 + 1
  let s := s.onEntry c.segId fun e => { e with attempts := n }
  if n < 3 then (s.onEntry c.segId fun e => { e with state := .sealed }).onCommit CommitEngine.requeue
  else s.strand c.segId t

/-- R100: the write of the current commit fails on extent `x`. -/
def State.writeFailure (s : State) (t : TargetNo) (x : Nat) : State :=
  let s := s.onTarget t fun k =>
    { k.setExtent x .bad with xfer := none, writeFails := satAdd Config.max32 k.writeFails 1 }
  let s := match s.commit.current with
    | none => s.faultUp t
    | some c => ((s.onEntry c.segId fun e => { e with place := none }).faultUp t).countAttempt c t
  s.pokeErase t

/-! ### Reads for the Audit Unit (R95) -/

/-- R95: the read completes with its last beat's data. -/
def State.readComplete (s : State) (t : TargetNo) : State :=
  (((s.onTarget t fun k => { k with xfer := none }).faultClear t).imageRead).pokeErase t

/-- R95: the read fails; a cause of OFFLINE counts no fault (log entry 23). -/
def State.readFail (s : State) (t : TargetNo) (c : ReadCause) : State :=
  let s := s.onTarget t fun k => { k with xfer := none }
  let s := if c = .offline then s
    else (s.onTarget t fun k => { k with readFails := satAdd Config.max32 k.readFails 1 }).faultUp t
  (s.finishRequest (.readFail c)).pokeErase t

/-! ### Beginning work on a link (R103, R104) -/

/-- R103 step 1: the waiting write begins. -/
def State.beginWrite (s : State) (t : TargetNo) : State :=
  match s.committing, (s.target t).unitSize, (s.target t).gather with
  | some (c, e), some unit, some gather =>
    match e.place, s.buffer? c.segId with
    | some p, some b =>
      s.onTarget t fun k =>
        { k with
          waitWrite := false
          xfer := some { kind := .write, extent := p.2, first := 0, beats := beatsFor unit e.payloadLen,
                         unitSize := unit, gather := gather, beat := 0, ackMs := k.ackMs,
                         image := segmentImage e b, cut := false } }
    | _, _ => s
  | _, _, _ => s

/-- R103 step 2: the waiting read begins. -/
def State.beginRead (s : State) (t : TargetNo) (j : ReadJob) : State :=
  match (s.target t).unitSize, (s.target t).gather with
  | some unit, some gather =>
    (s.onTarget t fun k =>
      { k with
        waitRead := none
        xfer := some { kind := .read, extent := j.extent, first := 0, beats := beatsFor unit j.payloadLen,
                       unitSize := unit, gather := gather, beat := 0, ackMs := k.ackMs, image := [],
                       cut := false } }).onAudit fun a => { a with readBuffer := [] }
  | _, _ => s

/-- R104: the head of the Erase Queue is issued. -/
def Target.issueErase (t : Target) : Target :=
  match t.queue with
  | [] => t
  | e :: _ =>
    { t.setExtents e.extents .erasing with
      erase := some { state := .running, suspends := 0, timer := 0, timeout := e.timeout t.eraseSecs } }

/-- R105: the link can begin a transfer: no erase is issued, or the issued erase is SUSPENDED. -/
def Target.linkOpen (t : Target) : Bool :=
  match t.erase with
  | none => true
  | some x => x.state = .suspended

/-- ARBITER_BEGIN (R103). -/
def arbiterBegin (t : TargetNo) (s : State) : State :=
  let k := s.target t
  if k.xfer.isSome ∨ ¬ k.usable ∨ ¬ k.linkOpen then s
  else if k.waitWrite then s.beginWrite t
  else match k.waitRead with
    | some j => s.beginRead t j
    | none => if k.erase.isNone then s.onTarget t Target.issueErase else s

/-! ### End of an erase (R107, R108) -/

/-- R107, R108: the issued entry leaves the head of the queue, its extents change and its members' entries go. -/
def State.removeErased (s : State) (t : TargetNo) (e : EraseEntry) (st : ExtentState) : State :=
  (s.onTarget t fun k => { k.setExtents e.extents st with queue := k.queue.tail, erase := none }).onDir
    fun d => d.filter fun x => !e.segments.contains x.id

/-- R125: the number of members of an entry found in the Directory. -/
def State.presentMembers (s : State) (e : EraseEntry) : List SegEntry :=
  s.dir.filter fun x => e.segments.contains x.id

/-- R107: the issued erase completes. -/
def State.eraseCompletes (s : State) (t : TargetNo) : State :=
  match (s.target t).erase, (s.target t).queue with
  | some _, e :: _ =>
    let n := (s.presentMembers e).length
    (((s.removeErased t e .free).onTarget t fun k =>
        { k with erasesDone := satAdd Config.max32 k.erasesDone 1 }).faultClear t).onExpiry
      fun x => { x with erased := satAdd Config.max32 x.erased n }
  | _, _ => s

/-- R108: the event of a member segment of a failed erase. -/
def State.eraseFailedEvent (s : State) (t : TargetNo) (c : Cause) (e : SegEntry) : AuditEvent :=
  { s.event .eraseFailed .point with
    cause := some c, segId := some e.id, day := some e.day, target := some t.val, figure := some e.cls.val }

/-- R108: the issued erase fails, with cause ERROR or TIMEOUT. -/
def State.eraseFails (s : State) (t : TargetNo) (c : Cause) : State :=
  match (s.target t).erase, (s.target t).queue with
  | some _, e :: _ =>
    let gone := s.presentMembers e
    let s := (s.removeErased t e .bad).onTarget t fun k =>
      { k with eraseFails := satAdd Config.max32 k.eraseFails 1 }
    ((s.raiseAll (gone.map (s.eraseFailedEvent t c))).faultUp t).onExpiry
      fun x => { x with failed := satAdd Config.max32 x.failed gone.length }
  | _, _ => s

end Sys2Proof.Machine
end

