-- ==== Sys2Proof/Machine/Scan.lean ====
section
/-! DEFINITION. Scans of targets and the rebuild (R87, R176, R177): reading unit 0 of each extent, classifying it, walking
sound images, and the end of a scan and of the rebuild. -/

namespace Sys2Proof.Machine

/-! ### Reads of a scan -/

/-- The single-beat read of an extent's unit 0 (R87). -/
def unitZeroRead (x unit : Nat) (gather : Bool) (ackMs : Nat) : Xfer :=
  { kind := .scan, extent := x, first := 0, beats := 1, unitSize := unit, gather := gather, beat := 0, ackMs := ackMs,
    image := [], cut := false }

/-- Begin reading an extent's unit 0. -/
def Target.readUnitZero (x : Nat) (t : Target) : Target :=
  match t.unitSize, t.gather with
  | some unit, some gather => { t with xfer := some (unitZeroRead x unit gather t.ackMs) }
  | _, _ => t

/-- R87: a scan begins: every extent BAD, then unit 0 of extent 0 is read. -/
def Target.startScan (rebuild : Bool) (reply : Option ScanReply) (t : Target) : Target :=
  { t with
    state := .scanning
    map := t.extents.map fun n => List.replicate n .bad
    scan := some { rebuild := rebuild, extent := 0, buf := [], made := [], reply := reply } }.readUnitZero 0

/-- The figures of a scanned target: extents WRITTEN, FREE and BAD (R87, R177). -/
def Target.scanCounts (t : Target) : List Byte :=
  be 4 (t.countExtents .written) ++ be 4 (t.countExtents .free) ++ be 4 (t.countExtents .bad)

/-! ### End of a scan made in RUNNING (R87) -/

/-- R87: the target becomes ONLINE and LOAD TARGET is answered. -/
def State.scanFinish (s : State) (t : TargetNo) (c : Scan) : State :=
  let s := (s.onTarget t fun k => { k with scan := none }).enterOnline t
  match c.reply with
  | none => s
  | some r => s.complete { tag := r.tag, result := .done, clamped := r.clamped,
                           figures := r.figures ++ (s.target t).scanCounts }

/-! ### End of the rebuild (R177) -/

/-- The target's scan of a rebuild has classified its last extent, or the target has no such scan. -/
def Target.rebuildDone (t : Target) : Bool :=
  match t.scan with
  | none => true
  | some c => !c.rebuild || t.extents = some c.extent

/-- The targets with a scan of the rebuild, in ascending number. R177 does not order them: DESIGN CHOICE, log entry 41. -/
def State.rebuildTargets (s : State) : List TargetNo :=
  allTargets.filter fun t => (s.target t).scan.any Scan.rebuild

/-- The highest segment id of the Directory, 0 when it is empty (R177 step 2). -/
def highestId (d : List SegEntry) : Nat := d.foldl (fun m e => max m e.id) 0

/-- R177 step 3: set the Settlement Map flag of every day held by an entry. -/
def settleDays (d : List SegEntry) (m : BitVec 65536) : BitVec 65536 :=
  d.foldl (fun m e => m ||| BitVec.twoPow 65536 e.day) m

/-- The number of targets ONLINE. -/
def State.onlineCount (s : State) : Nat := (allTargets.filter fun t => (s.target t).state = .online).length

/-- The figures of START ARCHIVE's reply: a list over the targets scanned (R177 step 6). -/
def State.rebuildFigures (s : State) (ts : List TargetNo) : List Byte :=
  listOctets (ts.map fun t => (s.target t).scanCounts)

/-- R177 steps 1 to 3: targets, ids and settlement. The targets `ts` enter ONLINE in the order given, ascending target
number, so the TARGET notice is left with the snapshot of the last: the model's choice, log entry 41. -/
def State.rebuildTables (s : State) (ts : List TargetNo) : State :=
  let s := ts.foldl (fun s t => (s.onTarget t fun k => { k with scan := none }).enterOnline t) s
  let s := s.onBuilder fun b => { b with nextId := nextAfter (highestId s.dir) }
  s.onTracker fun k => { k with settled := settleDays s.dir k.settled }

/-- R177: the rebuild ends. The order of the targets, in step 1 and in the reply's list, is the model's choice (log entry
41). "The targets ONLINE" of the START snapshot are sent as their number: DEDUCED, log entry 9. "The entries made" of event
and snapshot are those in the Directory, without one withdrawn by R176: DESIGN CHOICE, log entry 53. -/
def State.rebuildEnd (s : State) : State :=
  let ts := s.rebuildTargets
  let reply := (ts.filterMap fun t => (s.target t).scan.bind Scan.reply).head?
  let s := s.rebuildTables ts
  let s := s.raise { s.event .rebuilt .point with figure := some s.dir.length }
  let s := (s.setEngine .running).checkFlow
  let s := s.notify noticeStart (be 4 s.dir.length ++ be 4 s.onlineCount)
  match reply with
  | none => s
  | some r => s.completeWith r.tag .done (s.rebuildFigures ts)

/-! ### Classifying extents (R87, R176) -/

/-- The next extent of a scan, or the end of the scan. -/
def State.scanNext (s : State) (t : TargetNo) : State :=
  match (s.target t).scan with
  | none => s
  | some c =>
    let n := c.extent + 1
    let s := s.onTarget t fun k => { k with scan := some { c with extent := n, buf := [] }, xfer := none }
    if (s.target t).extents = some n then
      if c.rebuild then
        if s.rebuildTargets.all fun u => (s.target u).rebuildDone then s.rebuildEnd else s
      else s.scanFinish t c
    else s.onTarget t (Target.readUnitZero n)

/-- R176: FFh in every octet. -/
def erasedPattern (data : List Byte) : Bool := data.all (· = 255)

/-- The image of a scan joins the images that wait for the Record Coder. -/
def State.scanToCoder (s : State) (t : TargetNo) : State :=
  (s.onTarget t fun k => { k with xfer := none }).onCoder (· ++ [.scan t])

/-- R176: unit 0 of an extent has been read. -/
def State.scanUnitZero (s : State) (t : TargetNo) (c : Scan) (x : Xfer) (data : List Byte) : State :=
  if erasedPattern data then (s.onTarget t (Target.setExtent c.extent .free)).scanNext t
  else if ¬ soundHeader data then s.scanNext t
  else
    let beats : Nat := beatsFor x.unitSize (readHeader data).payloadLen
    let s := s.onTarget t fun k => { k with scan := some { c with buf := data } }
    if beats ≤ 1 then s.scanToCoder t
    else s.onTarget t fun k =>
      { k with xfer := some { x with first := 1, beats := beats, beat := 1, ackMs := k.ackMs } }

/-- An accepted beat of a scan: unit 0, or one of the rest of a sound image. -/
def State.scanAccept (s : State) (t : TargetNo) (x : Xfer) (data : List Byte) : State :=
  match (s.target t).scan with
  | none => s
  | some c =>
    if x.first = 0 then s.scanUnitZero t c x data
    else
      let s := s.onTarget t fun k => { k with scan := some { c with buf := c.buf ++ data } }
      if x.beat + 1 < x.beats then
        s.onTarget t fun k => { k with xfer := some { x with beat := x.beat + 1, ackMs := k.ackMs } }
      else s.scanToCoder t

/-! ### Making entries (R176, R87) -/

/-- R176: the run record of a decoded run. -/
def DecRun.toRun (d : DecRun) : RunRec :=
  { source := d.source, slot := d.slot, status := if d.firm then .firm else .void, continued := d.continued,
    count := d.count, digest := some (BitVec.ofNat 32 d.digest), firstSeq := d.firstSeq, lane := none }

/-- R176: the STORED entry made from a header and its run headers; `pins` is the number of requests that name its id, 0 in a
rebuild (R146). Its commit attempts, of which R79 and R176 say nothing, are 0: DESIGN CHOICE, log entry 52. A dictionary group
above 3, which R176 does not test and R79 does not hold, stands as the header has it: DESIGN CHOICE, log entry 54. -/
def scannedEntry (h : Header) (ds : List DecRun) (t : TargetNo) (x pins : Nat) : SegEntry :=
  { id := h.segId, cls := Fin.ofNat 16 h.cls, day := h.day, state := .stored, group := h.group,
    generation := h.generation, place := some (t, x), payloadLen := h.payloadLen, recordCount := firmCount ds,
    runs := ds.map DecRun.toRun, segDigest := some (BitVec.ofNat 32 h.digest), sealReason := sealOfCode h.reason,
    attempts := 0, verifyCount := 0, lastVerified := none, suspect := false, pins := pins }

/-- Insert a scanned entry and make its extent WRITTEN. -/
def State.makeEntry (s : State) (t : TargetNo) (e : SegEntry) (x : Nat) : State :=
  (s.onDir (insertEntry e)).onTarget t fun k =>
    { k.setExtent x .written with scan := k.scan.map fun c => { c with made := c.made ++ [e.id] } }

/-- R176: of two extents with one segment id, the one on the lower target, or the lower extent of one target. -/
def placeBefore (a b : TargetNo × Nat) : Bool := a.1 < b.1 || (a.1 = b.1 && a.2 < b.2)

/-- R176: a scan of the rebuild passes an extent; a duplicate id is settled by place. -/
def State.rebuildEntry (s : State) (t : TargetNo) (e : SegEntry) (x : Nat) : State :=
  match s.entry? e.id with
  | none => s.makeEntry t e x
  | some old =>
    match old.place with
    | none => s
    | some p =>
      if placeBefore (t, x) p then
        ((s.onDir (removeEntry e.id)).onTarget p.1 (Target.setExtent p.2 .bad)).makeEntry t e x
      else s

/-- R87: the next segment id after a scan has inserted an id. -/
def nextIdAfterScan (id : Nat) : Option Nat → Option Nat
  | none => none
  | some n => if n ≤ id then nextAfter id else some n

/-- R87: a scan made in RUNNING passes an extent. -/
def State.runningEntry (s : State) (t : TargetNo) (e : SegEntry) (x : Nat) : State :=
  if (s.entry? e.id).isSome ∨ Config.dirCap ≤ s.dir.length then s
  else
    let s := (s.makeEntry t e x).onBuilder fun b => { b with nextId := nextIdAfterScan e.id b.nextId }
    if (s.day? e.day).isSome then s else s.settleFlag e.day

/-- R176: the walk of a scan's image is complete. -/
def State.scanWalked (s : State) (t : TargetNo) : State :=
  match (s.target t).scan with
  | none => s
  | some c =>
    let s := match decodeImage c.buf with
      | .error _ => s
      | .ok ds =>
        let e := scannedEntry (readHeader c.buf) ds t c.extent (s.requestsFor (readHeader c.buf).segId)
        if c.rebuild then s.rebuildEntry t e c.extent else s.runningEntry t e c.extent
    s.scanNext t

/-! ### The Record Coder's commands -/

/-- DECODE_ACTIVATE (R148). The table of R148 has no row for a STORED entry whose target is SCANNING, which an id can have
that a scan in RUNNING has made again; the request waits, not active: DESIGN CHOICE, log entry 48. -/
def decodeActivate (s : State) : State :=
  match s.audit.active, s.audit.requests with
  | none, r :: _ =>
    match s.entry? r.segId with
    | none => s.finishRequest .notFound
    | some e =>
      if e.state = .expiring then s.finishRequest .tooLate
      else match e.place with
        | none => s
        | some (t, x) =>
          if (s.target t).state = .offline then s.finishRequest (.readFail .offline)
          else if ¬ (s.target t).usable then s
          else
            ((s.onAudit fun a => { a with active := some (.reading t) }).onTarget t fun k =>
              { k with waitRead := some { extent := x, payloadLen := e.payloadLen } }).pokeErase t
  | _, _ => s

/-- DECODE_COMPLETE (R61, R148, R176): the first waiting image is done. -/
def decodeComplete (s : State) : State :=
  match s.coder with
  | [] => s
  | .request :: rest => (s.onCoder fun _ => rest).decodeResult
  | .scan t :: rest => (s.onCoder fun _ => rest).scanWalked t

end Sys2Proof.Machine
end

