-- ==== Sys2Proof/Machine/Transfer.lean ====
section
/-! DEFINITION. Answers of the store targets and the controllers' timers (R92 to R95, R105 to R108): the commands
BEAT_ACCEPT, BEAT_ERROR, ACK_TIMER_EXPIRY, ERASE_DONE, ERASE_ERROR, SUSPENDED, RESUMED and ERASE_TIMER_EXPIRY. -/

namespace Sys2Proof.Machine

/-! ### Answers that match nothing outstanding (R92) -/

/-- R92: an answer that matches no request outstanding is discarded and counted. -/
def State.unexpectedAnswer (s : State) (t : TargetNo) : State :=
  s.onTarget t fun k => { k with unexpected := satAdd Config.max32 k.unexpected 1 }

/-- R92: an answer to a request whose ack timer has expired is discarded and counted; with none expired it matches
nothing. -/
def State.lateAnswer (s : State) (t : TargetNo) : State :=
  if (s.target t).expired = 0 then s.unexpectedAnswer t
  else s.onTarget t fun k => { k with expired := k.expired - 1, late := satAdd Config.max32 k.late 1 }

/-- An answer on a store link: `live` says what it does when it answers the request outstanding (log entry 11). -/
def State.answered (s : State) (t : TargetNo) (answers : AnswerTo) (live : State) : State :=
  match answers with
  | .live => live
  | .expired => s.lateAnswer t
  | .stray => s.unexpectedAnswer t

/-! ### Beats (R93, R95) -/

/-- R93, R94: the next beat is sent, with the ack timeout now in force. -/
def State.nextBeat (s : State) (t : TargetNo) (x : Xfer) : State :=
  s.onTarget t fun k => { k with xfer := some { x with beat := x.beat + 1, ackMs := k.ackMs } }

/-- R95: an accepted beat of a decode read goes into the read buffer. -/
def State.readBeat (s : State) (t : TargetNo) (x : Xfer) (data : List Byte) : State :=
  if x.cut then s.readFail t .offline
  else
    let s := s.onAudit fun a => { a with readBuffer := a.readBuffer ++ data }
    if x.beat + 1 < x.beats then s.nextBeat t x else s.readComplete t

/-- R93: an accepted beat of a write. -/
def State.writeBeat (s : State) (t : TargetNo) (x : Xfer) : State :=
  if x.beat + 1 < x.beats then s.nextBeat t x else s.writeSuccess t x.extent

/-- An ACCEPT for the beat in flight. For a read it carries one unit of data; without it, it is no answer to the
request (R92). -/
def State.acceptBeat (s : State) (t : TargetNo) (data : List Byte) : State :=
  match (s.target t).xfer with
  | none => s.unexpectedAnswer t
  | some x =>
    match x.kind with
    | .write => s.writeBeat t x
    | .read => if data.length = x.unitSize then s.readBeat t x data else s.unexpectedAnswer t
    | .scan => if data.length = x.unitSize then s.scanAccept t x data else s.unexpectedAnswer t

/-- The beat in flight fails, on an ERROR or a timeout (R93, R94, R87). A scan's read that fails is no read failure of R109:
DEDUCED, log entry 23. -/
def State.failBeat (s : State) (t : TargetNo) (x : Xfer) (c : ReadCause) : State :=
  match x.kind with
  | .write => s.writeFailure t x.extent
  | .read => s.readFail t (if x.cut then .offline else c)
  | .scan => s.scanNext t

/-- An ERROR for the beat in flight. -/
def State.errorBeat (s : State) (t : TargetNo) : State :=
  match (s.target t).xfer with
  | none => s.unexpectedAnswer t
  | some x => s.failBeat t x .error

/-- BEAT_ACCEPT (R93, R95, R99, R87). -/
def beatAccept (t : TargetNo) (answers : AnswerTo) (data : List Byte) (s : State) : State :=
  s.answered t answers (s.acceptBeat t data)

/-- BEAT_ERROR (R93, R95, R100, R87). -/
def beatError (t : TargetNo) (answers : AnswerTo) (s : State) : State := s.answered t answers (s.errorBeat t)

/-! ### Timers (R94, R106) -/

/-- A request's ack timer has expired; its answer, when it comes, is late. -/
def State.countExpired (s : State) (t : TargetNo) : State := s.onTarget t fun k => { k with expired := k.expired + 1 }

/-- A SUSPEND or RESUME is unanswered. -/
def EraseSlot.asks (x : EraseSlot) : Bool := x.state = .suspendRequested || x.state = .resumeRequested

/-- ACK_TIMER_EXPIRY (R94, R106). -/
def ackTimerExpiry (t : TargetNo) (timer : AckTimer) (s : State) : State :=
  match timer with
  | .beat =>
    match (s.target t).xfer with
    | none => s
    | some x => (s.countExpired t).failBeat t x .timeout
  | .eraseRequest => if (s.target t).erase.any EraseSlot.asks then (s.countExpired t).eraseFails t .timeout else s

/-- The erase timer has reached its timeout; it counts only while the erase is RUNNING (R106). -/
def EraseSlot.overdue (x : EraseSlot) : Bool := x.state = .running && x.timeout ≤ x.timer

/-- ERASE_TIMER_EXPIRY (R106). -/
def eraseTimerExpiry (t : TargetNo) (s : State) : State :=
  if (s.target t).erase.any EraseSlot.overdue then s.eraseFails t .timeout else s

/-! ### Answers about an erase (R105, R107, R108) -/

/-- ERASE_DONE (R107). -/
def eraseDone (t : TargetNo) (answers : AnswerTo) (s : State) : State :=
  s.answered t answers (if (s.target t).erase.isSome then s.eraseCompletes t else s.unexpectedAnswer t)

/-- ERASE_ERROR (R108). -/
def eraseError (t : TargetNo) (answers : AnswerTo) (s : State) : State :=
  s.answered t answers (if (s.target t).erase.isSome then s.eraseFails t .error else s.unexpectedAnswer t)

/-- R105: the erase is SUSPENDED; the suspend count and the suspension counter rise. -/
def Target.suspendedBy (x : EraseSlot) (t : Target) : Target :=
  { t with
    erase := some { x with state := .suspended, suspends := x.suspends + 1 }
    suspensions := satAdd Config.max32 t.suspensions 1 }

/-- SUSPENDED for a SUSPEND outstanding. -/
def State.takeSuspended (s : State) (t : TargetNo) : State :=
  match (s.target t).erase with
  | none => s.unexpectedAnswer t
  | some x =>
    if x.state = .suspendRequested then (s.onTarget t (Target.suspendedBy x)).pokeErase t else s.unexpectedAnswer t

/-- SUSPENDED (R105, R91). -/
def targetSuspended (t : TargetNo) (answers : AnswerTo) (s : State) : State := s.answered t answers (s.takeSuspended t)

/-- RESUMED for a RESUME outstanding. -/
def State.takeResumed (s : State) (t : TargetNo) : State :=
  match (s.target t).erase with
  | none => s.unexpectedAnswer t
  | some x =>
    if x.state = .resumeRequested then
      (s.onTarget t fun k => { k with erase := some { x with state := .running } }).pokeErase t
    else s.unexpectedAnswer t

/-- RESUMED (R105). -/
def targetResumed (t : TargetNo) (answers : AnswerTo) (s : State) : State := s.answered t answers (s.takeResumed t)

/-! ### The controllers' timers on an idle step (log entry 3) -/

/-- One second of a RUNNING erase; the count stops at the timeout. -/
def EraseSlot.tick (x : EraseSlot) : EraseSlot :=
  if x.state = .running then { x with timer := min (x.timer + 1) x.timeout } else x

/-- One second on every controller. -/
def State.tick (s : State) : State :=
  s.onTargets fun v => v.map fun t => { t with erase := t.erase.map EraseSlot.tick }

end Sys2Proof.Machine
end

