-- ==== Sys2Proof/Machine/Expiry.lean ====
section
/-! DEFINITION. The Expiry Engine (06): the sweep timer, sweep and scrub passes, eligibility, the Erase Queue, coalescing
and pass summaries. -/

namespace Sys2Proof.Machine

/-! ### Numbers of named values -/

def SweepMode.number : SweepMode → Nat
  | .off => 1
  | .single => 2
  | .cyclic => 3

def PassKind.number : PassKind → Nat
  | .sweep => 1
  | .scrub => 2

def PassOrigin.number : PassOrigin → Nat
  | .timer => 1
  | .directive => 2

def StopCause.number : StopCause → Nat
  | .batch => 1
  | .round => 2
  | .queueFull => 3
  | .empty => 4

/-- The place of a reason in the order of the tests of R119. -/
def KeepReason.index : KeepReason → Fin 6
  | .retained => 0
  | .unsettled => 1
  | .suspect => 2
  | .pinned => 3
  | .guarded => 4
  | .heldBy => 5

/-! ### Summaries (R124) -/

/-- The octets of a sweep pass's summary. -/
def Summary.sweepOctets (x : Summary) : List Byte :=
  named x.kind.number ++ named x.origin.number ++ named ((x.stop.map StopCause.number).getD 0)
    ++ optNum 1 (x.stopTarget.map Fin.val) ++ be 4 x.counts.examined ++ be 4 x.counts.expiring
    ++ be 4 x.counts.allVoid ++ (x.counts.eligible.toList.map (be 4)).flatten
    ++ (x.counts.kept.toList.map (be 4)).flatten ++ be 4 x.counts.coalesced ++ flagOctet x.skipped ++ be 4 x.cursor
    ++ be 4 x.erased ++ be 4 x.failed

/-- The octets of a scrub pass's summary. -/
def Summary.scrubOctets (x : Summary) : List Byte :=
  named x.kind.number ++ named x.origin.number ++ be 4 x.queued ++ flagOctet x.skipped ++ be 4 x.erased
    ++ be 4 x.failed

/-- The SWEEP notice's snapshot. -/
def Summary.octets (x : Summary) : List Byte :=
  match x.kind with
  | .sweep => x.sweepOctets
  | .scrub => x.scrubOctets

/-- R124: the summary of a pass as it ends. -/
def Expiry.summary (x : Expiry) (p : Pass) (stop : Option StopCause) (at? : Option TargetNo) (queued : Nat) : Summary :=
  { kind := p.kind, origin := p.origin, stop := stop, stopTarget := at?, counts := p.counts, queued := queued,
    skipped := p.skipped, cursor := x.cursor, erased := x.erased, failed := x.failed }

/-- R124: a pass ends: summary written, tallies taken, idle, SWEEP made pending. -/
def State.endPass (s : State) (p : Pass) (stop : Option StopCause) (at? : Option TargetNo) (queued : Nat) : State :=
  let m := s.expiry.summary p stop at? queued
  (s.onExpiry fun x => { x with last := some m, erased := 0, failed := 0, pass := none }).notify noticeSweep m.octets

/-! ### The walk (R116, R117) -/

/-- The entry with the lowest id at or above the cursor. -/
def State.atCursor (s : State) : Option SegEntry := s.dir.find? fun e => s.expiry.cursor ≤ e.id

/-- R116: the first entry a pass examines. -/
def State.firstEntry (s : State) : Option SegEntry := (s.atCursor).or s.dir.head?

/-- A running pass began by wrapping: its starting id lies below the cursor, and it has examined nothing yet. -/
def Pass.startsWrapped (p : Pass) (cursor : Nat) : Bool := p.counts.examined = 0 && p.startId < cursor

/-- R117: what the walk meets next: the entry with whether the walk has then wrapped, or the end of the pass by ROUND
or EMPTY (log entry 14). -/
inductive WalkNext where
  | entry (e : SegEntry) (wrapped : Bool)
  | stop (c : StopCause)

/-- A wrapped walk stops at an id at or above the starting id. -/
def Pass.meet (p : Pass) (e : SegEntry) (wrapped : Bool) : WalkNext :=
  if wrapped ∧ p.startId ≤ e.id then .stop .round else .entry e wrapped

/-- R116, R117: the next entry of a pass's walk. When a wrapped walk finds the Directory empty, ROUND and EMPTY both hold, and
EMPTY is given: DESIGN CHOICE, log entry 14. -/
def State.walkNext (s : State) (p : Pass) : WalkNext :=
  match s.dir with
  | [] => .stop .empty
  | low :: _ =>
    match s.atCursor with
    | some e => p.meet e p.wrapped
    | none =>
      if p.wrapped then .stop .round
      else p.meet low (!p.startsWrapped s.expiry.cursor)

/-! ### Starting a pass (R116, R154) -/

/-- A new pass. -/
def Pass.new (kind : PassKind) (origin : PassOrigin) (startId batch : Nat) (oldest : Option Nat) : Pass :=
  { kind := kind, origin := origin, startId := startId, wrapped := false, batch := batch, oldest := oldest,
    skipped := false, counts := {} }

/-- R116: a sweep pass begins; with an empty Directory it ends at once. -/
def State.startSweep (s : State) (origin : PassOrigin) : State :=
  match s.firstEntry with
  | none => s.endPass (Pass.new .sweep origin s.expiry.cursor s.expiry.batch none) (some .empty) none 0
  | some e =>
    s.onExpiry fun x => { x with pass := some (Pass.new .sweep origin e.id x.batch (oldestDay s.dir)) }

/-- R154: a scrub pass: it ends when its requests are queued. -/
def State.startScrub (s : State) (origin : PassOrigin) : State :=
  let n := s.scrubNumber s.expiry.scrubBatch
  (s.queueScrubs s.expiry.scrubBatch).endPass (Pass.new .scrub origin 0 s.expiry.scrubBatch none) none none n

/-- Start a pass of a kind. -/
def State.startPass (s : State) (kind : PassKind) (origin : PassOrigin) : State :=
  match kind with
  | .sweep => s.startSweep origin
  | .scrub => s.startScrub origin

/-! ### The sweep timer (R111 to R113) -/

/-- R111: an archive-minute boundary. The count stands at the interval until the match is taken (log entry 15). -/
def Expiry.minute (x : Expiry) : Expiry :=
  if x.mode = .off then { x with count := 0 } else { x with count := min (x.count + 1) x.interval }

/-- R112: the kind the next match starts. -/
def Expiry.matchKind (x : Expiry) : PassKind := if x.mode = .cyclic ∧ x.alternate then x.nextKind else .sweep

/-- R112: the other kind. -/
def PassKind.other : PassKind → PassKind
  | .sweep => .scrub
  | .scrub => .sweep

/-- R111: what a match leaves of the timer. -/
def Expiry.afterMatch (x : Expiry) : Expiry :=
  { x with count := 0, mode := if x.mode = .single then .off else x.mode }

/-- R112: a match that starts a pass alternates the next kind. -/
def Expiry.alternateKind (x : Expiry) : Expiry :=
  if x.mode = .cyclic ∧ x.alternate then { x with nextKind := x.nextKind.other } else x

/-- R113: a match during a running pass sets its skipped flag. -/
def Expiry.skip (x : Expiry) : Expiry := { x with pass := x.pass.map fun p => { p with skipped := true } }

/-- R111: the minute count has reached the interval. -/
def Expiry.due (x : Expiry) : Bool := x.mode ≠ .off && x.interval ≤ x.count

/-- SWEEP_TIMER_MATCH (R111 to R113). -/
def sweepTimerMatch (s : State) : State :=
  if ¬ s.expiry.due then s
  else if s.engine ≠ .running then s.onExpiry Expiry.afterMatch
  else if s.expiry.pass.isSome then s.onExpiry fun x => x.skip.afterMatch
  else (s.onExpiry fun x => x.alternateKind.afterMatch).startPass s.expiry.matchKind .timer

/-! ### Eligibility (R118, R119) -/

/-- The Guard Window covers a day now, with the oldest day given (R120). -/
def State.guardCovers (s : State) (oldest : Option Nat) (day : Nat) : Bool := s.hold.guard.covers s.today oldest day

/-- Some hold covers a day and class (R121). -/
def State.heldBy (s : State) (day : Nat) (cls : ClassNo) : Bool := s.hold.holds.any fun h => h.covers day cls

/-- R119: the first test that fails; `none` when all pass. -/
def State.keepReason (s : State) (oldest : Option Nat) (e : SegEntry) : Option KeepReason :=
  let r := (vget s.tables.classes e.cls).retention
  if r = 0 ∨ s.today < e.day + r then some .retained
  else if ¬ s.isSettled e.day then some .unsettled
  else if e.suspect then some .suspect
  else if 0 < e.pins then some .pinned
  else if s.guardCovers oldest e.day then some .guarded
  else if s.heldBy e.day e.cls then some .heldBy
  else none

/-! ### The Erase Queue (R122, R123) -/

/-- R123: the entries of an Erase Queue that are not issued. -/
def Target.unissued (t : Target) : List EraseEntry := if t.erase.isSome then t.queue.tail else t.queue

/-- The queue names an extent by a SINGLE entry. -/
def singleNames (q : List EraseEntry) (x : Nat) : Bool :=
  q.any fun e => match e with
    | .single y _ => y = x
    | .group _ _ _ => false

/-- The 16 extents of a group. -/
def groupExtents (g : Nat) : List Nat := (List.range 16).map fun i => 16 * g + i

/-- The SINGLE entry names an extent of the group. -/
def EraseEntry.inGroup (g : Nat) : EraseEntry → Bool
  | .single x _ => x / 16 = g
  | .group _ _ _ => false

/-- R123: an unissued SINGLE entry names an extent of the group, as the one just added does, and every extent of the group
is FREE or named by such an entry. -/
def Target.coalesces (t : Target) (g : Nat) : Bool :=
  t.unissued.any (EraseEntry.inGroup g) && (groupExtents g).all fun x => t.extent? x = some .free || singleNames t.unissued x

/-- R123 step 1: the members, in ascending extent order. -/
def groupMembers (g : Nat) (q : List EraseEntry) : List (Nat × Nat) :=
  (groupExtents g).filterMap fun x => (q.find? fun e => singleNames [e] x).bind fun e => e.members.head?

/-- R123 steps 1 and 3: the queue with the group's SINGLE entries replaced, at the place of the earliest, by one GROUP
entry. -/
def replaceGroup (g : Nat) (entry : EraseEntry) (q : List EraseEntry) : List EraseEntry :=
  match q with
  | [] => []
  | e :: t => if e.inGroup g then entry :: t.filter fun x => !x.inGroup g else e :: replaceGroup g entry t

/-- R123: the group's extents coalesce. -/
def Target.coalesce (g : Nat) (t : Target) : Target :=
  let fillers := (groupExtents g).filter fun x => t.extent? x = some .free
  let entry := EraseEntry.group g (groupMembers g t.unissued) fillers
  let q := replaceGroup g entry t.unissued
  { t.setExtents fillers .erasing with queue := if t.erase.isSome then t.queue.take 1 ++ q else q }

/-! ### One examination (R117, R122) -/

/-- The counts of a pass after an entry is made EXPIRING. -/
def PassCounts.expire (c : PassCounts) (e : SegEntry) (coalesced : Bool) : PassCounts :=
  { c with
    expiring := c.expiring + 1
    allVoid := if e.hasFirm then c.allVoid else c.allVoid + 1
    eligible := if e.hasFirm then vset c.eligible e.cls (vget c.eligible e.cls + 1) else c.eligible
    coalesced := if coalesced then c.coalesced + 1 else c.coalesced }

/-- The counts of a pass after an entry is kept. -/
def PassCounts.keep (c : PassCounts) (r : KeepReason) : PassCounts :=
  { c with kept := vset c.kept r.index (vget c.kept r.index + 1) }

/-- R122 steps 1, 2 and 4: the entry becomes EXPIRING and joins its target's Erase Queue; coalescing is tested. -/
def State.expire (s : State) (e : SegEntry) (t : TargetNo) (x : Nat) : State × Bool :=
  let s := (s.onEntry e.id fun y => { y with state := .expiring }).onTarget t fun k =>
    { k with queue := k.queue ++ [.single x e.id] }
  if (s.target t).coalesces (x / 16) then (s.onTarget t (Target.coalesce (x / 16)), true) else (s, false)

/-- What an examination of one entry comes to. -/
inductive Examined where
  | counted (s : State) (c : PassCounts)
  | full (t : TargetNo)

/-- R117, R118, R119, R122: examine one entry. -/
def State.examine (s : State) (p : Pass) (e : SegEntry) : Examined :=
  match e.state, e.place with
  | .stored, some (t, x) =>
    if (s.target t).state = .scanning then .counted s p.counts
    else match (if e.hasFirm then s.keepReason p.oldest e else none) with
      | some r => .counted s (p.counts.keep r)
      | none =>
        if Config.eraseCap ≤ (s.target t).queue.length then .full t
        else
          let y := s.expire e t x
          .counted y.1 (p.counts.expire e y.2)
  | _, _ => .counted s p.counts

/-- R117: the cursor after a counted examination. -/
def cursorAfter (id : Nat) : Nat := if Config.maxSegId ≤ id then 1 else id + 1

/-- R117: after a counted examination: cursor, examined count, and the end of the pass by ROUND, EMPTY or BATCH. -/
def State.afterExamination (s : State) (p : Pass) (id : Nat) (wrapped : Bool) (c : PassCounts) : State :=
  let p := { p with wrapped := wrapped || Config.maxSegId ≤ id, counts := { c with examined := c.examined + 1 } }
  let s := s.onExpiry fun x => { x with cursor := cursorAfter id, pass := some p }
  match s.walkNext p with
  | .stop k => s.endPass p (some k) none 0
  | .entry _ _ => if p.batch ≤ p.counts.examined then s.endPass p (some .batch) none 0 else s

/-- SWEEP_EXAMINATION (R117). -/
def sweepExamination (s : State) : State :=
  match s.expiry.pass with
  | none => s
  | some p =>
    match s.walkNext p with
    | .stop k => s.endPass p (some k) none 0
    | .entry e wrapped =>
      match s.examine p e with
      | .full t => (s.onExpiry fun x => { x with cursor := e.id }).endPass p (some .queueFull) (some t) 0
      | .counted s c => s.afterExamination p e.id wrapped c

end Sys2Proof.Machine
end

