-- ==== Sys2Proof/Machine/Hold.lean ====
section
/-! DEFINITION. The Hold Store (07): protection, the program unit, rescue from the Erase Queues, and the lapse of
IRREVOCABLE holds. The directives themselves stand in Setting.lean. -/

namespace Sys2Proof.Machine

/-! ### Numbers of named values -/

def ProtectMode.number : ProtectMode → Nat
  | .opened => 1
  | .line => 2
  | .pinned => 3

def levelNumber : Level → Nat
  | .high => 1
  | .low => 2

def Anchor.number : Anchor → Nat
  | .newest => 1
  | .oldest => 2

def HoldKind.number : HoldKind → Nat
  | .revocable => 1
  | .irrevocable => 2

/-- The figures of an acceptance (R136). -/
def Figures.octets (f : Figures) : List Byte := be 4 f.rescued ++ be 4 f.lost ++ be 4 f.deferred

/-! ### Rescue (R134 to R136) -/

/-- What a rescue makes of one un-issued erase entry: the entries that take its place, the segments rescued and
deferred, and the fillers freed. -/
structure Rescue where
  queue : List EraseEntry
  rescued : List Nat
  deferred : List Nat
  fillers : List Nat
  deriving DecidableEq, Repr

/-- R134, R135: one un-issued entry; `covered` tells the segments the change covers, `others` the number of other
entries in the queue. -/
def EraseEntry.rescue (covered : Nat → Bool) (others : Nat) (e : EraseEntry) : Rescue :=
  match e with
  | .single _ id =>
    if covered id then { queue := [], rescued := [id], deferred := [], fillers := [] }
    else { queue := [e], rescued := [], deferred := [], fillers := [] }
  | .group _ ms fs =>
    if ms.any fun m => covered m.2 then
      let left := ms.filter fun m => !covered m.2
      let room : Nat := Config.eraseCap - others
      { queue := (left.take room).map fun m => .single m.1 m.2
        rescued := (ms.filter fun m => covered m.2).map Prod.snd
        deferred := (left.drop room).map Prod.snd
        fillers := fs }
    else { queue := [e], rescued := [], deferred := [], fillers := [] }

/-- R134: the walk of un-issued entries from head to tail; `before` entries stand ahead of them. -/
def rescueWalk (covered : Nat → Bool) : Nat → List EraseEntry → Rescue
  | _, [] => { queue := [], rescued := [], deferred := [], fillers := [] }
  | before, e :: t =>
    let r := e.rescue covered (before + t.length)
    let w := rescueWalk covered (before + r.queue.length) t
    { queue := r.queue ++ w.queue, rescued := r.rescued ++ w.rescued, deferred := r.deferred ++ w.deferred,
      fillers := r.fillers ++ w.fillers }

/-- R134: the segments with a FIRM run that a change covers. -/
def State.coveredBy (s : State) (covers : SegEntry → Bool) (id : Nat) : Bool :=
  (s.entry? id).any fun e => e.hasFirm && covers e

/-- The rescued and deferred segments return from EXPIRING to STORED; the fillers become FREE. -/
def State.applyRescue (s : State) (t : TargetNo) (r : Rescue) : State :=
  (s.onTarget t (Target.setExtents r.fillers .free)).onDir fun d =>
    d.map fun e => if (r.rescued ++ r.deferred).contains e.id then { e with state := .stored } else e

/-- R136: the covered members of the issued entry of a queue. -/
def Target.lostMembers (covered : Nat → Bool) (t : Target) : Nat :=
  if t.erase.isSome then ((t.queue.take 1).map fun e => (e.segments.filter covered).length).sum else 0

/-- R134: the walk of one target's Erase Queue; an issued head entry goes on. -/
def State.rescueTarget (covers : SegEntry → Bool) (s : State) (t : TargetNo) : State × Figures :=
  let k := s.target t
  let covered := s.coveredBy covers
  let issued := if k.erase.isSome then k.queue.take 1 else []
  let r := rescueWalk covered issued.length k.unissued
  (((s.onTarget t fun k => { k with queue := issued ++ r.queue }).applyRescue t r),
    { rescued := r.rescued.length, lost := k.lostMembers covered, deferred := r.deferred.length })

/-- Add up two counts of figures. -/
def Figures.plus (a b : Figures) : Figures :=
  { rescued := a.rescued + b.rescued, lost := a.lost + b.lost, deferred := a.deferred + b.deferred }

/-- R134 to R136: the rescue of an acceptance, over targets 0 to 3. -/
def State.rescue (s : State) (covers : SegEntry → Bool) : State × Figures :=
  allTargets.foldl (fun a t =>
    let r := State.rescueTarget covers a.1 t
    (r.1, a.2.plus r.2)) (s, {})

/-! ### The program unit (R132) and lapse (R139) -/

/-- R132 step 4: a program is running or a lapse removal is pending. -/
def HoldStore.busy (h : HoldStore) : Bool := h.unit.isSome || !h.lapsePending.isEmpty

/-- R139: the pending removals of one rollover begin when the unit is idle. -/
def HoldStore.beginLapse (h : HoldStore) : HoldStore :=
  match h.unit, h.lapsePending with
  | none, ids :: t => { h with unit := some (.lapse ids), lapsePending := t }
  | _, _ => h

/-- R139: the hold lapses on a new current day. -/
def Hold.lapses (day : Nat) (h : Hold) : Bool := h.kind = .irrevocable && h.release.any (· < day)

/-- The working copy holds an entry with an id. -/
def HoldStore.hasId (h : HoldStore) (id : Nat) : Bool := h.holds.any (·.id = id)

/-- R139: the removals a rollover makes pending: those whose write failed before, and its own. An id that the working
copy holds again, its ADD HOLD program running, is not among the former (log entry 19). -/
def HoldStore.lapsing (day : Nat) (h : HoldStore) : List Nat :=
  (h.lapseFailed.filter fun i => !h.hasId i) ++ (h.holds.filter (Hold.lapses day)).map Hold.id

/-- R139: the lapse test of a rollover. -/
def HoldStore.lapse (day : Nat) (h : HoldStore) : HoldStore :=
  let ids := h.lapsing day
  if ids = [] then h
  else { h with holds := h.holds.filter fun x => !x.lapses day,
                lapseFailed := h.lapseFailed.filter fun i => !ids.contains i,
                lapsePending := h.lapsePending ++ [ids] }.beginLapse

/-- Insert a hold in ascending hold id. -/
def insertHold (x : Hold) : List Hold → List Hold
  | [] => [x]
  | y :: t => if x.id < y.id then x :: y :: t else y :: insertHold x t

/-- Remove holds by id. -/
def removeHolds (ids : List Nat) (l : List Hold) : List Hold := l.filter fun x => !ids.contains x.id

/-- Every program that completes writes the working protect mode and active level (R128). -/
def HoldStore.programmed (h : HoldStore) (holds : List Hold) (guard : Guard) : HoldStore :=
  { h with nv := { holds := holds, guard := guard, mode := h.mode, level := h.level } }

/-- R132: the program in hand completes. An ADD HOLD is written whatever the memory still holds of a failed lapse write, so
that it can come to hold more than 32 entries: DESIGN CHOICE, log entry 47. -/
def HoldStore.complete (op : HoldOp) (h : HoldStore) : HoldStore :=
  match op with
  | .add _ x _ =>
    { h.programmed (insertHold x (removeHolds [x.id] h.nv.holds)) h.nv.guard with
      lapseFailed := h.lapseFailed.filter (· ≠ x.id) }
  | .drop _ id => { h.programmed (removeHolds [id] h.nv.holds) h.nv.guard with holds := removeHolds [id] h.holds }
  | .guard _ _ _ => h.programmed h.nv.holds h.guard
  | .mode _ _ _ => h.programmed h.nv.holds h.nv.guard
  | .lapse ids => h.programmed (removeHolds ids h.nv.holds) h.nv.guard

/-- R132, R137, R138, R140, R131, R139: the program in hand fails. -/
def HoldStore.fail (op : HoldOp) (h : HoldStore) : HoldStore :=
  match op with
  | .add _ x _ => { h with holds := removeHolds [x.id] h.holds }
  | .drop _ id => { h with holds := h.holds.map fun x => if x.id = id then { x with marked := false } else x }
  | .guard _ old _ => { h with guard := old }
  | .mode _ m l => { h with mode := m, level := l }
  | .lapse ids => { h with lapseFailed := h.lapseFailed ++ ids }

/-- The HOLD notice's snapshot at the end of a lapse write: holds lapsed and left (R139). -/
def lapseSnapshot (lapsed left : Nat) : List Byte := be 4 lapsed ++ be 4 left

/-- R132: the reply of a program that ends, or the HOLD notice of a lapse write. -/
def State.holdReport (s : State) (op : HoldOp) (ok : Bool) : State :=
  let res : Result := if ok then .done else .failed
  match op with
  | .add tag x figs => s.completeWith tag res (be 4 x.id ++ figs.octets)
  | .drop tag _ => s.completeWith tag res []
  | .guard tag _ figs => s.completeWith tag res figs.octets
  | .mode tag _ _ => s.completeWith tag res []
  | .lapse ids => s.notify noticeHold (lapseSnapshot (if ok then ids.length else 0) s.hold.holds.length)

/-- HOLD_PROGRAM_END (R132, R137 to R140). -/
def holdProgramEnd (ok : Bool) (s : State) : State :=
  match s.hold.unit with
  | none => s
  | some op =>
    ((s.onHold fun h =>
        { (if ok then h.complete op else h.fail op) with unit := none }).holdReport op ok).onHold
      HoldStore.beginLapse

/-! ### The protect line (R130) -/

/-- The HOLD notice's snapshot at a change of the line: standing and mode. -/
def HoldStore.lineSnapshot (h : HoldStore) : List Byte := flagOctet h.lineActive ++ named h.mode.number

/-- PROTECT_LINE_CHANGE (R130): a change between active and inactive makes HOLD pending. -/
def protectLineChange (level : Level) (s : State) : State :=
  if level = s.hold.line then s
  else
    let s := s.onHold fun h => { h with line := level }
    s.notify noticeHold s.hold.lineSnapshot

/-- R130: the Hold Store's protection forbids a change directive now. -/
def HoldStore.forbids (h : HoldStore) : Bool :=
  match h.mode with
  | .opened => false
  | .line => h.lineActive
  | .pinned => true

end Sys2Proof.Machine
end

