-- ==== Sys2Proof/Machine/ArchiveClock.lean ====
section
/-! DEFINITION. The archive clock (10.1): the second, the end of a hold, close deadlines, and what SET CLOCK does. -/

namespace Sys2Proof.Machine

/-- The reading has stopped at the end of day 65,535 (R170). -/
def lastReading (t : Time) : Bool := t.day = 65535 && t.second = 86399

/-- The reading one second on (R170). -/
def nextReading (t : Time) : Time :=
  if lastReading t then t
  else if t.second = 86399 then { day := t.day + 1, second := 0 }
  else { t with second := t.second + 1 }

/-- R170, R111, R139: what an advance to a new reading reaches: the minute count, and at a rollover the lapse test. -/
def State.advanceTo (s : State) (t : Time) : State :=
  let s := s.onClock fun c => { c with reading := some t }
  let s := if t.second = 0 then s.onHold (HoldStore.lapse t.day) else s
  if t.second % 60 = 0 then s.onExpiry Expiry.minute else s

/-- R170: one second of HOLDING; at 0 the mode becomes RUNNING. -/
def Clock.countDown (c : Clock) : Clock :=
  { c with remainder := c.remainder - 1, mode := if c.remainder ≤ 1 then .running else .holding }

/-- CLOCK_SECOND (R170; log entry 13). -/
def clockSecond (s : State) : State :=
  match s.clock.mode, s.clock.reading with
  | .running, some t => if lastReading t then s else s.advanceTo (nextReading t)
  | .running, none => s
  | .holding, _ => s.onClock Clock.countDown
  | .notSet, _ => s

/-- HOLD_REMAINDER_END (R170; log entry 13). -/
def holdRemainderEnd (s : State) : State :=
  if s.clock.mode = .holding ∧ s.clock.remainder ≤ 1 then
    s.onClock fun c => { c with remainder := 0, mode := .running }
  else s

/-- R36: the day is OPEN and its close deadline is at or before a minute. -/
def DayEntry.overdue (minute : Nat) (d : DayEntry) : Bool := d.state = .opened && d.deadline ≤ minute

/-- CLOSE_DEADLINE_REACHED (R36, R37; log entry 16). -/
def closeDeadlineReached (day : Nat) (s : State) : State :=
  match s.clock.mode, s.clock.reading, s.day? day with
  | .running, some t, some d => if d.overdue t.minute then s.closeDay day else s
  | _, _, _ => s

/-! ### SET CLOCK (R171, R172) -/

/-- R171 step 2: the lanes whose running timer is at or before a reading. -/
def State.overdueLanes (s : State) (t : Time) : List LaneNo :=
  allLanes.filter fun l => (s.lane l).timer.any (· ≤ t.seconds)

/-- R171 step 3: the OPEN days whose deadline is at or before a reading's minute, in ascending day order. -/
def State.overdueDays (s : State) (t : Time) : List Nat :=
  (s.tracker.days.filter (DayEntry.overdue t.minute)).map DayEntry.day

/-- R171: the setting is the first, or of a later day or minute than the old reading. -/
def laterDay (old : Option Time) (t : Time) : Bool := old.all fun o => o.day < t.day

/-- R171 step 5. -/
def laterMinute (old : Option Time) (t : Time) : Bool := old.all fun o => o.minute < t.minute

/-- R171 step 1: the reading is taken and the clock runs. -/
def State.setReading (s : State) (t : Time) : State :=
  s.onClock fun _ => { mode := .running, reading := some t, remainder := 0 }

/-- R171 step 2: the lanes stalled. -/
def State.expireLanes (s : State) (ls : List LaneNo) : State := ls.foldl (fun s l => s.abortFile l .stalled) s

/-- R171 step 3: the days closed. -/
def State.closeDays (s : State) (ds : List Nat) : State := ds.foldl State.closeDay s

/-- R171 steps 1 to 5, with the numbers of lanes stalled and days closed. -/
def State.setForward (s : State) (t : Time) : State × Nat × Nat :=
  let old := s.clock.reading
  let s := s.setReading t
  let lanes := s.overdueLanes t
  let s := s.expireLanes lanes
  let days := s.overdueDays t
  let s := s.closeDays days
  let s := if laterDay old t then s.onHold (HoldStore.lapse t.day) else s
  (if laterMinute old t then s.onExpiry Expiry.minute else s, lanes.length, days.length)

/-- R172: the hold of a short backward setting. -/
def State.holdClock (s : State) (n : Nat) : State := s.onClock fun c => { c with mode := .holding, remainder := n }

end Sys2Proof.Machine
end

