-- ==== Sys2Proof/Machine/Link.lean ====
section
/-! DEFINITION. The intake link (09, 11): checking and routing an arriving frame, the intake reset, and the return
direction with the octets it sends. -/

namespace Sys2Proof.Machine

/-! ### The layout of a frame (R180) -/

/-- Frame families by number. -/
abbrev familyFile : Nat := 1
abbrev familyDirective : Nat := 2
abbrev familyFlow : Nat := 3
abbrev familyReply : Nat := 4
abbrev familyNotice : Nat := 5
abbrev familyRecords : Nat := 6

/-- The stated payload length. -/
def frameLength (f : List Byte) : Nat := fieldAt f 4 2

/-- The payload. -/
def framePayload (f : List Byte) : List Byte := slice f 8 (frameLength f)

/-- The frame ends before its stated length, its frame check included. -/
def frameShort (f : List Byte) : Bool := f.length < 12 + frameLength f

/-- The frame check matches: CRC-32 over header and payload. -/
def frameCheckOk (f : List Byte) : Bool :=
  fieldAt f (8 + frameLength f) 4 = (crc32 (f.take (8 + frameLength f))).toNat

/-- A frame as the Intake Port routes it. -/
inductive Arrival where
  | file (lane : LaneNo) (body : FileBody)
  | directive (d : Directive)
  | linkReset
  deriving DecidableEq, Repr

/-- What R158 and R181 find in an arriving frame. -/
inductive FrameFinding where
  | checkFailure
  | lengthFault
  | unknownKind
  | sound (a : Arrival)
  deriving DecidableEq, Repr

/-- A FILE frame's body by its kind; a wrong payload length is a length fault (R181). -/
def fileFinding (lane : LaneNo) (kind : Nat) (p : List Byte) : FrameFinding :=
  if kind = 1 then
    if p.length = 8 then
      .sound (.file lane (.opening (fieldAt p 0 2) (fieldAt p 2 2) (octetAt p 4) (fieldAt p 6 2)))
    else .lengthFault
  else if kind = 2 then .sound (.file lane (.data p))
  else if kind = 3 then
    if p.length = 8 then .sound (.file lane (.closing (fieldAt p 0 4) (BitVec.ofNat 32 (fieldAt p 4 4))))
    else .lengthFault
  else if kind = 4 then
    if p.length = 0 then .sound (.file lane .aborting) else .lengthFault
  else .unknownKind

/-- The family, kind and lane of a frame whose check matches (R158, R181). A lane above 7 is found before the kind and the
payload length of its kind are looked at, so such a frame is an unknown kind whatever its length: DESIGN CHOICE, log entry
10. -/
def routeFrame (f : List Byte) : FrameFinding :=
  let kind : Nat := octetAt f 1
  if octetAt f 0 = familyFile then
    if h : fieldAt f 2 2 < 8 then fileFinding ⟨fieldAt f 2 2, h⟩ kind (framePayload f) else .unknownKind
  else if octetAt f 0 = familyDirective then
    if kind = 0 then .sound .linkReset
    else .sound (.directive { code := kind, tag := BitVec.ofNat 16 (fieldAt f 2 2), payload := framePayload f })
  else .unknownKind

/-- R158: the checks of an arriving frame (log entry 10). -/
def frameFinding (f : List Byte) : FrameFinding :=
  if f.length < 8 ∨ frameShort f then .lengthFault
  else if ¬ frameCheckOk f then .checkFailure
  else if 8192 < frameLength f then .lengthFault
  else routeFrame f

/-! ### Link counters (R168) -/

/-- Raise a 32-bit saturating counter. -/
def up (n : Nat) : Nat := satAdd Config.max32 n 1

/-- Change the link counters. -/
def State.onCounters (s : State) (f : LinkCounters → LinkCounters) : State :=
  s.onPort fun p => { p with counters := f p.counters }

/-! ### Routing (R18, R19, R21, R159) -/

/-- R21: the first frame discarded for a lane sets its overrun mark, which records the frame at the FIFO's tail. -/
def State.overrunFrame (s : State) (l : LaneNo) : State :=
  (s.onCounters fun c => { c with overruns := up c.overruns }).onLane l fun x =>
    { x with overrun := some (x.overrun.getD s.port.fifo.length) }

/-- R19: a file frame joins the Intake FIFO with its arrival time, or finds it full (R21). It stops its lane's idle
timer (R18). -/
def State.fileArrives (s : State) (l : LaneNo) (b : FileBody) : State :=
  let s := s.stopTimer l
  if s.port.fifo.length < Config.fifoCap then
    s.onPort fun p => { p with fifo := p.fifo ++ [{ lane := l, body := b, arrival := s.clock.reading }] }
  else s.overrunFrame l

/-- R160: the places a BUSY reply of R159 may take: the free ones but one due to the decoder's next take. -/
def Port.busyPlaces (p : Port) : Nat := p.freePlaces - if p.placeDue then 1 else 0

/-- R159: a directive joins the Directive Queue, or is answered BUSY, or is dropped. -/
def State.directiveArrives (s : State) (d : Directive) : State :=
  if s.port.directives.length < Config.directiveCap then
    s.onPort fun p => { p with directives := p.directives ++ [d] }
  else if 0 < s.port.busyPlaces then
    (s.onCounters fun c => { c with refusedFull := up c.refusedFull }).answer d.tag .busy []
  else s.onCounters fun c => { c with dropped := up c.dropped }

/-! ### Intake reset (R166, R22, R82) -/

/-- R22: every file open on a lane is aborted RESET; the order of the lanes is the model's choice (ascending number, log
entry 41). -/
def State.abortAll (s : State) : State := allLanes.foldl (fun s l => s.abortFile l .reset) s

/-- A lane after a reset (R22, R21): IDLE, its overrun mark clear. -/
def Lane.afterReset (x : Lane) : Lane := { x.clear .idle with overrun := none }

/-- R22: the stall ends with its record discarded, the Intake FIFO is emptied, files are aborted, lanes made IDLE. -/
def State.resetLanes (s : State) : State :=
  let s := (s.onAsm fun a => { a with hand := none }).onPort fun p => { p with fifo := [] }
  (s.abortAll).onAsm fun a => { a with lanes := a.lanes.map Lane.afterReset }

/-- R166: the return frame in progress is cut off: a notice's source is pending again (log entry 21), a reply keeps
its place, a RECORDS frame is offered again. Of a frame that an engine reset has left to be finished (R167), a reply or
RECORDS frame is gone, and a NOTICE is pending again with the snapshot and cause time its source holds: DESIGN CHOICE, log
entry 49. -/
def State.cutOff (s : State) : State :=
  let s := match s.port.sending with
    | some (.notice src _ _ _) =>
      s.onNotices fun n =>
        { n with sources := vset n.sources src { vget n.sources src with flag := true } }
    | _ => s
  s.onPort fun p => { p with sending := none }

/-- R166: an intake reset of any cause. -/
def State.intakeReset (s : State) : State :=
  ((s.onCounters fun c => { c with intakeResets := up c.intakeResets }).resetLanes.cutOff).queueFlow

/-! ### The commands of the link -/

/-- A sound frame is counted and routed (R158). -/
def State.routeArrival (s : State) (a : Arrival) : State :=
  let s := s.onCounters fun c => { c with received := up c.received }
  match a with
  | .file l b => s.fileArrives l b
  | .directive d => s.directiveArrives d
  | .linkReset => s.intakeReset

/-- FRAME_ARRIVAL (R158, R159, R19, R21, R181). While the link is LOST no frame is received (R165; log entry 33). -/
def frameArrival (octets : List Byte) (s : State) : State :=
  match s.port.link with
  | .lost => s
  | .up =>
    match frameFinding octets with
    | .checkFailure => s.onCounters fun c => { c with checkFailures := up c.checkFailures }
    | .lengthFault => s.onCounters fun c => { c with lengthFaults := up c.lengthFaults }
    | .unknownKind => s.onCounters fun c => { c with unknownKinds := up c.unknownKinds }
    | .sound a => s.routeArrival a

/-- LINK_RESET: a sound LINK_RESET frame arrives (R158, R166). -/
def linkReset (s : State) : State :=
  match s.port.link with
  | .lost => s
  | .up => s.routeArrival .linkReset

/-- LINK_LOSS (R165). -/
def linkLoss (s : State) : State :=
  match s.port.link with
  | .lost => s
  | .up =>
    ((s.onPort fun p => { p with link := .lost }).onCounters fun c => { c with losses := up c.losses }).intakeReset

/-- LINK_UP (R165). -/
def linkUp (s : State) : State := s.onPort fun p => { p with link := .up }

/-! ### The return direction (R164, R174) -/

/-- R174: a source is sendable. -/
def Notices.sendable (n : Notices) (i : Fin 8) : Bool :=
  (vget n.sources i).flag && (vget n.sources i).enable && n.master

/-- The sources in ascending number. -/
def allSources : List (Fin 8) := [0, 1, 2, 3, 4, 5, 6, 7]

/-- R174, FIXED: the sendable source with the lowest number. -/
def Notices.lowest (n : Notices) : Option (Fin 8) := allSources.find? n.sendable

/-- R174: the source the arbiter chooses. -/
def Notices.choose (n : Notices) : Option (Fin 8) :=
  match n.mode with
  | .fixed => n.lowest
  | .promote => if n.sendable n.promoted then some n.promoted else n.lowest
  | .silent => none

/-- R174: the source chosen is sent: its flag and count are cleared as the frame begins. -/
def State.beginNotice (s : State) (src : Fin 8) : State :=
  let n := vget s.notices.sources src
  (s.onNotices fun k =>
      { k with sources := vset k.sources src { n with flag := false, count := 0 } }).onPort
    fun p => { p with sending := some (.notice src n.count n.time n.snapshot) }

/-- R164 step 4: the RECORDS frame offered, if one is. -/
def State.beginRecords (s : State) : State :=
  match s.audit.output with
  | [] => s
  | f :: _ => s.onPort fun p => { p with sending := some (.records f true) }

/-- R164 steps 2 to 4. -/
def State.beginAfterFlow (s : State) : State :=
  match s.port.replies with
  | r :: _ => s.onPort fun p => { p with sending := some (.reply r true) }
  | [] =>
    match s.notices.choose with
    | some src => s.beginNotice src
    | none => s.beginRecords

/-- RETURN_FRAME_BEGIN (R164). -/
def returnFrameBegin (s : State) : State :=
  match s.port.link, s.port.sending with
  | .up, none =>
    match s.port.flowSlot with
    | some f => s.onPort fun p => { p with sending := some (.flow f), flowSlot := none }
    | none => s.beginAfterFlow
  | _, _ => s

/-- R160: a reply sent in full frees its place; while the decoder waits for one the place is due to its next take
(log entry 34). -/
def Port.freePlace (p : Port) : Port :=
  { p with replies := p.replies.tail, placeDue := p.placeDue || (p.freePlaces = 0 && !p.directives.isEmpty) }

/-- R156: a RECORDS frame has been sent: the next is offered, or the request ends. -/
def State.recordsSent (s : State) : State :=
  let s := s.onAudit fun a => { a with output := a.output.tail }
  if s.audit.output = [] then s.dequeueRequest else s

/-- RETURN_FRAME_SENT (R164, R160, R156). -/
def returnFrameSent (s : State) : State :=
  match s.port.sending with
  | none => s
  | some f =>
    let s := (s.onCounters fun c => { c with sent := up c.sent }).onPort fun p => { p with sending := none }
    match f with
    | .flow _ => s
    | .notice _ _ _ _ => s
    | .reply _ placed => if placed then s.onPort Port.freePlace else s
    | .records _ live => if live then s.recordsSent else s

/-! ### The octets of a return frame (R180; log entry 29) -/

/-- A link frame: header, payload, frame check. -/
def frameOctets (family kind tag : Nat) (payload : List Byte) : List Byte :=
  let l := be 1 family ++ be 1 kind ++ be 2 tag ++ be 2 payload.length ++ be 2 0 ++ payload
  l ++ crcOctets (crc32 l)

/-- R163: result codes from DONE at 00h. -/
def Result.code : Result → Nat
  | .done => 0
  | .busy => 1
  | .refusedState => 2
  | .refusedRange => 3
  | .refusedProtect => 4
  | .notFound => 5
  | .tooLate => 6
  | .failed => 7
  | .unknown => 8

/-- R180: a FLOW frame's payload octet. -/
def Flow.code : Flow → Nat
  | .pause => 0
  | .go => 1

/-- R180: a RECORDS frame's payload. -/
def RecordsFrame.payload (f : RecordsFrame) : List Byte :=
  be 4 f.number ++ be 4 f.segId ++ be 1 f.run ++ flagOctet f.final ++ be 2 f.source ++ be 1 f.slot ++ be 1 0
    ++ be 2 f.records.length ++ f.records.flatten

/-- A frame of the return direction (R180). Its kind octet, for which R180 gives no value, is free: log entry 50. -/
def returnFrameOctets (family tag : Nat) (payload : List Byte) : List Byte :=
  frameOctets family (Config.returnKind family).toNat tag payload

/-- The frame on the link (R180); the tag field is zero for FLOW and NOTICE. -/
def Sending.octets : Sending → List Byte
  | .flow f => returnFrameOctets familyFlow 0 (be 1 f.code)
  | .reply r _ => returnFrameOctets familyReply r.tag.toNat (be 1 r.result.code ++ flagOctet r.clamped ++ r.figures)
  | .notice src count time snap =>
    returnFrameOctets familyNotice 0 (be 1 src.val ++ be 1 count ++ timeOctets time ++ be 2 snap.length ++ snap)
  | .records f _ => returnFrameOctets familyRecords f.tag.toNat f.payload

end Sys2Proof.Machine
end

