-- ==== Sys2Proof/Machine/Resets.lean ====
section
/-! DEFINITION. Power-on and the engine reset (R178), block by block (R167, R22, R102, R126, R146, R87, R173, R78). -/

namespace Sys2Proof.Machine

/-- POWER_ON (R178, R128): every block at its power-on values; the Hold Store's non-volatile memory, the level of the
protect line and the commands that wait survive. -/
def powerOn (s : State) : State :=
  { State.powerOnWith (HoldStore.powerOn s.hold.nv s.hold.line) with pending := s.pending }

/-! ### Intake Port and Directive Decoder (R167) -/

/-- The tag of the hold program in hand: its reply place stays reserved (R167). -/
def HoldStore.programTag (h : HoldStore) : List Tag :=
  match h.unit with
  | some (.add tag _ _) => [tag]
  | some (.drop tag _) => [tag]
  | some (.guard tag _ _) => [tag]
  | some (.mode tag _ _) => [tag]
  | some (.lapse _) => []
  | none => []

/-- R167, R157: the frame being sent is finished, but its reply place or its retrieval is gone, so that an intake reset that
cuts it off leaves nothing to send again: DESIGN CHOICE, log entry 49. -/
def Sending.orphan : Sending → Sending
  | .flow f => .flow f
  | .reply r _ => .reply r false
  | .notice src n t snap => .notice src n t snap
  | .records f _ => .records f false

/-- R167. -/
def State.resetPort (s : State) : State :=
  (s.onPort fun p =>
    { p with directives := [], replies := [], reserved := s.hold.programTag, placeDue := false,
             sending := p.sending.map Sending.orphan }).setCurrent none

/-- R173: flags and counts are cleared. That snapshot and cause time are emptied with them is the model's choice (log entry
6), and so is what a notice then carries that an intake reset cuts off while it is finished (log entry 49). -/
def NoticeSource.clear (n : NoticeSource) : NoticeSource :=
  { n with flag := false, snapshot := [], time := none, count := 0 }

/-- R173. -/
def State.resetNotices (s : State) : State := s.onNotices fun n => { n with sources := n.sources.map .clear }

/-! ### Audit Unit, Record Coder (R146, R61) and pins (R82) -/

/-- R146: the Decode Queue is emptied without replies, every pin count becomes 0; R61: the coder's work is abandoned. A
RECORDS frame offered and not yet begun is withdrawn with those not yet offered (R157): DESIGN CHOICE, log entry 46. -/
def State.resetAudit (s : State) : State :=
  ((s.onAudit fun a => { a with requests := [], active := none, readBuffer := [], output := [] }).onCoder
    fun _ => []).onDir fun d => d.map fun e => { e with pins := 0 }

/-! ### Commit path and links (R102) -/

/-- R102: the COMMITTING entry becomes SEALED at the head of the Commit Queue, its extent BAD. -/
def State.resetCommit (s : State) : State :=
  match s.commit.current with
  | none => s
  | some c =>
    let place := (s.entry? c.segId).bind SegEntry.place
    let s := match place with
      | some p => s.onTarget p.1 (Target.setExtent p.2 .bad)
      | none => s
    (s.onEntry c.segId fun e => { e with state := .sealed, place := none }).onCommit CommitEngine.requeue

/-- R102: writes and reads in progress or waiting are abandoned; no answer outstanding is expected any more. -/
def Target.resetLink (t : Target) : Target :=
  { t with waitWrite := false, waitRead := none, xfer := none, expired := 0 }

/-- R102: the issued erase returns un-issued: member extents WRITTEN, fillers stay ERASING. -/
def Target.unissue (t : Target) : Target :=
  match t.erase, t.queue with
  | some _, e :: _ => { t.setExtents (e.members.map Prod.fst) .written with erase := none }
  | _, _ => { t with erase := none }

/-- R102: a FIRM member of a returned erase is tested against every hold and the Guard Window. The oldest day of an OLDEST
window is taken afresh for each target, in ascending target order: DESIGN CHOICE, log entry 45. -/
def State.keptByHold (s : State) (e : SegEntry) : Bool :=
  s.heldBy e.day e.cls || s.guardCovers (oldestDay s.dir) e.day

/-- R102: the returned head entry's covered members are rescued, with a GROUP entry split (R134, R135). -/
def State.rescueHead (s : State) (t : TargetNo) : State :=
  match (s.target t).queue with
  | [] => s
  | e :: q =>
    let r := e.rescue (s.coveredBy s.keptByHold) q.length
    (s.onTarget t fun k => { k with queue := r.queue ++ k.queue.tail }).applyRescue t r

/-- R102 on one target. -/
def State.resetTarget (s : State) (t : TargetNo) : State :=
  let issued := (s.target t).erase.isSome
  let s := (s.onTarget t Target.unissue).onTarget t Target.resetLink
  if issued then s.rescueHead t else s

/-- R102 on every target. -/
def State.resetTargets (s : State) : State := allTargets.foldl State.resetTarget s

/-! ### Scans and the rebuild (R87, R178) -/

/-- R87: a scan made in RUNNING begins again: the entries it has made are removed, its reply is gone. -/
def State.restartScan (s : State) (t : TargetNo) : State :=
  match (s.target t).scan with
  | none => s
  | some c =>
    (s.onDir fun d => d.filter fun e => !c.made.contains e.id).onTarget t (Target.startScan false none)

/-- R86, R88: a target after a reset during REBUILDING. -/
def Target.discard (t : Target) : Target := { t with state := .absent, map := none, scan := none, xfer := none }

/-- R178, R69, R116: the reset during REBUILDING. -/
def State.abandonRebuild (s : State) : State :=
  ((((s.setEngine .unconfigured).onDir fun _ => []).onTargets fun v => v.map Target.discard).onBuilder
    fun b => { b with nextId := some 1 }).onExpiry fun x => { x with cursor := 1 }

/-- R178: what the engine state makes of scans. -/
def State.resetEngine (s : State) : State :=
  match s.engine with
  | .unconfigured => s
  | .rebuilding => s.abandonRebuild
  | .running => allTargets.foldl State.restartScan s

/-! ### The whole reset -/

/-- R126: a running pass is abandoned and the minute count becomes 0. -/
def State.resetExpiry (s : State) : State := s.onExpiry fun x => { x with pass := none, count := 0 }

/-- R78: the flow state is recomputed and a FLOW frame queued. -/
def State.resetFlow (s : State) : State :=
  (s.onPort fun p => { p with flow := flowRecompute s.engine s.buffersInUse p.flow }).queueFlow

/-- An engine reset, from the reset input or the directive (R178). -/
def State.engineReset (s : State) : State :=
  let s := ((s.resetPort.resetNotices).onBuilder fun b => { b with flush := none }).resetAudit
  (((s.resetLanes.resetCommit).resetTargets).resetEngine.resetExpiry).resetFlow

/-- RESET_INPUT (R178): an engine reset without a reply. -/
def resetInput (s : State) : State := s.engineReset

end Sys2Proof.Machine
end

