-- ==== Sys2Proof/Machine/Operands.lean ====
section
/-! DEFINITION. The parameters of the directives: reading each directive's payload by the encodings of R179 (log
entries 9 and 28). A reader answers `none` where the payload has not the length its code requires (R161) or a field
holds no value of its encoding; the directive is then answered REFUSED_RANGE. -/

namespace Sys2Proof.Machine

/-! ### Field readers -/

/-- A flag octet: 00h clear, 01h set. -/
def flagAt (l : List Byte) (off : Nat) : Option Bool :=
  if octetAt l off = 0 then some false else if octetAt l off = 1 then some true else none

/-- A field that may be ALL, UNMAPPED or absent: a mark octet, then `w` octets. The inner `none` is the mark. The octets
behind a mark, which R179 has zero, are not looked at: DESIGN CHOICE, log entry 28. -/
def optAt (l : List Byte) (off w : Nat) : Option (Option Nat) :=
  if octetAt l off = 0 then some (some (fieldAt l (off + 1) w)) else if octetAt l off = 1 then some none else none

/-- A list: its item count in 2 octets at `off`, then items of `size` octets, which fill the rest of the payload. -/
def itemsAt (l : List Byte) (off size : Nat) : Option (List (List Byte)) :=
  let n : Nat := fieldAt l off 2
  if l.length = off + 2 + n * size then some (pieces n size (l.drop (off + 2))) else none

/-- Read every item of a list. -/
def readAll {α : Type} (f : List Byte → Option α) : List (List Byte) → Option (List α)
  | [] => some []
  | x :: t =>
    match f x, readAll f t with
    | some a, some l => some (a :: l)
    | _, _ => none

/-- Two items of a list are equal. -/
def repeats {α : Type} [BEq α] : List α → Bool
  | [] => false
  | x :: t => t.contains x || repeats t

/-- Clamp to a range (R163). -/
def clamp (lo hi v : Nat) : Nat := max lo (min hi v)

/-! ### Setting up -/

/-- SET CLOCK: day, second of day. -/
def readSetClock (l : List Byte) : Option Time :=
  if l.length = 6 then some { day := fieldAt l 0 2, second := fieldAt l 2 4 } else none

/-- An item of LOAD SOURCES (R24). -/
structure SourceItem where
  source : Nat
  active : Bool
  filesPerDay : Nat
  clearTracking : Bool
  deriving DecidableEq, Repr

def readSourceItem (x : List Byte) : Option SourceItem :=
  match flagAt x 2, flagAt x 7 with
  | some a, some c => some { source := fieldAt x 0 2, active := a, filesPerDay := fieldAt x 3 4, clearTracking := c }
  | _, _ => none

/-- LOAD SOURCES. -/
def readLoadSources (l : List Byte) : Option (List SourceItem) := (itemsAt l 0 8).bind (readAll readSourceItem)

/-- An item of LOAD TYPE MAP: type code, and class or UNMAPPED (R5). -/
def readTypeItem (x : List Byte) : Option (Nat × Option Nat) := (optAt x 1 1).map fun c => (octetAt x 0, c)

/-- LOAD TYPE MAP. -/
def readLoadTypeMap (l : List Byte) : Option (List (Nat × Option Nat)) := (itemsAt l 0 3).bind (readAll readTypeItem)

/-- An item of LOAD CLASSES (R5). -/
structure ClassItem where
  cls : Nat
  retention : Nat
  target : Nat
  group : Nat
  enable : Bool
  deriving DecidableEq, Repr

/-- The preferred target takes the 1 octet of a target, though R179 lists no field of that name: DEDUCED, log entry 44. -/
def readClassItem (x : List Byte) : Option ClassItem :=
  (flagAt x 7).map fun e =>
    { cls := octetAt x 0, retention := fieldAt x 1 4, target := octetAt x 5, group := octetAt x 6, enable := e }

/-- LOAD CLASSES. -/
def readLoadClasses (l : List Byte) : Option (List ClassItem) := (itemsAt l 0 8).bind (readAll readClassItem)

/-- A LOAD DICTIONARY: the group, and each prefix with its length octet and digits (R59). -/
structure DictLoad where
  group : Nat
  prefixes : List (Nat × List Nat)
  deriving DecidableEq, Repr

/-- LOAD DICTIONARY. The group takes the 1 octet of a dictionary group: DEDUCED, log entry 44. -/
def readLoadDictionary (l : List Byte) : Option DictLoad :=
  (itemsAt l 1 7).map fun xs => { group := octetAt l 0, prefixes := xs.map fun x => (octetAt x 0, placeDigits x) }

/-- A LOAD TARGET (R85). -/
structure TargetLoad where
  target : Nat
  extents : Nat
  unitSize : Nat
  gather : Bool
  ackMs : Nat
  eraseSecs : Nat
  deriving DecidableEq, Repr

def readLoadTarget (l : List Byte) : Option TargetLoad :=
  if l.length = 18 then
    (flagAt l 9).map fun g =>
      { target := octetAt l 0, extents := fieldAt l 1 4, unitSize := fieldAt l 5 4, gather := g,
        ackMs := fieldAt l 10 4, eraseSecs := fieldAt l 14 4 }
  else none

/-- SET TARGET: the target, and true for ONLINE, false for OFFLINE (numbers 3 and 5 of the target states of R86:
DEDUCED, log entry 44). -/
def readSetTarget (l : List Byte) : Option (Nat × Bool) :=
  if l.length = 2 then
    if octetAt l 1 = 3 then some (octetAt l 0, true)
    else if octetAt l 1 = 5 then some (octetAt l 0, false)
    else none
  else none

/-- SET DAY POLICY: close delay, accept window, lane timeout (R43). -/
def readSetDayPolicy (l : List Byte) : Option Policy :=
  if l.length = 12 then
    some { closeDelay := fieldAt l 0 4, acceptWindow := fieldAt l 4 4, laneTimeout := fieldAt l 8 4 }
  else none

/-- A SET SWEEP (R114). -/
structure SweepSettings where
  mode : SweepMode
  alternate : Bool
  interval : Nat
  batch : Nat
  scrubBatch : Nat
  deriving DecidableEq, Repr

def sweepModeOf : Nat → Option SweepMode
  | 1 => some .off
  | 2 => some .single
  | 3 => some .cyclic
  | _ => none

def readSetSweep (l : List Byte) : Option SweepSettings :=
  if l.length = 14 then
    match sweepModeOf (octetAt l 0), flagAt l 1 with
    | some m, some a =>
      some { mode := m, alternate := a, interval := fieldAt l 2 4, batch := fieldAt l 6 4, scrubBatch := fieldAt l 10 4 }
    | _, _ => none
  else none

/-- A SET NOTICES (R173). Bit i of `enables` is the enable of source i. -/
structure NoticeSettings where
  enables : Nat
  master : Bool
  mode : NoticeMode
  promoted : Fin 8
  deriving DecidableEq, Repr

def noticeModeOf : Nat → Option NoticeMode
  | 1 => some .fixed
  | 2 => some .promote
  | 3 => some .silent
  | _ => none

/-- SET NOTICES: enables, master enable, mode, promoted source (R173; order: log entry 9). The promoted source takes 1
octet, as the source number of a NOTICE frame does (R180): DEDUCED, log entry 44. -/
def readSetNotices (l : List Byte) : Option NoticeSettings :=
  if l.length = 4 then
    match flagAt l 1, noticeModeOf (octetAt l 2) with
    | some m, some k =>
      if h : octetAt l 3 < 8 then some { enables := octetAt l 0, master := m, mode := k, promoted := ⟨octetAt l 3, h⟩ }
      else none
    | _, _ => none
  else none

def anchorOf : Nat → Option Anchor
  | 1 => some .newest
  | 2 => some .oldest
  | _ => none

/-- SET GUARD: anchor, span, complement; a span above 4,095 is out of range (R140). -/
def readSetGuard (l : List Byte) : Option Guard :=
  if l.length = 6 then
    match anchorOf (octetAt l 0), flagAt l 5 with
    | some a, some c =>
      if fieldAt l 1 4 ≤ 4095 then some { anchor := a, span := fieldAt l 1 4, complement := c } else none
    | _, _ => none
  else none

def holdKindOf : Nat → Option HoldKind
  | 1 => some .revocable
  | 2 => some .irrevocable
  | _ => none

/-- R133: the parameters of a hold are sound: id, days, and the release day of an IRREVOCABLE hold. -/
def Hold.sound (h : Hold) : Bool :=
  h.id ≠ 0 && h.id ≤ 65535 && h.firstDay ≤ h.lastDay
    && (h.kind = .revocable || h.release.any (h.lastDay ≤ ·))

/-- ADD HOLD: hold id, first day, last day, class mask, kind, release day. A release day given with a REVOCABLE hold
is discarded (R133). First day, last day and release day take the 2 octets of a day: DEDUCED, log entry 44. -/
def readAddHold (l : List Byte) : Option Hold :=
  if l.length = 14 then
    match holdKindOf (octetAt l 10), optAt l 11 2 with
    | some k, some r =>
      let h : Hold :=
        { id := fieldAt l 0 4, firstDay := fieldAt l 4 2, lastDay := fieldAt l 6 2,
          classMask := BitVec.ofNat 16 (fieldAt l 8 2), kind := k,
          release := if k = .irrevocable then r else none, marked := false }
      if h.sound then some h else none
    | _, _ => none
  else none

/-- A payload of one number of `w` octets. -/
def readNumber (w : Nat) (l : List Byte) : Option Nat := if l.length = w then some (fieldAt l 0 w) else none

def protectModeOf : Nat → Option ProtectMode
  | 1 => some .opened
  | 2 => some .line
  | 3 => some .pinned
  | _ => none

def levelOf : Nat → Option Level
  | 1 => some .high
  | 2 => some .low
  | _ => none

/-- SET PROTECT MODE: mode, active level (R131). -/
def readSetProtectMode (l : List Byte) : Option (ProtectMode × Level) :=
  if l.length = 2 then
    match protectModeOf (octetAt l 0), levelOf (octetAt l 1) with
    | some m, some v => some (m, v)
    | _, _ => none
  else none

/-! ### Operating and querying -/

/-- A WAIVE (R39); an absent slot is ALL. -/
structure WaiveParams where
  source : Nat
  day : Nat
  slot : Option Nat
  deriving DecidableEq, Repr

def readWaive (l : List Byte) : Option WaiveParams :=
  if l.length = 6 then (optAt l 4 1).map fun x => { source := fieldAt l 0 2, day := fieldAt l 2 2, slot := x }
  else none

/-- A FLUSH (R72); absent is ALL. -/
structure FlushParams where
  cls : Option Nat
  day : Option Nat
  wait : Bool
  deriving DecidableEq, Repr

def readFlush (l : List Byte) : Option FlushParams :=
  if l.length = 6 then
    match optAt l 0 1, optAt l 2 2, flagAt l 5 with
    | some c, some d, some w => some { cls := c, day := d, wait := w }
    | _, _, _ => none
  else none

/-- RETRIEVE: segment id, source filter or absent. The filter takes the 2 octets of a source, though R179 lists no field of
that name: DEDUCED, log entry 44. -/
def readRetrieve (l : List Byte) : Option (Nat × Option Nat) :=
  if l.length = 7 then (optAt l 4 2).map fun f => (fieldAt l 0 4, f) else none

/-- READ CONTINUITY: source, day. -/
def readReadContinuity (l : List Byte) : Option (Nat × Nat) :=
  if l.length = 4 then some (fieldAt l 0 2, fieldAt l 2 2) else none

/-- A directive without parameters. -/
def readNothing (l : List Byte) : Option Unit := if l.length = 0 then some () else none

/-- READ LINK: the clear-counters flag. -/
def readReadLink (l : List Byte) : Option Bool := if l.length = 1 then flagAt l 0 else none

end Sys2Proof.Machine
end

