-- ==== Sys2Proof/Machine/Setting.lean ====
section
/-! DEFINITION. The Directive Decoder (R161, R162) and the directives that set up the part (09 section 9.6, "Setting
up"), each by its owning rule. -/

namespace Sys2Proof.Machine

/-! ### Taking a directive (R161) -/

/-- R161: the decoder can take the head of the Directive Queue: no current directive, a free Reply Queue place. -/
def State.decoderFree (s : State) : Bool := s.current.isNone && 0 < s.port.freePlaces

/-- The head leaves the queue and becomes the current directive; a place that was due is given to it (R160). -/
def State.takeDirective (s : State) (d : Directive) : State :=
  (s.onPort fun p => { p with directives := p.directives.tail, placeDue := false }).setCurrent (some d)

/-- R161: take the head of the Directive Queue when its code satisfies `p`, work on it, and have no current directive
afterwards (log entries 2, 25). -/
def State.onDirective (s : State) (p : Nat → Bool) (work : Directive → State → State) : State :=
  match s.port.directives with
  | [] => s
  | d :: _ => if s.decoderFree ∧ p d.code then (work d (s.takeDirective d)).setCurrent none else s

/-- A directive of the catalogue: its parameters are read, and a payload that cannot be read is answered
REFUSED_RANGE (R161 step 2). -/
def State.directive {α : Type} (s : State) (code : Nat) (read : List Byte → Option α)
    (work : Tag → α → State → State) : State :=
  s.onDirective (· = code) fun d s =>
    match read d.payload with
    | none => s.answer d.tag .refusedRange []
    | some a => work d.tag a s

/-- Answer without figures. -/
def State.refuse (s : State) (tag : Tag) (r : Result) : State := s.answer tag r []

/-- Answer DONE, with the CLAMPED mark and the values used when a parameter was clamped (R163; log entry 27). -/
def State.answerClamped (s : State) (tag : Tag) (clamped : Bool) (values : List Byte) : State :=
  s.putReply { tag := tag, result := .done, clamped := clamped, figures := if clamped then values else [] }

/-- DIRECTIVE_UNKNOWN (R161 step 1, R168): a code outside 01h to 24h. -/
def directiveUnknown (s : State) : State :=
  s.onDirective (fun c => c = 0 || 0x24 < c) fun d s =>
    (s.onCounters fun c => { c with unknownDirectives := up c.unknownDirectives }).answer d.tag .unknown []

/-! ### SET CLOCK (R171, R172) -/

/-- R171, R172 for a second of day in range. -/
def State.clockTo (tag : Tag) (t : Time) (s : State) : State :=
  match s.clock.reading with
  | some now =>
    if now.seconds ≤ t.seconds then
      let r := s.setForward t
      r.1.answer tag .done (timeOctets (some t) ++ be 4 r.2.1 ++ be 4 r.2.2)
    else if now.seconds - t.seconds ≤ 600 then
      (s.holdClock (now.seconds - t.seconds)).answer tag .done
        (timeOctets (some now) ++ be 4 (now.seconds - t.seconds))
    else s.refuse tag .refusedRange
  | none =>
    let r := s.setForward t
    r.1.answer tag .done (timeOctets (some t) ++ be 4 r.2.1 ++ be 4 r.2.2)

/-- SET CLOCK. -/
def setClock (s : State) : State :=
  s.directive 0x01 readSetClock fun tag t s =>
    if 86399 < t.second then s.refuse tag .refusedRange else s.clockTo tag t

/-! ### LOAD SOURCES (R24) -/

/-- R24: the whole list is sound. -/
def sourcesSound (l : List SourceItem) : Bool :=
  l ≠ [] && l.length ≤ 512 && l.all (fun i => i.source ≤ 511 && 1 ≤ i.filesPerDay && i.filesPerDay ≤ 96)
    && !repeats (l.map SourceItem.source)

/-- R24: a named entry takes the item's values. -/
def SourceItem.apply (i : SourceItem) (x : SourceEntry) : SourceEntry :=
  { active := i.active, filesPerDay := i.filesPerDay, expected := if i.clearTracking then none else x.expected,
    duplicates := if i.clearTracking then 0 else x.duplicates,
    conflicts := if i.clearTracking then 0 else x.conflicts }

/-- R24: every named entry. -/
def State.applySources (s : State) (l : List SourceItem) : State := l.foldl (fun s i => s.onSource i.source i.apply) s

/-- LOAD SOURCES. -/
def loadSources (s : State) : State :=
  s.directive 0x02 readLoadSources fun tag l s =>
    if sourcesSound l then (s.applySources l).answer tag .done [] else s.refuse tag .refusedRange

/-! ### LOAD TYPE MAP, LOAD CLASSES (R5, R6) -/

/-- R5. -/
def typeMapSound (l : List (Nat × Option Nat)) : Bool := l.all (fun i => i.2.all (· ≤ 13)) && !repeats (l.map Prod.fst)

/-- R5: the entries named. -/
def State.applyTypeMap (s : State) (l : List (Nat × Option Nat)) : State :=
  s.onTables fun k =>
    { k with typeMap := l.foldl (fun m i => vmod m i.1 fun _ => i.2.map (Fin.ofNat 16)) k.typeMap }

/-- LOAD TYPE MAP. -/
def loadTypeMap (s : State) : State :=
  s.directive 0x03 readLoadTypeMap fun tag l s =>
    if typeMapSound l then (s.applyTypeMap l).answer tag .done [] else s.refuse tag .refusedRange

/-- R5. -/
def classesSound (l : List ClassItem) : Bool :=
  l.all (fun i => i.cls ≤ 15 && i.target ≤ 3 && i.group ≤ 3) && !repeats (l.map ClassItem.cls)

/-- R5: a retention is clamped. -/
def ClassItem.used (i : ClassItem) : Nat := clamp 0 4095 i.retention

/-- R5: the entry an item gives. -/
def ClassItem.entry (i : ClassItem) : ClassEntry :=
  { retention := i.used, target := Fin.ofNat 4 i.target, group := Fin.ofNat 4 i.group, enable := i.enable }

/-- R6: a change of dictionary group first seals the OPEN segments of the class; their order is the model's choice
(ascending id, classes in the order of the list, log entry 41). -/
def State.applyClass (s : State) (i : ClassItem) : State :=
  let c : ClassNo := Fin.ofNat 16 i.cls
  let s := if (vget s.tables.classes c).group = i.entry.group then s
    else s.sealAll .dictionary (s.openSegments (·.cls = c))
  s.onTables fun k => { k with classes := vset k.classes c i.entry }

/-- LOAD CLASSES. -/
def loadClasses (s : State) : State :=
  s.directive 0x04 readLoadClasses fun tag l s =>
    if classesSound l then
      (l.foldl State.applyClass s).answerClamped tag (l.any fun i => i.used ≠ i.retention)
        (listOctets (l.map fun i => be 1 i.cls ++ be 4 i.used))
    else s.refuse tag .refusedRange

/-! ### LOAD DICTIONARY (R59, R60) -/

/-- R59. -/
def dictionarySound (d : DictLoad) : Bool :=
  d.group ≤ 3 && d.prefixes.length ≤ 64
    && d.prefixes.all (fun p => 1 ≤ p.1 && p.1 ≤ 12 && p.2.all (· ≤ 9)) && !repeats (d.prefixes.map Prod.snd)

/-- R60: the OPEN segments whose class has the group. -/
def State.groupSegments (s : State) (g : Fin 4) : List Nat :=
  s.openSegments fun e => (vget s.tables.classes e.cls).group = g

/-- R60 steps 2 and 3. -/
def DictGroup.load (ps : List (List Nat)) (d : DictGroup) : DictGroup :=
  { prefixes := ps, generation := (d.generation + 1) % 256 }

/-- R60 steps 1 to 3; the order of the seals is the model's choice (ascending id, log entry 41). -/
def State.applyDictionary (s : State) (g : Fin 4) (ps : List (List Nat)) : State :=
  (s.sealAll .dictionary (s.groupSegments g)).onTables fun k =>
    { k with dict := vset k.dict g ((vget k.dict g).load ps) }

/-- LOAD DICTIONARY. -/
def loadDictionary (s : State) : State :=
  s.directive 0x05 readLoadDictionary fun tag d s =>
    if dictionarySound d then
      let g : Fin 4 := Fin.ofNat 4 d.group
      (s.applyDictionary g (d.prefixes.map Prod.snd)).answer tag .done
        (be 1 (((vget s.tables.dict g).generation + 1) % 256) ++ be 4 (s.groupSegments g).length)
    else s.refuse tag .refusedRange

/-! ### LOAD TARGET, SET TARGET (R85, R90) -/

/-- R85: the parameters are in range. -/
def TargetLoad.sound (p : TargetLoad) : Bool :=
  p.target ≤ 3 && (p.unitSize = 4096 || p.unitSize = 16384 || p.unitSize = 65536) && 16 ≤ p.extents
    && p.extents ≤ 1048576

/-- R85: the extent count rounded down to a multiple of 16. -/
def TargetLoad.rounded (p : TargetLoad) : Nat := p.extents / 16 * 16

/-- R85: a timeout outside its range is clamped. -/
def TargetLoad.ackUsed (p : TargetLoad) : Nat := clamp 1 255 p.ackMs
def TargetLoad.eraseUsed (p : TargetLoad) : Nat := clamp 1 60 p.eraseSecs
def TargetLoad.clamped (p : TargetLoad) : Bool := p.ackUsed ≠ p.ackMs || p.eraseUsed ≠ p.eraseSecs

/-- The first figures of LOAD TARGET's reply: the extent count used, and the timeouts used when one was clamped. -/
def TargetLoad.figures (p : TargetLoad) : List Byte :=
  be 4 p.rounded ++ if p.clamped then be 4 p.ackUsed ++ be 4 p.eraseUsed else []

/-- R85: every field of the configuration. -/
def TargetLoad.configure (p : TargetLoad) (t : Target) : Target :=
  { t with configured := true, extents := some p.rounded, unitSize := some p.unitSize, gather := some p.gather,
           ackMs := p.ackUsed, eraseSecs := p.eraseUsed }

/-- R85: unit size, gather and the two timeouts. -/
def TargetLoad.adjust (p : TargetLoad) (t : Target) : Target :=
  { t with unitSize := some p.unitSize, gather := some p.gather, ackMs := p.ackUsed, eraseSecs := p.eraseUsed }

/-- R85: LOAD TARGET is answered at once, DONE. -/
def State.loadedNow (s : State) (tag : Tag) (p : TargetLoad) : State :=
  s.putReply { tag := tag, result := .done, clamped := p.clamped, figures := p.figures }

/-- R85: the load of an ABSENT target in RUNNING, which is then scanned (R87). -/
def State.loadAndScan (s : State) (tag : Tag) (p : TargetLoad) (t : TargetNo) : State :=
  (s.reserve tag).onTarget t fun k =>
    (p.configure k).startScan false (some { tag := tag, clamped := p.clamped, figures := p.figures })

/-- R85: what an accepted load does. -/
def State.applyTarget (s : State) (tag : Tag) (p : TargetLoad) (t : TargetNo) : State :=
  match s.engine, (s.target t).state with
  | .rebuilding, _ => s.refuse tag .refusedState
  | .unconfigured, _ => (s.onTarget t p.configure).loadedNow tag p
  | .running, .absent => s.loadAndScan tag p t
  | .running, .scanning => s.refuse tag .refusedState
  | .running, _ =>
    if (s.target t).extents = some p.rounded then (s.onTarget t p.adjust).loadedNow tag p
    else s.refuse tag .refusedState

/-- LOAD TARGET. -/
def loadTarget (s : State) : State :=
  s.directive 0x06 readLoadTarget fun tag p s =>
    if p.sound then s.applyTarget tag p (Fin.ofNat 4 p.target) else s.refuse tag .refusedRange

/-- R90. -/
def State.applySetTarget (s : State) (tag : Tag) (t : TargetNo) (online : Bool) : State :=
  match (s.target t).state, online with
  | .absent, _ => s.refuse tag .refusedState
  | .scanning, _ => s.refuse tag .refusedState
  | .online, true => (s.onTarget t fun k => { k with faults := 0 }).answer tag .done []
  | .degraded, true => (s.enterOnline t).answer tag .done []
  | .offline, true => (s.enterOnline t).answer tag .done []
  | .offline, false => s.answer tag .done []
  | .online, false => (s.goOffline t).answer tag .done []
  | .degraded, false => (s.goOffline t).answer tag .done []

/-- SET TARGET. -/
def setTarget (s : State) : State :=
  s.directive 0x07 readSetTarget fun tag p s =>
    if p.1 ≤ 3 then s.applySetTarget tag (Fin.ofNat 4 p.1) p.2 else s.refuse tag .refusedRange

/-! ### SET DAY POLICY, SET SWEEP, SET NOTICES (R43, R114, R173) -/

/-- R43: the values used. -/
def Policy.clamped (p : Policy) : Policy :=
  { closeDelay := clamp 0 2880 p.closeDelay, acceptWindow := clamp 1 400 p.acceptWindow,
    laneTimeout := clamp 1 3600 p.laneTimeout }

/-- SET DAY POLICY. -/
def setDayPolicy (s : State) : State :=
  s.directive 0x08 readSetDayPolicy fun tag p s =>
    (s.onTracker fun k => { k with policy := p.clamped }).answerClamped tag (p.clamped ≠ p)
      (be 4 p.clamped.closeDelay ++ be 4 p.clamped.acceptWindow ++ be 4 p.clamped.laneTimeout)

/-- R114: the settings used. -/
def SweepSettings.clamped (p : SweepSettings) : SweepSettings :=
  { p with interval := clamp 1 1440 p.interval, batch := clamp 1 65535 p.batch, scrubBatch := clamp 1 6 p.scrubBatch }

/-- R114: the five settings are replaced, the count is 0 and the next kind SWEEP. -/
def Expiry.configure (p : SweepSettings) (x : Expiry) : Expiry :=
  { x with mode := p.mode, alternate := p.alternate, interval := p.interval, batch := p.batch,
           scrubBatch := p.scrubBatch, count := 0, nextKind := .sweep }

/-- SET SWEEP. -/
def setSweep (s : State) : State :=
  s.directive 0x09 readSetSweep fun tag p s =>
    (s.onExpiry (Expiry.configure p.clamped)).answerClamped tag (p.clamped ≠ p)
      (be 4 p.clamped.interval ++ be 4 p.clamped.batch ++ be 4 p.clamped.scrubBatch)

/-- R173: all four settings are replaced; flags, snapshots and counts are kept. -/
def Notices.configure (p : NoticeSettings) (n : Notices) : Notices :=
  { sources := Vector.ofFn fun i => { vget n.sources i with enable := p.enables.testBit i.val }, master := p.master,
    mode := p.mode, promoted := p.promoted }

/-- SET NOTICES. -/
def setNotices (s : State) : State :=
  s.directive 0x0A readSetNotices fun tag p s => (s.onNotices (Notices.configure p)).answer tag .done []

/-! ### The Hold Store's directives (R132 to R140) -/

/-- R140: the new window, its rescue, and its program. -/
def State.acceptGuard (s : State) (tag : Tag) (g : Guard) : State :=
  let oldest := oldestDay s.dir
  let r := ((s.reserve tag).onHold fun h => { h with guard := g }).rescue fun e => g.covers s.today oldest e.day
  r.1.onHold fun h => { h with unit := some (.guard tag s.hold.guard r.2) }

/-- SET GUARD. -/
def setGuard (s : State) : State :=
  s.directive 0x0B readSetGuard fun tag g s =>
    if s.hold.forbids then s.refuse tag .refusedProtect
    else if s.hold.busy then s.refuse tag .busy
    else s.acceptGuard tag g

/-- R133: the new hold, its rescue, and its program. -/
def State.acceptHold (s : State) (tag : Tag) (x : Hold) : State :=
  let r := ((s.reserve tag).onHold fun h => { h with holds := insertHold x h.holds }).rescue fun e =>
    x.covers e.day e.cls
  r.1.onHold fun h => { h with unit := some (.add tag x r.2) }

/-- R133 step 2: the state forbids the hold. -/
def State.holdMisplaced (s : State) (x : Hold) : Bool :=
  Config.holdCap ≤ s.hold.holds.length
    || (x.kind = .irrevocable && (s.clock.mode = .notSet || x.release.any (· < s.today)))

/-- ADD HOLD. -/
def addHold (s : State) : State :=
  s.directive 0x0C readAddHold fun tag x s =>
    if s.hold.holds.any (·.id = x.id) then s.refuse tag .refusedRange
    else if s.holdMisplaced x then s.refuse tag .refusedState
    else if s.hold.forbids then s.refuse tag .refusedProtect
    else if s.hold.busy then s.refuse tag .busy
    else s.acceptHold tag x

/-- R138 step 3: an IRREVOCABLE hold that must stand. -/
def State.mustStand (s : State) (x : Hold) : Bool :=
  x.kind = .irrevocable && (s.clock.mode = .notSet || x.release.any (s.today ≤ ·))

/-- R138: the entry is marked for removal and its program begins. -/
def State.acceptDrop (s : State) (tag : Tag) (id : Nat) : State :=
  (s.reserve tag).onHold fun h =>
    { h with holds := h.holds.map fun x => if x.id = id then { x with marked := true } else x
             unit := some (.drop tag id) }

/-- DROP HOLD. -/
def dropHold (s : State) : State :=
  s.directive 0x0D (readNumber 4) fun tag id s =>
    if id = 0 ∨ 65535 < id then s.refuse tag .refusedRange
    else match s.hold.holds.find? (·.id = id) with
      | none => s.refuse tag .notFound
      | some x =>
        if s.hold.forbids ∨ s.mustStand x then s.refuse tag .refusedProtect
        else if s.hold.busy then s.refuse tag .busy
        else s.acceptDrop tag id

/-- R131: the request raises protection. -/
def HoldStore.raises (h : HoldStore) (m : ProtectMode) (l : Level) : Bool :=
  l = h.level && (m = .pinned || (m = .line && h.mode = .opened))

/-- R131: the new mode and level take effect and their program begins. -/
def State.acceptMode (s : State) (tag : Tag) (m : ProtectMode) (l : Level) : State :=
  (s.reserve tag).onHold fun h => { h with mode := m, level := l, unit := some (.mode tag h.mode h.level) }

/-- SET PROTECT MODE. -/
def setProtectMode (s : State) : State :=
  s.directive 0x0E readSetProtectMode fun tag p s =>
    if p.1 = s.hold.mode ∧ p.2 = s.hold.level then s.answer tag .done []
    else if ¬ s.hold.raises p.1 p.2 ∧ s.hold.forbids then s.refuse tag .refusedProtect
    else if s.hold.busy then s.refuse tag .busy
    else s.acceptMode tag p.1 p.2

end Sys2Proof.Machine
end

