-- ==== Sys2Proof/Machine/Operating.lean ====
section
/-! DEFINITION. The directives that operate the part (09 section 9.6, "Operating"), each by its owning rule. -/

namespace Sys2Proof.Machine

/-! ### START ARCHIVE (R175) -/

/-- R175: START ARCHIVE does not apply. -/
def State.cannotStart (s : State) : Bool :=
  s.engine ≠ .unconfigured || s.clock.mode = .notSet || !(allTargets.any fun t => (s.target t).configured)

/-- R175: every configured target is scanned. -/
def Target.startRebuild (tag : Tag) (t : Target) : Target :=
  if t.configured then t.startScan true (some { tag := tag, clamped := false, figures := [] }) else t

/-- R175: the engine becomes REBUILDING. -/
def State.startRebuild (s : State) (tag : Tag) : State :=
  ((((s.reserve tag).setEngine .rebuilding).onDir fun _ => []).onBuilder fun b => { b with nextId := some 1 }).onTargets
    fun v => v.map (Target.startRebuild tag)

/-- START ARCHIVE. -/
def startArchive (s : State) : State :=
  s.directive 0x0F readNothing fun tag _ s =>
    if s.cannotStart then s.refuse tag .refusedState else s.startRebuild tag

/-! ### CLOSE DAY, WAIVE (R38, R39) -/

/-- R38: the close, and its reply. -/
def State.closeDayNow (s : State) (tag : Tag) (day : Nat) : State :=
  ((s.reserve tag).closeDay day).completeWith tag .done (s.closeDayFigures day)

/-- CLOSE DAY. -/
def closeDayDirective (s : State) : State :=
  s.directive 0x10 (readNumber 2) fun tag day s =>
    match s.day? day with
    | some d => if d.state = .opened then s.closeDayNow tag day else s.refuse tag .refusedState
    | none => if s.isSettled day then s.refuse tag .refusedState else s.refuse tag .notFound

/-- R39: what WAIVE makes of a slot. -/
def Slot.waive (x : Slot) : Slot :=
  match x.state with
  | .missing => { x with state := .waived, gapOpen := false }
  | .defective => { x with state := .waived, facts := none }
  | .inProgress => x
  | .received => x
  | .waived => x

/-- R39: WAIVE changes the slot. -/
def Slot.waivable (x : Slot) : Bool := x.state = .missing || x.state = .defective

/-- R39: the event of a waived slot. -/
def State.waiveEvent (s : State) (p : WaiveParams) (i : Nat) (x : Slot) : List AuditEvent :=
  match x.state with
  | .missing => [{ s.slotEvent .gap .closed p.source p.day i with cause := some .waived }]
  | .defective => [{ s.slotEvent .defect .closed p.source p.day i with cause := some .waived }]
  | .inProgress => []
  | .received => []
  | .waived => []

/-- The slots named: one, or ALL in ascending order. -/
def ContRecord.namedSlots (r : ContRecord) (slot : Option Nat) : List (Nat × Slot) :=
  match slot with
  | some i => (r.slot? i).toList.map fun x => (i, x)
  | none => (List.range r.slots.length).zip r.slots

/-- R39: the slots named are waived, then retirement and settlement are tested. The order of the events of a WAIVE of ALL
is the model's choice (ascending slots, log entry 41). -/
def State.applyWaive (s : State) (p : WaiveParams) (r : ContRecord) : State :=
  let xs := r.namedSlots p.slot
  let s := xs.foldl (fun s x => s.onSlot p.source p.day x.1 Slot.waive) s
  let s := s.raiseAll (xs.map fun x => s.waiveEvent p x.1 x.2).flatten
  (s.testRetirement p.day).testSettlement p.day

/-- R39: the figures: slots waived, slots skipped as IN_PROGRESS. -/
def ContRecord.waiveFigures (r : ContRecord) (slot : Option Nat) : List Byte :=
  be 4 ((r.namedSlots slot).countP fun x => x.2.waivable) ++ be 4 ((r.namedSlots slot).countP fun x => x.2.state = .inProgress)

/-- R39: a single named slot is out of the record. -/
def ContRecord.outOfRange (r : ContRecord) (slot : Option Nat) : Bool := slot.any (r.expected ≤ ·)

/-- R39: a single named slot is IN_PROGRESS. -/
def ContRecord.slotBusy (r : ContRecord) (slot : Option Nat) : Bool :=
  slot.any fun i => (r.slot? i).any (·.state = .inProgress)

/-- WAIVE. -/
def waive (s : State) : State :=
  s.directive 0x11 readWaive fun tag p s =>
    if 511 < p.source then s.refuse tag .refusedRange
    else match s.record? p.source p.day with
      | none => s.refuse tag .notFound
      | some r =>
        if r.outOfRange p.slot then s.refuse tag .refusedRange
        else if r.slotBusy p.slot then s.refuse tag .refusedState
        else (s.applyWaive p r).answer tag .done (r.waiveFigures p.slot)

/-! ### FLUSH (R72) -/

/-- R72: the OPEN segments that match. -/
def State.flushMatches (s : State) (p : FlushParams) : List Nat :=
  s.openSegments fun e => p.cls.all (· = e.cls.val) && p.day.all (· = e.day)

/-- R72: a new waiting FLUSH. -/
def FlushWait.new (tag : Tag) (ids : List Nat) : FlushWait :=
  { tag := tag, awaited := ids, count := ids.length, stored := 0, stranded := 0, discarded := 0 }

/-- R72: the seals, then the reply or the wait. -/
def State.flushNow (s : State) (tag : Tag) (p : FlushParams) : State :=
  let ids := s.flushMatches p
  let s := (s.reserve tag).sealAll .flush ids
  if ¬ p.wait then s.completeWith tag .done (be 4 ids.length)
  else if ids = [] then s.completeWith tag .done (FlushWait.new tag ids).figures
  else s.onBuilder fun b => { b with flush := some (FlushWait.new tag ids) }

/-- FLUSH. R72 does not order its two checks: a class above 15 is answered before BUSY, DESIGN CHOICE, log entry 51. -/
def flush (s : State) : State :=
  s.directive 0x12 readFlush fun tag p s =>
    if p.cls.any (15 < ·) then s.refuse tag .refusedRange
    else if p.wait ∧ s.builder.flush.isSome then s.refuse tag .busy
    else s.flushNow tag p

/-! ### SWEEP NOW, SCRUB NOW (R115) -/

/-- R115. -/
def State.passNow (s : State) (tag : Tag) (kind : PassKind) : State :=
  if s.engine ≠ .running then s.refuse tag .refusedState
  else if s.expiry.pass.isSome then s.refuse tag .busy
  else (s.startPass kind .directive).answer tag .done []

/-- SWEEP NOW. -/
def sweepNow (s : State) : State := s.directive 0x13 readNothing fun tag _ s => s.passNow tag .sweep

/-- SCRUB NOW. -/
def scrubNow (s : State) : State := s.directive 0x14 readNothing fun tag _ s => s.passNow tag .scrub

/-! ### VERIFY, RETRIEVE (R147) -/

/-- R147, row 5: the entry is not STORED, or its target is SCANNING. -/
def State.notReadable (s : State) (e : SegEntry) : Bool :=
  e.state ≠ .stored || e.place.any fun p => (s.target p.1).state = .scanning

/-- R147: the checks in order, then the request joins the Decode Queue. -/
def State.request (s : State) (tag : Tag) (kind : RequestKind) (id : Nat) (filter : Option Nat) : State :=
  if id = 0 ∨ filter.any (511 < ·) then s.refuse tag .refusedRange
  else if s.engine ≠ .running then s.refuse tag .refusedState
  else match s.entry? id with
    | none => s.refuse tag .notFound
    | some e =>
      if e.state = .expiring then s.refuse tag .tooLate
      else if s.notReadable e then s.refuse tag .refusedState
      else if Config.decodeCap ≤ s.audit.requests.length then s.refuse tag .busy
      else (s.reserve tag).queueRequest { kind := kind, segId := id, origin := some tag, filter := filter }

/-- VERIFY. -/
def verify (s : State) : State := s.directive 0x15 (readNumber 4) fun tag id s => s.request tag .verify id none

/-- RETRIEVE. -/
def retrieve (s : State) : State := s.directive 0x16 readRetrieve fun tag p s => s.request tag .retrieve p.1 p.2

/-! ### RETRY COMMITS, CLEAR SUSPECT (R101, R153) -/

/-- RETRY COMMITS. -/
def retryCommits (s : State) : State :=
  s.directive 0x17 readNothing fun tag _ s => s.returnStranded.answer tag .done (be 4 s.strandedIds.length)

/-- R153: the flag clears and INTEGRITY CLOSED is raised. -/
def State.clearFlag (s : State) (e : SegEntry) : State :=
  let s := s.onEntry e.id fun x => { x with suspect := false }
  s.raise (s.integrityEvent .closed e .cleared none)

/-- CLEAR SUSPECT. The figure is the mark "already clear". -/
def clearSuspect (s : State) : State :=
  s.directive 0x18 (readNumber 4) fun tag id s =>
    if id = 0 then s.refuse tag .refusedRange
    else match s.entry? id with
      | none => s.refuse tag .notFound
      | some e => (if e.suspect then s.clearFlag e else s).answer tag .done (flagOctet (!e.suspect))

/-! ### ENGINE RESET, INTAKE RESET (R178, R167, R166) -/

/-- ENGINE RESET: answered DONE after the reset. -/
def engineResetDirective (s : State) : State :=
  s.directive 0x19 readNothing fun tag _ s => s.engineReset.answer tag .done []

/-- INTAKE RESET: answered DONE after the reset's effects. -/
def intakeResetDirective (s : State) : State :=
  s.directive 0x1A readNothing fun tag _ s => s.intakeReset.answer tag .done []

end Sys2Proof.Machine
end

