-- ==== Sys2Proof/Machine/Queries.lean ====
section
/-! DEFINITION. The directives that query the part (09 section 9.6, "Querying") and the contents of their replies, in the
order and encodings of R179 and R186 (log entry 9). -/

namespace Sys2Proof.Machine

/-- Answer DONE with contents; nothing else changes. -/
def State.report (s : State) (tag : Tag) (contents : List Byte) : State := s.answer tag .done contents

/-- A set of eight numbered flags in one octet, flag i in bit i (R179). -/
def flagSet (f : Fin 8 → Bool) : List Byte := be 1 (allSources.map fun i => if f i then 2 ^ i.val else 0).sum

/-- An absent number of a named list is 0 (R179). -/
def optNamed (n : Option Nat) : List Byte := named (n.getD 0)

/-! ### READ CLOCK (R170) -/

def ClockMode.number : ClockMode → Nat
  | .notSet => 1
  | .running => 2
  | .holding => 3

/-- Mode, day and second of day; the last two are numbers that may be absent, each with its own mark octet, and no archive
time: DEDUCED, log entry 44. -/
def Clock.standing (c : Clock) : List Byte :=
  named c.mode.number ++ optNum 2 (c.reading.map Time.day) ++ optNum 4 (c.reading.map Time.second)

/-- READ CLOCK. -/
def readClock (s : State) : State :=
  s.directive 0x1B readNothing fun tag _ s =>
    s.report tag (s.clock.standing ++ be 4 s.clock.remainder ++ flagOctet (s.clock.reading.any lastReading))

/-! ### READ STATUS (R169) -/

def EngineState.number : EngineState → Nat
  | .unconfigured => 1
  | .rebuilding => 2
  | .running => 3

def LaneState.number : LaneState → Nat
  | .idle => 1
  | .receiving => 2
  | .suspect => 3
  | .discarding => 4

def NoticeMode.number : NoticeMode → Nat
  | .fixed => 1
  | .promote => 2
  | .silent => 3

def RequestKind.number : RequestKind → Nat
  | .verify => 1
  | .retrieve => 2

/-- R7: state, source, day, slot, appended and rejected count of a lane. -/
def Lane.octets (x : Lane) : List Byte :=
  named x.state.number ++ optNum 2 (x.file.map FileInfo.source) ++ optNum 2 (x.file.map FileInfo.day)
    ++ optNum 1 (x.file.map FileInfo.slot) ++ be 4 x.appended ++ be 4 x.rejected

/-- R2, R7, R14. The eight lane contexts stand one after another with no item count of a list of R179 before them: DEDUCED,
log entry 9. -/
def Assembler.octets (a : Assembler) : List Byte :=
  (a.lanes.toList.map Lane.octets).flatten ++ be 4 a.presence ++ be 4 a.startRange ++ be 4 a.digits ++ be 4 a.pad
    ++ be 4 a.stray ++ be 4 a.discarded

/-- The number of active sources (R23), and prefix count and generation of each dictionary group (R58), the four groups with
no item count before them (log entry 9). -/
def State.tableOctets (s : State) : List Byte :=
  be 4 (s.tracker.sources.toList.countP SourceEntry.active)
    ++ (s.tables.dict.toList.map fun d => be 1 d.prefixes.length ++ be 1 d.generation).flatten

/-- R69, R77: next segment id or exhausted, segments opened, buffers in use, and the numbers in the five states; then
the Commit Queue length and the current commit (R96). An exhausted next segment id is sent as an absent number, its mark
octet and zeros: DEDUCED, log entry 44. -/
def State.segmentOctets (s : State) : List Byte :=
  optNum 4 s.builder.nextId ++ be 4 s.builder.opened ++ be 4 s.buffersInUse ++ be 4 (s.countState .opened)
    ++ be 4 (s.countState .held) ++ be 4 (s.countState .sealed) ++ be 4 (s.countState .committing)
    ++ be 4 (s.countState .stranded) ++ be 4 s.commit.queue.length
    ++ optNum 4 (s.commit.current.map CommitEntry.segId)

/-- The octets of a sweep pass's summary (R124), whatever its values. -/
abbrev summaryWidth : Nat := 122

/-- R110, R179: the last summary with its mark octet. The zeros that follow the mark of an absent one are as many as a
sweep pass's summary has octets (log entry 9). -/
def summaryOctets : Option Summary → List Byte
  | none => 1 :: List.replicate summaryWidth 0
  | some m => 0 :: m.octets

/-- R110. -/
def Expiry.octets (x : Expiry) : List Byte :=
  named x.mode.number ++ flagOctet x.alternate ++ be 4 x.interval ++ be 4 x.batch ++ be 4 x.scrubBatch
    ++ be 4 x.count ++ named x.nextKind.number ++ be 4 x.cursor ++ flagOctet x.pass.isSome
    ++ optNamed (x.pass.map fun p => p.kind.number) ++ summaryOctets x.last ++ be 4 x.erased ++ be 4 x.failed

/-- The origin of a request: a tag, or SCRUB, which is sent as an absent tag, as where no request is active: DEDUCED, log
entry 44. -/
def originOctets (o : Option Tag) : List Byte := optNum 2 (o.map BitVec.toNat)

/-- R146: the active request. -/
def Audit.activeRequest (a : Audit) : Option Request := if a.active.isSome then a.requests.head? else none

/-- R143, R146, R155: events, lost counter, Decode Queue, active request, scrub counters. -/
def Audit.octets (a : Audit) : List Byte :=
  be 4 a.events.length ++ be 4 a.lost ++ be 4 a.requests.length ++ be 4 a.scrubs
    ++ optNamed (a.activeRequest.map fun r => r.kind.number) ++ optNum 4 (a.activeRequest.map Request.segId)
    ++ originOctets (a.activeRequest.bind Request.origin) ++ be 4 a.scrubMatch ++ be 4 a.scrubMismatch
    ++ be 4 a.scrubMalformed ++ be 4 a.scrubReadFail

/-- R169, R174: pending flags, enables and mode. -/
def Notices.octets (n : Notices) : List Byte :=
  flagSet (fun i => (vget n.sources i).flag) ++ flagSet (fun i => (vget n.sources i).enable) ++ named n.mode.number

/-- R169: the contents of READ STATUS. -/
def State.statusOctets (s : State) : List Byte :=
  named s.engine.number ++ s.clock.standing ++ s.asm.octets ++ s.tableOctets ++ s.segmentOctets ++ s.expiry.octets
    ++ s.audit.octets ++ s.notices.octets

/-- READ STATUS. -/
def readStatus (s : State) : State := s.directive 0x1C readNothing fun tag _ s => s.report tag s.statusOctets

/-! ### READ EVENTS (R144, R186) -/

/-- R142: event codes in the order of its table. -/
def EventCode.number : EventCode → Nat
  | .gap => 1
  | .defect => 2
  | .conflict => 3
  | .lateFile => 4
  | .fileRefused => 5
  | .fileAborted => 6
  | .sequenceJump => 7
  | .integrity => 8
  | .stranded => 9
  | .eraseFailed => 10
  | .eventsLost => 11
  | .rebuilt => 12

/-- R186. -/
def EventState.number : EventState → Nat
  | .opened => 1
  | .closed => 2
  | .point => 3

/-- R186: refusal causes in check order. -/
def RefuseCause.number : RefuseCause → Nat
  | .notReady => 1
  | .unknownSource => 2
  | .slotRange => 3
  | .future => 4
  | .stale => 5
  | .dayTableFull => 6
  | .continuityFull => 7

/-- R186: abort causes in the order R17 lists them. -/
def AbortCause.number : AbortCause → Nat
  | .superseded => 1
  | .aborted => 2
  | .stalled => 3
  | .corrupt => 4
  | .format => 5
  | .overrun => 6
  | .reset => 7

/-- R186: a cause by the event's code; for the other codes, its place in the order the table of R142 lists the causes
of that code and state. DEFECT CLOSED carries WAIVED alone. -/
def causeNumber (code : EventCode) : Cause → Nat
  | .late => 1
  | .waived => if code = .gap then 2 else 1
  | .rejected => 1
  | .count => 2
  | .digest => if code = .conflict then 1 else 3
  | .noDigest => 2
  | .refuse c => c.number
  | .abort c => c.number
  | .header => 1
  | .run => 2
  | .malformed => 4
  | .reverified => 1
  | .cleared => 2
  | .error => 1
  | .timeout => 2

/-- The presence octet of an event (R186). -/
def AuditEvent.presence (e : AuditEvent) : List Byte :=
  be 1 (e.source.isSome.toNat + 2 * e.day.isSome.toNat + 4 * e.slot.isSome.toNat + 8 * e.segId.isSome.toNat
    + 16 * e.target.isSome.toNat + 32 * e.figure.isSome.toNat + 64 * e.time.isSome.toNat)

/-- R186: the 24 octets of an event. -/
def AuditEvent.octets (e : AuditEvent) : List Byte :=
  be 1 e.code.number ++ be 1 e.state.number ++ be 1 ((e.cause.map (causeNumber e.code)).getD 0) ++ e.presence
    ++ be 2 (e.source.getD 0) ++ be 2 (e.day.getD 0) ++ be 1 (e.slot.getD 0) ++ be 1 (e.target.getD 0)
    ++ be 4 (e.segId.getD 0) ++ be 4 (e.figure.getD 0) ++ timeOctets e.time

/-- R144 steps 1 and 2. -/
def Audit.takeEvents (n : Nat) (e : AuditEvent) (a : Audit) : Audit :=
  if a.events ≠ [] ∧ 0 < a.lost then { a with events := a.events.drop n ++ [e], lost := 0 }
  else { a with events := a.events.drop n }

/-- R144 step 2: the EVENTS_LOST event. -/
def State.eventsLost (s : State) : AuditEvent := { s.event .eventsLost .point with figure := some s.audit.lost }

/-- R144: READ EVENTS of `n`. -/
def State.takeEvents (s : State) (tag : Tag) (n : Nat) : State :=
  let got := s.audit.events.take n
  let s := s.onAudit (Audit.takeEvents n s.eventsLost)
  s.answer tag .done (be 1 got.length ++ be 1 s.audit.events.length ++ (got.map AuditEvent.octets).flatten)

/-- READ EVENTS. -/
def readEvents (s : State) : State :=
  s.directive 0x1D (readNumber 4) fun tag n s =>
    if n < 1 ∨ 16 < n then s.refuse tag .refusedRange else s.takeEvents tag n

/-! ### READ GAP SUMMARY (R145) -/

/-- The flagged sources in ascending order. -/
def flaggedSources (g : BitVec 512) : List Nat := (List.range 512).filter fun i => g.getLsbD i

/-- READ GAP SUMMARY: the list, whose item count is their count. -/
def readGapSummary (s : State) : State :=
  s.directive 0x1E readNothing fun tag _ s =>
    (s.onAudit fun a => { a with gaps := 0 }).answer tag .done
      (listOctets ((flaggedSources s.audit.gaps).map (be 2)))

/-! ### READ SEGMENT (R83) -/

def SegState.number : SegState → Nat
  | .opened => 1
  | .held => 2
  | .sealed => 3
  | .committing => 4
  | .stranded => 5
  | .stored => 6
  | .expiring => 7

/-- The number of a run status: R73 is where the list stands (R57 names its values in a sentence, in another order):
DEDUCED, log entry 44. -/
def RunStatus.number : RunStatus → Nat
  | .provisional => 1
  | .firm => 2
  | .void => 3

/-- R73, in its order. -/
def RunRec.octets (r : RunRec) : List Byte :=
  be 2 r.source ++ be 1 r.slot ++ named r.status.number ++ flagOctet r.continued ++ be 4 r.count
    ++ optNum 4 (r.digest.map BitVec.toNat) ++ be 4 r.firstSeq ++ optNum 1 (r.lane.map Fin.val)

/-- R79, in its order. The last verified day takes the 2 octets of a day, though R179 lists no field of that name: DEDUCED,
log entry 44. -/
def SegEntry.octets (e : SegEntry) : List Byte :=
  be 4 e.id ++ be 1 e.cls.val ++ be 2 e.day ++ named e.state.number ++ be 1 e.group ++ be 1 e.generation
    ++ optNum 1 (e.place.map fun p => p.1.val) ++ optNum 4 (e.place.map Prod.snd) ++ be 4 e.payloadLen
    ++ be 4 e.recordCount ++ listOctets (e.runs.map RunRec.octets) ++ optNum 4 (e.segDigest.map BitVec.toNat)
    ++ optNamed (e.sealReason.map sealCode) ++ be 4 e.attempts ++ be 4 e.verifyCount ++ optNum 2 e.lastVerified
    ++ flagOctet e.suspect ++ be 4 e.pins

/-- R83: for an OPEN segment, the last placement number. -/
def State.lastPlacementOctets (s : State) (e : SegEntry) : List Byte :=
  if e.state = .opened then be 8 (((s.buffer? e.id).map Buffer.lastPlacement).getD 0) else []

/-- READ SEGMENT. -/
def readSegment (s : State) : State :=
  s.directive 0x1F (readNumber 4) fun tag id s =>
    if id = 0 then s.refuse tag .refusedRange
    else match s.entry? id with
      | none => s.refuse tag .notFound
      | some e => s.report tag (e.octets ++ s.lastPlacementOctets e)

/-! ### READ DAY, READ CONTINUITY (R44) -/

def DayState.number : DayState → Nat
  | .opened => 1
  | .closed => 2

/-- R44: the standing of a day with an entry. -/
def DayEntry.octets (d : DayEntry) : List Byte :=
  named d.state.number ++ be 4 d.deadline ++ be 4 d.live ++ be 4 d.inProgress ++ be 4 d.retired.length

/-- READ DAY; a settled day is answered with state SETTLED, numbered 3 behind the OPEN and CLOSED of R35: DEDUCED, log entry
44. -/
def readDay (s : State) : State :=
  s.directive 0x20 (readNumber 2) fun tag day s =>
    match s.day? day with
    | some d => s.report tag d.octets
    | none => if s.isSettled day then s.report tag (named 3) else s.refuse tag .notFound

def SlotState.number : SlotState → Nat
  | .missing => 1
  | .inProgress => 2
  | .received => 3
  | .defective => 4
  | .waived => 5

def RecordState.number : RecordState → Nat
  | .collecting => 1
  | .reconciling => 2

/-- R44: a slot record: state, holder lane, prior state, digest, file sequence, arrival time, gap-open flag. The holder
lane takes the 1 octet of a lane, though R179 lists no field of that name: DEDUCED, log entry 44. -/
def Slot.octets (x : Slot) : List Byte :=
  named x.state.number ++ optNum 1 (x.holder.map Fin.val) ++ optNamed (x.prior.map SlotState.number)
    ++ optNum 4 (x.facts.map fun f => f.digest.toNat) ++ optNum 2 (x.facts.map SlotFacts.seq)
    ++ timeOctets (x.facts.bind SlotFacts.arrival) ++ flagOctet x.gapOpen

/-- R44: the source's Source Table entry. The 2 octets of the expected file sequence are the model's reading (log
entry 43). -/
def SourceEntry.octets (x : SourceEntry) : List Byte :=
  flagOctet x.active ++ be 4 x.filesPerDay ++ optNum 2 x.expected ++ be 4 x.duplicates ++ be 4 x.conflicts

/-- R44: a Continuity record. -/
def ContRecord.octets (r : ContRecord) : List Byte :=
  named r.state.number ++ be 8 r.archived ++ be 8 r.rejected ++ be 4 r.duplicates ++ be 4 r.conflicts
    ++ be 4 r.expected ++ be 4 r.suspects ++ listOctets (r.slots.map Slot.octets)

/-- R44: the counts of a retired list item. That the expected file count is one of them, and the first, is the model's
reading (log entry 43). -/
def RetiredItem.octets (i : RetiredItem) : List Byte :=
  be 4 i.expected ++ be 8 i.archived ++ be 8 i.rejected ++ be 4 i.duplicates ++ be 4 i.conflicts

/-- READ CONTINUITY. -/
def readContinuity (s : State) : State :=
  s.directive 0x21 readReadContinuity fun tag p s =>
    if 511 < p.1 then s.refuse tag .refusedRange
    else match s.record? p.1 p.2 with
      | some r => s.report tag (r.octets ++ (s.source p.1).octets)
      | none =>
        s.answer tag .notFound
          ((((s.day? p.2).bind (·.retiredItem? p.1)).map RetiredItem.octets).getD [])

/-! ### READ TARGET (R109) -/

def EraseState.number : EraseState → Nat
  | .running => 1
  | .suspendRequested => 2
  | .suspended => 3
  | .resumeRequested => 4

/-- R104: SINGLE, GROUP. -/
def EraseEntry.kindNumber : EraseEntry → Nat
  | .single _ _ => 1
  | .group _ _ _ => 2

/-- A flag that may be absent. -/
def optFlag : Option Bool → List Byte
  | none => [1, 0]
  | some b => 0 :: flagOctet b

/-- R84. -/
def Target.configOctets (t : Target) : List Byte :=
  flagOctet t.configured ++ optNum 4 t.extents ++ optNum 4 t.unitSize ++ optFlag t.gather ++ be 4 t.ackMs
    ++ be 4 t.eraseSecs

/-- The extents in each state, absent for an ABSENT target. -/
def Target.extentOctets (t : Target) : List Byte :=
  ([.free, .allocated, .written, .erasing, .bad].map fun st =>
    optNum 4 (if t.state = .absent then none else some (t.countExtents st))).flatten

/-- The issued erase: kind, first extent, state, suspend count, timer count. -/
def Target.eraseOctets (t : Target) : List Byte :=
  let head := if t.erase.isSome then t.queue.head? else none
  optNamed (head.map EraseEntry.kindNumber) ++ optNum 4 (head.map EraseEntry.first)
    ++ optNamed (t.erase.map fun x => x.state.number) ++ optNum 4 (t.erase.map EraseSlot.suspends)
    ++ optNum 4 (t.erase.map EraseSlot.timer)

/-- R109: a write or read is in progress, the read of a scan included (R86, R87). -/
def Target.transferring (t : Target) : Bool := t.xfer.isSome

/-- R109. -/
def Target.octets (t : Target) : List Byte :=
  t.configOctets ++ named t.state.number ++ be 4 t.faults ++ t.extentOctets ++ be 4 t.queue.length ++ t.eraseOctets
    ++ flagOctet t.transferring ++ flagOctet t.waits ++ be 4 t.unexpected ++ be 4 t.late ++ be 4 t.writeFails
    ++ be 4 t.readFails ++ be 4 t.erasesDone ++ be 4 t.eraseFails ++ be 4 t.suspensions

/-- READ TARGET. -/
def readTarget (s : State) : State :=
  s.directive 0x22 (readNumber 1) fun tag t s =>
    if 3 < t then s.refuse tag .refusedRange else s.report tag (s.target (Fin.ofNat 4 t)).octets

/-! ### READ HOLDS (R141) -/

/-- A hold with its mark for removal. First day, last day and release day take the 2 octets of a day: DEDUCED, log entry
44. -/
def Hold.octets (x : Hold) : List Byte :=
  be 4 x.id ++ be 2 x.firstDay ++ be 2 x.lastDay ++ be 2 x.classMask.toNat ++ named x.kind.number ++ optNum 2 x.release
    ++ flagOctet x.marked

/-- The directive of the running program: ADD HOLD, DROP HOLD, SET GUARD, SET PROTECT MODE in the order of R130; absent
for a lapse write. -/
def HoldOp.number : HoldOp → Nat
  | .add _ _ _ => 1
  | .drop _ _ => 2
  | .guard _ _ _ => 3
  | .mode _ _ _ => 4
  | .lapse _ => 0

/-- R141. -/
def HoldStore.octets (h : HoldStore) : List Byte :=
  listOctets (h.holds.map Hold.octets) ++ named h.guard.anchor.number ++ be 4 h.guard.span
    ++ flagOctet h.guard.complement ++ named h.mode.number ++ named (levelNumber h.level) ++ flagOctet h.lineActive
    ++ flagOctet h.unit.isSome ++ optNamed (h.unit.map HoldOp.number) ++ be 4 h.lapsePending.flatten.length

/-- READ HOLDS. -/
def readHolds (s : State) : State := s.directive 0x23 readNothing fun tag _ s => s.report tag s.hold.octets

/-! ### READ LINK (R168) -/

/-- The eleven counters, in the order of R168. -/
def LinkCounters.octets (c : LinkCounters) : List Byte :=
  be 4 c.received ++ be 4 c.sent ++ be 4 c.checkFailures ++ be 4 c.lengthFaults ++ be 4 c.unknownKinds
    ++ be 4 c.overruns ++ be 4 c.refusedFull ++ be 4 c.dropped ++ be 4 c.losses ++ be 4 c.intakeResets
    ++ be 4 c.unknownDirectives

def LinkState.number : LinkState → Nat
  | .up => 1
  | .lost => 2

/-- R168. The flow state is sent with the codes R180 gives it in a FLOW frame, 00h PAUSE and 01h GO, and not numbered from 1 as
a named state: DEDUCED, log entry 44. -/
def State.linkOctets (s : State) : List Byte :=
  s.port.counters.octets ++ named s.port.link.number ++ be 1 s.port.flow.code ++ be 4 s.port.fifo.length
    ++ be 4 s.port.directives.length ++ be 4 s.port.replies.length ++ be 4 s.port.reserved.length
    ++ flagOctet (!s.audit.output.isEmpty)

/-- READ LINK: with the flag set, the counters become 0 after the reply is formed. -/
def readLink (s : State) : State :=
  s.directive 0x24 readReadLink fun tag clear s =>
    let r := s.report tag s.linkOctets
    if clear then r.onCounters fun _ => {} else r

end Sys2Proof.Machine
end

