-- ==== Sys2Proof/Machine/Commands.lean ====
section
/-! DEFINITION. The meanings of the commands, one definition for each row of spec/opcode_table.json. Each is total and
takes a next state: the FM4120 stops at nothing. A command whose step cannot be taken leaves the state as it is (log
entry 1). -/

namespace Sys2Proof.Machine

/-! ### Resets and inputs of the part, and the intake link -/

/-- POWER_ON. -/
def execPowerOn (s : State) : Host.Outcome State Fault Refusal := .next (powerOn s)

/-- RESET_INPUT. -/
def execResetInput (s : State) : Host.Outcome State Fault Refusal := .next (resetInput s)

/-- LINK_LOSS. -/
def execLinkLoss (s : State) : Host.Outcome State Fault Refusal := .next (linkLoss s)

/-- LINK_UP. -/
def execLinkUp (s : State) : Host.Outcome State Fault Refusal := .next (linkUp s)

/-- PROTECT_LINE_CHANGE. -/
def execProtectLineChange (level : Level) (s : State) : Host.Outcome State Fault Refusal := .next (protectLineChange level s)

/-- FRAME_ARRIVAL. -/
def execFrameArrival (octets : List Byte) (s : State) : Host.Outcome State Fault Refusal := .next (frameArrival octets s)

/-- LINK_RESET. -/
def execLinkReset (s : State) : Host.Outcome State Fault Refusal := .next (linkReset s)

/-! ### Steps of the File Assembler -/

/-- TAKE_FILE_OPEN. -/
def execTakeFileOpen (s : State) : Host.Outcome State Fault Refusal := .next (takeFileOpen s)

/-- TAKE_FILE_DATA. -/
def execTakeFileData (s : State) : Host.Outcome State Fault Refusal := .next (takeFileData s)

/-- TAKE_FILE_CLOSE. -/
def execTakeFileClose (s : State) : Host.Outcome State Fault Refusal := .next (takeFileClose s)

/-- TAKE_FILE_ABORT. -/
def execTakeFileAbort (s : State) : Host.Outcome State Fault Refusal := .next (takeFileAbort s)

/-- OVERRUN_MARK_TAKEN. -/
def execOverrunMarkTaken (lane : LaneNo) (s : State) : Host.Outcome State Fault Refusal := .next (overrunMarkTaken lane s)

/-- STALL_END. -/
def execStallEnd (s : State) : Host.Outcome State Fault Refusal := .next (stallEnd s)

/-- LANE_IDLE_TIMER_EXPIRY. -/
def execLaneIdleTimerExpiry (lane : LaneNo) (s : State) : Host.Outcome State Fault Refusal := .next (laneIdleTimerExpiry lane s)

/-! ### Steps of the archive clock and the Expiry Engine -/

/-- CLOCK_SECOND. -/
def execClockSecond (s : State) : Host.Outcome State Fault Refusal := .next (clockSecond s)

/-- HOLD_REMAINDER_END. -/
def execHoldRemainderEnd (s : State) : Host.Outcome State Fault Refusal := .next (holdRemainderEnd s)

/-- CLOSE_DEADLINE_REACHED. -/
def execCloseDeadlineReached (day : Nat) (s : State) : Host.Outcome State Fault Refusal := .next (closeDeadlineReached day s)

/-- SWEEP_TIMER_MATCH. -/
def execSweepTimerMatch (s : State) : Host.Outcome State Fault Refusal := .next (sweepTimerMatch s)

/-- SWEEP_EXAMINATION. -/
def execSweepExamination (s : State) : Host.Outcome State Fault Refusal := .next (sweepExamination s)

/-! ### Steps of the Commit Engine and the Store Link Controllers -/

/-- COMMIT_BEGIN. -/
def execCommitBegin (s : State) : Host.Outcome State Fault Refusal := .next (commitBegin s)

/-- ARBITER_BEGIN. -/
def execArbiterBegin (target : TargetNo) (s : State) : Host.Outcome State Fault Refusal := .next (arbiterBegin target s)

/-- BEAT_ACCEPT. -/
def execBeatAccept (target : TargetNo) (answers : AnswerTo) (data : List Byte) (s : State) : Host.Outcome State Fault Refusal := .next (beatAccept target answers data s)

/-- BEAT_ERROR. -/
def execBeatError (target : TargetNo) (answers : AnswerTo) (s : State) : Host.Outcome State Fault Refusal := .next (beatError target answers s)

/-- ACK_TIMER_EXPIRY. -/
def execAckTimerExpiry (target : TargetNo) (timer : AckTimer) (s : State) : Host.Outcome State Fault Refusal := .next (ackTimerExpiry target timer s)

/-- ERASE_DONE. -/
def execEraseDone (target : TargetNo) (answers : AnswerTo) (s : State) : Host.Outcome State Fault Refusal := .next (eraseDone target answers s)

/-- ERASE_ERROR. -/
def execEraseError (target : TargetNo) (answers : AnswerTo) (s : State) : Host.Outcome State Fault Refusal := .next (eraseError target answers s)

/-- SUSPENDED. -/
def execSuspended (target : TargetNo) (answers : AnswerTo) (s : State) : Host.Outcome State Fault Refusal := .next (targetSuspended target answers s)

/-- RESUMED. -/
def execResumed (target : TargetNo) (answers : AnswerTo) (s : State) : Host.Outcome State Fault Refusal := .next (targetResumed target answers s)

/-- ERASE_TIMER_EXPIRY. -/
def execEraseTimerExpiry (target : TargetNo) (s : State) : Host.Outcome State Fault Refusal := .next (eraseTimerExpiry target s)

/-! ### Steps of the Audit Unit, the Record Coder, the return direction and the Hold Store -/

/-- DECODE_ACTIVATE. -/
def execDecodeActivate (s : State) : Host.Outcome State Fault Refusal := .next (decodeActivate s)

/-- DECODE_COMPLETE. -/
def execDecodeComplete (s : State) : Host.Outcome State Fault Refusal := .next (decodeComplete s)

/-- RETURN_FRAME_BEGIN. -/
def execReturnFrameBegin (s : State) : Host.Outcome State Fault Refusal := .next (returnFrameBegin s)

/-- RETURN_FRAME_SENT. -/
def execReturnFrameSent (s : State) : Host.Outcome State Fault Refusal := .next (returnFrameSent s)

/-- HOLD_PROGRAM_END. -/
def execHoldProgramEnd (ok : Bool) (s : State) : Host.Outcome State Fault Refusal := .next (holdProgramEnd ok s)

/-! ### The Directive Decoder and the directives -/

/-- DIRECTIVE_UNKNOWN. -/
def execDirectiveUnknown (s : State) : Host.Outcome State Fault Refusal := .next (directiveUnknown s)

/-- SET_CLOCK. -/
def execSetClock (s : State) : Host.Outcome State Fault Refusal := .next (setClock s)

/-- LOAD_SOURCES. -/
def execLoadSources (s : State) : Host.Outcome State Fault Refusal := .next (loadSources s)

/-- LOAD_TYPE_MAP. -/
def execLoadTypeMap (s : State) : Host.Outcome State Fault Refusal := .next (loadTypeMap s)

/-- LOAD_CLASSES. -/
def execLoadClasses (s : State) : Host.Outcome State Fault Refusal := .next (loadClasses s)

/-- LOAD_DICTIONARY. -/
def execLoadDictionary (s : State) : Host.Outcome State Fault Refusal := .next (loadDictionary s)

/-- LOAD_TARGET. -/
def execLoadTarget (s : State) : Host.Outcome State Fault Refusal := .next (loadTarget s)

/-- SET_TARGET. -/
def execSetTarget (s : State) : Host.Outcome State Fault Refusal := .next (setTarget s)

/-- SET_DAY_POLICY. -/
def execSetDayPolicy (s : State) : Host.Outcome State Fault Refusal := .next (setDayPolicy s)

/-- SET_SWEEP. -/
def execSetSweep (s : State) : Host.Outcome State Fault Refusal := .next (setSweep s)

/-- SET_NOTICES. -/
def execSetNotices (s : State) : Host.Outcome State Fault Refusal := .next (setNotices s)

/-- SET_GUARD. -/
def execSetGuard (s : State) : Host.Outcome State Fault Refusal := .next (setGuard s)

/-- ADD_HOLD. -/
def execAddHold (s : State) : Host.Outcome State Fault Refusal := .next (addHold s)

/-- DROP_HOLD. -/
def execDropHold (s : State) : Host.Outcome State Fault Refusal := .next (dropHold s)

/-- SET_PROTECT_MODE. -/
def execSetProtectMode (s : State) : Host.Outcome State Fault Refusal := .next (setProtectMode s)

/-- START_ARCHIVE. -/
def execStartArchive (s : State) : Host.Outcome State Fault Refusal := .next (startArchive s)

/-- CLOSE_DAY. -/
def execCloseDay (s : State) : Host.Outcome State Fault Refusal := .next (closeDayDirective s)

/-- WAIVE. -/
def execWaive (s : State) : Host.Outcome State Fault Refusal := .next (waive s)

/-- FLUSH. -/
def execFlush (s : State) : Host.Outcome State Fault Refusal := .next (flush s)

/-- SWEEP_NOW. -/
def execSweepNow (s : State) : Host.Outcome State Fault Refusal := .next (sweepNow s)

/-- SCRUB_NOW. -/
def execScrubNow (s : State) : Host.Outcome State Fault Refusal := .next (scrubNow s)

/-- VERIFY. -/
def execVerify (s : State) : Host.Outcome State Fault Refusal := .next (verify s)

/-- RETRIEVE. -/
def execRetrieve (s : State) : Host.Outcome State Fault Refusal := .next (retrieve s)

/-- RETRY_COMMITS. -/
def execRetryCommits (s : State) : Host.Outcome State Fault Refusal := .next (retryCommits s)

/-- CLEAR_SUSPECT. -/
def execClearSuspect (s : State) : Host.Outcome State Fault Refusal := .next (clearSuspect s)

/-- ENGINE_RESET. -/
def execEngineReset (s : State) : Host.Outcome State Fault Refusal := .next (engineResetDirective s)

/-- INTAKE_RESET. -/
def execIntakeReset (s : State) : Host.Outcome State Fault Refusal := .next (intakeResetDirective s)

/-- READ_CLOCK. -/
def execReadClock (s : State) : Host.Outcome State Fault Refusal := .next (readClock s)

/-- READ_STATUS. -/
def execReadStatus (s : State) : Host.Outcome State Fault Refusal := .next (readStatus s)

/-- READ_EVENTS. -/
def execReadEvents (s : State) : Host.Outcome State Fault Refusal := .next (readEvents s)

/-- READ_GAP_SUMMARY. -/
def execReadGapSummary (s : State) : Host.Outcome State Fault Refusal := .next (readGapSummary s)

/-- READ_SEGMENT. -/
def execReadSegment (s : State) : Host.Outcome State Fault Refusal := .next (readSegment s)

/-- READ_DAY. -/
def execReadDay (s : State) : Host.Outcome State Fault Refusal := .next (readDay s)

/-- READ_CONTINUITY. -/
def execReadContinuity (s : State) : Host.Outcome State Fault Refusal := .next (readContinuity s)

/-- READ_TARGET. -/
def execReadTarget (s : State) : Host.Outcome State Fault Refusal := .next (readTarget s)

/-- READ_HOLDS. -/
def execReadHolds (s : State) : Host.Outcome State Fault Refusal := .next (readHolds s)

/-- READ_LINK. -/
def execReadLink (s : State) : Host.Outcome State Fault Refusal := .next (readLink s)

end Sys2Proof.Machine
end

