-- ==== Sys2Proof/Machine/Dispatch.lean ====
section
/-! DEFINITION. One arm for each command: a direct call of its meaning. -/

namespace Sys2Proof.Machine

def exec (i : Instr) (s : State) : Host.Outcome State Fault Refusal :=
  match i with
  | .powerOn => Sys2Proof.Machine.execPowerOn s
  | .resetInput => Sys2Proof.Machine.execResetInput s
  | .linkLoss => Sys2Proof.Machine.execLinkLoss s
  | .linkUp => Sys2Proof.Machine.execLinkUp s
  | .protectLineChange level => Sys2Proof.Machine.execProtectLineChange level s
  | .frameArrival octets => Sys2Proof.Machine.execFrameArrival octets s
  | .linkReset => Sys2Proof.Machine.execLinkReset s
  | .takeFileOpen => Sys2Proof.Machine.execTakeFileOpen s
  | .takeFileData => Sys2Proof.Machine.execTakeFileData s
  | .takeFileClose => Sys2Proof.Machine.execTakeFileClose s
  | .takeFileAbort => Sys2Proof.Machine.execTakeFileAbort s
  | .overrunMarkTaken lane => Sys2Proof.Machine.execOverrunMarkTaken lane s
  | .stallEnd => Sys2Proof.Machine.execStallEnd s
  | .laneIdleTimerExpiry lane => Sys2Proof.Machine.execLaneIdleTimerExpiry lane s
  | .clockSecond => Sys2Proof.Machine.execClockSecond s
  | .holdRemainderEnd => Sys2Proof.Machine.execHoldRemainderEnd s
  | .closeDeadlineReached day => Sys2Proof.Machine.execCloseDeadlineReached day s
  | .sweepTimerMatch => Sys2Proof.Machine.execSweepTimerMatch s
  | .sweepExamination => Sys2Proof.Machine.execSweepExamination s
  | .commitBegin => Sys2Proof.Machine.execCommitBegin s
  | .arbiterBegin target => Sys2Proof.Machine.execArbiterBegin target s
  | .beatAccept target answers data => Sys2Proof.Machine.execBeatAccept target answers data s
  | .beatError target answers => Sys2Proof.Machine.execBeatError target answers s
  | .ackTimerExpiry target timer => Sys2Proof.Machine.execAckTimerExpiry target timer s
  | .eraseDone target answers => Sys2Proof.Machine.execEraseDone target answers s
  | .eraseError target answers => Sys2Proof.Machine.execEraseError target answers s
  | .suspended target answers => Sys2Proof.Machine.execSuspended target answers s
  | .resumed target answers => Sys2Proof.Machine.execResumed target answers s
  | .eraseTimerExpiry target => Sys2Proof.Machine.execEraseTimerExpiry target s
  | .decodeActivate => Sys2Proof.Machine.execDecodeActivate s
  | .decodeComplete => Sys2Proof.Machine.execDecodeComplete s
  | .returnFrameBegin => Sys2Proof.Machine.execReturnFrameBegin s
  | .returnFrameSent => Sys2Proof.Machine.execReturnFrameSent s
  | .holdProgramEnd ok => Sys2Proof.Machine.execHoldProgramEnd ok s
  | .directiveUnknown => Sys2Proof.Machine.execDirectiveUnknown s
  | .setClock => Sys2Proof.Machine.execSetClock s
  | .loadSources => Sys2Proof.Machine.execLoadSources s
  | .loadTypeMap => Sys2Proof.Machine.execLoadTypeMap s
  | .loadClasses => Sys2Proof.Machine.execLoadClasses s
  | .loadDictionary => Sys2Proof.Machine.execLoadDictionary s
  | .loadTarget => Sys2Proof.Machine.execLoadTarget s
  | .setTarget => Sys2Proof.Machine.execSetTarget s
  | .setDayPolicy => Sys2Proof.Machine.execSetDayPolicy s
  | .setSweep => Sys2Proof.Machine.execSetSweep s
  | .setNotices => Sys2Proof.Machine.execSetNotices s
  | .setGuard => Sys2Proof.Machine.execSetGuard s
  | .addHold => Sys2Proof.Machine.execAddHold s
  | .dropHold => Sys2Proof.Machine.execDropHold s
  | .setProtectMode => Sys2Proof.Machine.execSetProtectMode s
  | .startArchive => Sys2Proof.Machine.execStartArchive s
  | .closeDay => Sys2Proof.Machine.execCloseDay s
  | .waive => Sys2Proof.Machine.execWaive s
  | .flush => Sys2Proof.Machine.execFlush s
  | .sweepNow => Sys2Proof.Machine.execSweepNow s
  | .scrubNow => Sys2Proof.Machine.execScrubNow s
  | .verify => Sys2Proof.Machine.execVerify s
  | .retrieve => Sys2Proof.Machine.execRetrieve s
  | .retryCommits => Sys2Proof.Machine.execRetryCommits s
  | .clearSuspect => Sys2Proof.Machine.execClearSuspect s
  | .engineReset => Sys2Proof.Machine.execEngineReset s
  | .intakeReset => Sys2Proof.Machine.execIntakeReset s
  | .readClock => Sys2Proof.Machine.execReadClock s
  | .readStatus => Sys2Proof.Machine.execReadStatus s
  | .readEvents => Sys2Proof.Machine.execReadEvents s
  | .readGapSummary => Sys2Proof.Machine.execReadGapSummary s
  | .readSegment => Sys2Proof.Machine.execReadSegment s
  | .readDay => Sys2Proof.Machine.execReadDay s
  | .readContinuity => Sys2Proof.Machine.execReadContinuity s
  | .readTarget => Sys2Proof.Machine.execReadTarget s
  | .readHolds => Sys2Proof.Machine.execReadHolds s
  | .readLink => Sys2Proof.Machine.execReadLink s

end Sys2Proof.Machine
end

