-- ==== Sys2Proof/Safety.lean ====
section
/-! DEFINITION. What the statements call a sound state: capacities, canonical orders and the rules of the spec that hold
at every moment. -/

namespace Sys2Proof.Machine

/-- Adjacent items of a list satisfy a relation. -/
def chained {α : Type} (r : α → α → Bool) : List α → Bool
  | [] => true
  | [_] => true
  | x :: y :: t => r x y && chained r (y :: t)

/-- A relation holds step by step along a list: the state after the last step is reached through one state for each item. -/
def Through {α : Type} (r : α → State → State → Prop) : List α → State → State → Prop
  | [], s, t => t = s
  | a :: l, s, t => ∃ u, r a s u ∧ Through r l u t

/-- A count raised by `n` within 0 to 2^32 − 1; no raise leaves it alone (R7; log entry 42). -/
def counted (old n : Nat) : Nat := if n = 0 then old else min (old + n) 4294967295

/-- R81: the Directory is ordered by segment id. -/
def idOrdered (d : List SegEntry) : Bool := chained (fun a b => a.id < b.id) d

/-- R170: the reading is absent exactly while NOT_SET, and the remainder is above 0 only while HOLDING. -/
def Clock.sound (c : Clock) : Bool :=
  (c.mode = .notSet) = c.reading.isNone && (c.mode = .holding || c.remainder = 0)

/-- The clock's ranges (10.1). -/
def Clock.ranged (c : Clock) : Bool :=
  c.reading.all (fun t => t.day ≤ 65535 && t.second ≤ 86399) && c.remainder ≤ 600

/-- R143: at most 64 events, and the lost counter above 0 only while the queue holds 64. -/
def Audit.sound (a : Audit) : Bool := a.events.length ≤ Config.eventCap && (a.lost = 0 || a.events.length = Config.eventCap)

/-- R160: the places holding replies or reserved are at most 16. -/
def Port.placesSound (p : Port) : Bool := p.replies.length + p.reserved.length ≤ Config.replyPlaces

/-- R19, R159, R160: the capacities of the Intake Port. -/
def Port.sound (p : Port) : Bool :=
  p.fifo.length ≤ Config.fifoCap && p.directives.length ≤ Config.directiveCap && p.placesSound

/-- R105: an issued erase has been suspended at most 8 times, and a SUSPEND is sent only below 8. -/
def EraseSlot.budgeted (x : EraseSlot) : Bool :=
  x.suspends ≤ Config.suspendCap && (x.state ≠ .suspendRequested || x.suspends < Config.suspendCap)

/-- R105 on every target. -/
def State.suspendsSound (s : State) : Bool := s.targets.toList.all fun t => t.erase.all EraseSlot.budgeted

/-! ### Taking a directive, as the statements say it (R160, R161) -/

/-- The Directive Decoder can take a directive with this code, tag and payload; `rest` is the queue behind it (R161: no
current directive and a Reply Queue place that neither holds a reply nor is reserved). -/
def State.Takes (s : State) (code : Nat) (tag : Tag) (payload : List Byte) (rest : List Directive) : Prop :=
  s.current = none ∧ s.port.replies.length + s.port.reserved.length < 16
    ∧ s.port.directives = { code := code, tag := tag, payload := payload } :: rest

/-- The state with the head of the Directive Queue taken and nothing else done. -/
def State.took (s : State) (rest : List Directive) : State :=
  { s with port := { s.port with directives := rest, placeDue := false } }

/-- One more reply at the tail of the Reply Queue. -/
def State.replied (s : State) (tag : Tag) (result : Result) (clamped : Bool) (figures : List Byte) : State :=
  { s with port := { s.port with
      replies := s.port.replies ++ [{ tag := tag, result := result, clamped := clamped, figures := figures }] } }

/-- The directive is taken and answered with a result code alone; nothing else changes. -/
def State.turnedDown (s : State) (rest : List Directive) (tag : Tag) (result : Result) : State :=
  (s.took rest).replied tag result false []

/-- The directive is taken and one reply place is reserved for it (R162). -/
def State.tookLong (s : State) (rest : List Directive) (tag : Tag) : State :=
  { s with port := { s.port with directives := rest, placeDue := false, reserved := s.port.reserved ++ [tag] } }

/-- The reply of a long directive goes into its reserved place (R162). -/
def State.settledWith (s : State) (tag : Tag) (result : Result) (clamped : Bool) (figures : List Byte) : State :=
  { s with port := { s.port with
      reserved := s.port.reserved.erase tag
      replies := s.port.replies ++ [{ tag := tag, result := result, clamped := clamped, figures := figures }] } }

/-- One event at the tail of the Audit Event Queue, or one more lost, its Gap Summary flag, and the AUDIT notice source
made pending with the events in queue and the lost counter (R143, R145). -/
def State.recorded (s : State) (e : AuditEvent) : State :=
  let a : Audit :=
    { s.audit with
      events := if s.audit.events.length < 64 then s.audit.events ++ [e] else s.audit.events
      lost := if s.audit.events.length < 64 then s.audit.lost else min (s.audit.lost + 1) 65535
      gaps := if e.code = .conflict ∨ (e.state = .opened ∧ (e.code = .gap ∨ e.code = .defect))
        then s.audit.gaps ||| BitVec.twoPow 512 (e.source.getD 512) else s.audit.gaps }
  let n : NoticeSource := vget s.notices.sources 0
  let m : NoticeSource := { n with flag := true, snapshot := be 4 a.events.length ++ be 4 a.lost, time := s.clock.reading, count := min (n.count + 1) 255 }
  { s with audit := a, notices := { s.notices with sources := vset s.notices.sources 0 m } }

/-- A notice source is made pending: flag set, snapshot and cause time replaced, cause count up by one to at most 255
(R173). -/
def State.pended (s : State) (src : Fin 8) (snapshot : List Byte) : State :=
  let n : NoticeSource := vget s.notices.sources src
  let m : NoticeSource := { n with flag := true, snapshot := snapshot, time := s.clock.reading, count := min (n.count + 1) 255 }
  { s with notices := { s.notices with sources := vset s.notices.sources src m } }

/-- A lane with no file: IDLE, facts absent, counts 0, timer stopped, overrun mark clear (R7, R21, R22). -/
def Lane.atRest (x : Lane) : Prop :=
  x.state = .idle ∧ x.file = none ∧ x.reason = none ∧ x.appended = 0 ∧ x.rejected = 0 ∧ x.timer = none ∧ x.overrun = none

/-! ### The File Assembler, as the statements say it (R19, R20, R21) -/

/-- The assembler can take the frame at the head of the Intake FIFO: it holds none, and no overrun mark is due. -/
def State.TakesFrame (s : State) (l : LaneNo) (body : FileBody) (arrival : Option Time) (rest : List FileFrame) : Prop :=
  s.asm.hand = none ∧ (∀ m, (s.lane m).overrun ≠ some 0)
    ∧ s.port.fifo = { lane := l, body := body, arrival := arrival } :: rest

/-- The state with the head frame taken from the Intake FIFO: every overrun mark stands one frame nearer its head. -/
def State.popped (s : State) (rest : List FileFrame) : State :=
  { s with
    port := { s.port with fifo := rest }
    asm := { s.asm with lanes := s.asm.lanes.map fun x => { x with overrun := x.overrun.map (· - 1) } } }

/-- The expiry time of a lane's idle timer as a frame of its file is finished: running when no frame of the lane is left
in the Intake FIFO and its overrun mark is clear (R18). -/
def State.timerAfter (s : State) (l : LaneNo) : Option Nat :=
  if s.port.fifo.all (fun f => f.lane ≠ l) && (s.lane l).overrun.isNone then
    s.clock.reading.map fun t => t.day * 86400 + t.second + s.tracker.policy.laneTimeout
  else none

/-- Records of a lane's frame that the assembler still holds in a stall (R20). -/
def State.awaiting (s : State) (l : LaneNo) : Nat :=
  match s.asm.hand with
  | some h => if h.lane = l then 1 + h.rest.length else 0
  | none => 0

/-- An event of a slot (2.9), raised now. -/
def State.about (s : State) (code : EventCode) (st : EventState) (cause : Option Cause) (f : FileInfo)
    (figure : Option Nat) : AuditEvent :=
  { code := code, state := st, cause := cause, source := some f.source, day := some f.day, slot := some f.slot,
    segId := none, target := none, figure := figure, time := s.clock.reading }

/-! ### Slots, days and the ends of files, as the statements say them (R25, R28 to R34, R40, R41) -/

/-- Change the Continuity record of a file's source and day. -/
def State.withRecord (s : State) (f : FileInfo) (g : ContRecord → ContRecord) : State :=
  { s with tracker := { s.tracker with
      records := s.tracker.records.map fun r => if r.source = f.source ∧ r.day = f.day then g r else r } }

/-- Change the Day Table entry of a day. -/
def State.withDay (s : State) (day : Nat) (g : DayEntry → DayEntry) : State :=
  { s with tracker := { s.tracker with days := s.tracker.days.map fun d => if d.day = day then g d else d } }

/-- The slot a file names, when its record exists. -/
def State.slotOf (s : State) (f : FileInfo) : Option Slot :=
  (s.record? f.source f.day).bind fun r => r.slots[f.slot]?

/-- The day has a Day Table entry, and it is CLOSED. -/
def State.inClosedDay (s : State) (day : Nat) : Bool := (s.day? day).any fun d => d.state = .closed

/-- R40: a record of the day may retire: every slot is RECEIVED or WAIVED, and it has no open suspect file. -/
def ContRecord.doneFor (day : Nat) (r : ContRecord) : Bool :=
  r.day = day && r.slots.all (fun x => x.state = .received || x.state = .waived) && r.suspects = 0

/-- R40: the retirement test of a day: in a CLOSED day every record that may retire goes to the retired list. -/
def State.retiredIn (s : State) (day : Nat) : State :=
  if s.inClosedDay day then
    let gone := s.tracker.records.filter (ContRecord.doneFor day)
    ({ s with tracker := { s.tracker with
        records := s.tracker.records.filter fun r => !r.doneFor day } } : State).withDay day fun d =>
      { d with
        live := d.live - gone.length
        retired := d.retired ++ gone.map fun r =>
          { source := r.source, expected := r.expected, archived := r.archived, rejected := r.rejected,
            duplicates := r.duplicates, conflicts := r.conflicts } }
  else s

/-- R41: the settlement test of a day: CLOSED, with no live record and no file in progress, its flag is set, its entry is
freed, and DAY is made pending with the day and SETTLED. -/
def State.settledIn (s : State) (day : Nat) : State :=
  if (s.day? day).any fun d => d.state = .closed && d.live = 0 && d.inProgress = 0 then
    ({ s with tracker := { s.tracker with
        settled := s.tracker.settled ||| BitVec.twoPow 65536 day
        days := s.tracker.days.filter fun d => d.day ≠ day } } : State).pended 1 (be 2 day ++ named 3)
  else s

/-- R40, R41: both tests of a day, in their order. -/
def State.tested (s : State) (day : Nat) : State := (s.retiredIn day).settledIn day

/-- R30 to R34: a file counted in the day's files in progress ends, and both tests follow. -/
def State.oneEnds (s : State) (day : Nat) : State :=
  (s.withDay day fun d => { d with inProgress := d.inProgress - 1 }).tested day

/-- R31: the abort outcome. A normally routed file's slot returns to its prior state, as an opened gap where that is
MISSING in a CLOSED day, with GAP OPENED unless its gap stands open; a suspect file leaves its record's open suspect
files; a file of a settled day changes nothing. -/
def State.handedBack (s : State) (f : FileInfo) (reason : Option Routing) : State :=
  let shut := s.inClosedDay f.day
  match reason with
  | some .settled => s
  | none =>
    let u := s.withRecord f fun r => { r with slots := r.slots.modify f.slot fun x =>
      { x with state := x.prior.getD .missing, holder := none, prior := none
               gapOpen := x.gapOpen || (x.prior.getD .missing = .missing && shut) } }
    let opens := shut && (s.slotOf f).all fun x => x.prior.getD .missing = .missing && !x.gapOpen
    (if opens then u.recorded (s.about .gap .opened none f none) else u).oneEnds f.day
  | some _ => (s.withRecord f fun r => { r with suspects := r.suspects - 1 }).oneEnds f.day

/-- R25: the file sequence received meets the one expected: absent or equal, the expectation moves on; up to 32,767
ahead, it moves on with SEQUENCE_JUMP and the distance; behind, nothing. -/
def State.sequenced (s : State) (f : FileInfo) : State :=
  let ahead : Nat := match (s.source f.source).expected with
    | none => 0
    | some e => (f.seq + 65536 - e) % 65536
  let moved : State := { s with tracker := { s.tracker with
    sources := vmod s.tracker.sources f.source fun x => { x with expected := some ((f.seq + 1) % 65536) } } }
  if ahead = 0 then moved
  else if ahead ≤ 32767 then moved.recorded (s.about .sequenceJump .point none f (some ahead))
  else s

/-- R35, R29: the Day Table entry of a day, or the one made for it: CLOSED at or beyond its close deadline. -/
def State.dayFor (s : State) (day : Nat) : DayEntry :=
  let deadline : Nat := (day + 1) * 1440 + s.tracker.policy.closeDelay
  (s.day? day).getD
    { day := day, state := if deadline ≤ s.now.day * 1440 + s.now.second / 60 then .closed else .opened
      deadline := deadline, live := 0, inProgress := 0, retired := [] }

/-- R33: a file closed on a suspect lane is a duplicate: its slot is RECEIVED or DEFECTIVE with an equal digest stored. -/
def State.isDuplicate (s : State) (f : FileInfo) (digest : Crc) : Bool :=
  (s.slotOf f).any fun x =>
    (x.state = .received || x.state = .defective) && x.facts.any fun y => y.digest = digest

/-- R32 to R34: the close outcome of a file on a suspect lane: LATE_FILE in a settled day; a duplicate's counts; a
conflict's counts and its event, cause DIGEST where its slot stores one, else NO_DIGEST. -/
def State.judged (s : State) (f : FileInfo) (digest : Crc) (why : Routing) : State :=
  let source (g : SourceEntry → SourceEntry) (u : State) : State :=
    { u with tracker := { u.tracker with sources := vmod u.tracker.sources f.source g } }
  if why = .settled then s.recorded (s.about .lateFile .point none f (some f.seq))
  else if s.isDuplicate f digest then
    (source (fun x => { x with duplicates := min (x.duplicates + 1) 4294967295 }) (s.withRecord f fun r =>
      { r with duplicates := min (r.duplicates + 1) 65535, suspects := r.suspects - 1 })).oneEnds f.day
  else
    let stored := (s.slotOf f).any fun x => (x.state = .received || x.state = .defective) && x.facts.isSome
    ((source (fun x => { x with conflicts := min (x.conflicts + 1) 4294967295 }) (s.withRecord f fun r =>
      { r with conflicts := min (r.conflicts + 1) 65535, suspects := r.suspects - 1 })).recorded
        (s.about .conflict .point (some (if stored then .digest else .noDigest)) f (some f.seq))).oneEnds f.day

/-! ### Seals, discards and the ends of runs, as the statements say them (R46, R56, R70 to R78) -/

/-- R72: a FLUSH that waits for the segment counts the end given (stored, stranded or discarded) and, with no segment left
to wait for, is answered DONE: sealed, stored, stranded, discarded. -/
def State.flushCounts (s : State) (id stored stranded discarded : Nat) : State :=
  match s.builder.flush with
  | none => s
  | some w =>
    if id ∉ w.awaited then s
    else
      let v : FlushWait := { w with
        awaited := w.awaited.filter fun j => j ≠ id
        stored := w.stored + stored, stranded := w.stranded + stranded, discarded := w.discarded + discarded }
      if v.awaited = [] then
        ({ s with builder := { s.builder with flush := none } } : State).settledWith v.tag .done false
          (be 4 v.count ++ be 4 v.stored ++ be 4 v.stranded ++ be 4 v.discarded)
      else { s with builder := { s.builder with flush := some v } }

/-- R78: the flow state after a change of the buffers in use: GO turns PAUSE at 30, PAUSE turns GO at 26 while the engine is
RUNNING; a change queues a FLOW frame. -/
def State.flowTested (s : State) : State :=
  let inUse : Nat := s.builder.buffers.length
  let turns : Prop := if s.port.flow = .go then 30 ≤ inUse else inUse ≤ 26 ∧ s.engine = .running
  let f : Flow := if s.port.flow = .go then .pause else .go
  if turns then { s with port := { s.port with flow := f, flowSlot := some f } } else s

/-- R56, R57, R70: the entry as a seal leaves it: each run digest the inverted register of the buffer's run, the segment
digest over them, the reason, and HELD while a run is PROVISIONAL, else SEALED. -/
def SegEntry.sealedBy (e : SegEntry) (bits : List BufRun) (reason : SealReason) : SegEntry :=
  let runs := e.runs.mapIdx fun i r => match (bits[i]?).bind BufRun.reg with
    | some reg => { r with digest := some (~~~ reg) }
    | none => r
  { e with
    runs := runs
    segDigest := some (segmentDigest (runs.map fun r => r.digest.getD 0))
    sealReason := some reason
    state := if ∃ r ∈ e.runs, r.status = .provisional then .held else .sealed }

/-- R70: what the seal of the OPEN segment `id` leaves: out of the open-segment index, its digests fixed, HELD while a run is
PROVISIONAL and else SEALED, contexts and digest registers given up, at the Commit Queue's tail; nothing else. -/
def State.SealedTo (s : State) (id : Nat) (reason : SealReason) (t : State) : Prop :=
  let bits := ((s.buffer? id).map Buffer.runs).getD []
  t = { s with
    dir := s.dir.map fun e => if e.id = id then e.sealedBy bits reason else e
    builder := { s.builder with
      openIndex := s.builder.openIndex.filter fun x => x.segId ≠ id
      buffers := s.builder.buffers.map fun b =>
        if b.segId = id then { b with runs := b.runs.map fun r => { r with ctx := none, reg := none } } else b }
    commit := { s.commit with queue := s.commit.queue ++ [{ segId := id, strandedBefore := false }] } }

/-- Several segments are sealed, one after another. -/
def State.AllSealedTo (s : State) (ids : List Nat) (reason : SealReason) (t : State) : Prop :=
  Through (fun id x y => x.SealedTo id reason y) ids s t

/-- R76: the segment is discarded: out of the open-segment index, the Commit Queue and the Directory, its buffer free; a
waiting FLUSH counts it, and the flow state is tested. -/
def State.withoutSegment (s : State) (id : Nat) : State :=
  (({ s with
    dir := s.dir.filter fun e => e.id ≠ id
    builder := { s.builder with
      openIndex := s.builder.openIndex.filter fun x => x.segId ≠ id
      buffers := s.builder.buffers.filter fun b => b.segId ≠ id }
    commit := { s.commit with queue := s.commit.queue.filter fun c => c.segId ≠ id } } : State).flushCounts id 0 0 1).flowTested

/-- R74 steps 1 and 2: the entry with the runs of the file on a lane resolved, FIRM ones adding their counts. -/
def SegEntry.resolvedAs (e : SegEntry) (l : LaneNo) (st : RunStatus) : SegEntry :=
  { e with
    runs := e.runs.map fun r => if r.lane = some l then { r with status := st, lane := none } else r
    recordCount := e.recordCount
      + if st = .firm then (e.runs.map fun r => if r.lane = some l then r.count else 0).sum else 0 }

/-- R74 on one segment that holds a run of the file on a lane: the runs are resolved and their contexts dropped (R46); then
the segment is tested: OPEN or HELD with every run VOID it is discarded (R76), HELD with no run PROVISIONAL it becomes SEALED
where it stands in the Commit Queue (R75), OPEN with none in a day that is not OPEN it is sealed DAY_CLOSED (R71). -/
def State.ResolvedIn (l : LaneNo) (st : RunStatus) (id : Nat) (s t : State) : Prop :=
  ∀ e, s.entry? id = some e →
    let e' := e.resolvedAs l st
    let u : State := { s with
      dir := s.dir.map fun y => if y.id = id then y.resolvedAs l st else y
      builder := { s.builder with buffers := s.builder.buffers.map fun b => if b.segId = id then { b with
        runs := b.runs.mapIdx fun i r => if (e.runs[i]?).any (fun y => y.lane = some l) then { r with ctx := none } else r }
        else b } }
    if (e'.state = .opened ∨ e'.state = .held) ∧ ∀ r ∈ e'.runs, r.status = .void then t = u.withoutSegment id
    else if e'.state = .held ∧ ∀ r ∈ e'.runs, r.status ≠ .provisional then
      t = { u with dir := u.dir.map fun y => if y.id = id then { y with state := .sealed } else y }
    else if e'.state = .opened ∧ (∀ r ∈ e'.runs, r.status ≠ .provisional)
        ∧ ¬ ((s.day? e.day).any fun d => d.state = .opened) = true then u.SealedTo id .dayClosed t
    else t = u

/-- R74: the end of the file on a lane resolves its runs as `st` in every segment that holds one, in ascending segment id
(the model's choice, log entry 41); Directory, segment buffers, open-segment index, Commit Queue and the replies of a
waiting FLUSH are then as R71, R75 and R76 leave them. So no entry is made, and of each that stays the other runs and counts
stand. -/
def State.RunsResolved (s : State) (l : LaneNo) (st : RunStatus) (t : State) : Prop :=
  (∃ u, Through (State.ResolvedIn l st)
        ((s.dir.filter fun e => e.runs.any fun r => r.lane = some l).map SegEntry.id) s u
      ∧ t.dir = u.dir ∧ t.builder = u.builder ∧ t.commit = u.commit ∧ t.port = u.port)
  ∧ ∀ e' ∈ t.dir, ∃ e ∈ s.dir, e'.id = e.id
    ∧ e'.runs.map (fun y => (y.source, y.slot, y.count, y.status)) = e.runs.map (fun y =>
        (y.source, y.slot, y.count, if y.lane = some l then st else y.status))
    ∧ e'.recordCount = e.recordCount
        + if st = .firm then (e.runs.map fun y => if y.lane = some l then y.count else 0).sum else 0

/-- R17: what an abort of the file open on a lane leaves, whatever its cause: its runs are VOID, the tracker has its abort
outcome (R31), FILE_ABORTED is the last event raised (log entry 17), and the lane is cleared into the state of the cause.
Clock, tables, holds, targets, the Expiry Engine and the other lanes are as they were. -/
def State.AbortedTo (s : State) (l : LaneNo) (f : FileInfo) (cause : AbortCause) (left : LaneState) (t : State) : Prop :=
  let told := (s.handedBack f (s.lane l).reason).recorded (s.about .fileAborted .point (some (.abort cause)) f none)
  t.asm = { s.asm with lanes := vset s.asm.lanes l ({ s.lane l with
    state := left, file := none, reason := none, appended := 0, rejected := 0, timer := none }) }
  ∧ s.RunsResolved l .void t ∧ (∀ e ∈ t.dir, ∀ r ∈ e.runs, r.lane ≠ some l)
  ∧ t.tracker = told.tracker ∧ t.audit = told.audit ∧ t.notices = told.notices
  ∧ t = { s with port := t.port, asm := t.asm, tracker := t.tracker, builder := t.builder, dir := t.dir,
                 commit := t.commit, audit := t.audit, notices := t.notices }
  ∧ t.port.fifo = s.port.fifo ∧ t.port.directives = s.port.directives
  ∧ t.commit = { s.commit with queue := t.commit.queue }

/-- The file open on a lane, if one is. -/
def State.openFile? (s : State) (l : LaneNo) : Option FileInfo :=
  if (s.lane l).state = .receiving ∨ (s.lane l).state = .suspect then (s.lane l).file else none

/-- The file open on a lane is aborted with a cause; a lane without one is left alone. -/
def State.EndsOn (cause : AbortCause) (left : LaneState) (l : LaneNo) (s t : State) : Prop :=
  match s.openFile? l with
  | some f => s.AbortedTo l f cause left t
  | none => t = s

/-- The eight lanes, in ascending number. -/
def lanes : List LaneNo := [0, 1, 2, 3, 4, 5, 6, 7]

/-- R22: the files open on the lanes are aborted RESET, in ascending lane number (the model's choice, log entry 41). -/
def State.ResetAborts (s t : State) : Prop := Through (State.EndsOn .reset .idle) lanes s t

/-- R166, R22: what an intake reset of any cause leaves. The FIFO is empty, the stall is over, every lane is at rest, the
frame being sent is cut off (of a notice cut off the flag is set again, and no other notice source changes but by the aborts;
log entry 37), the counter rises and FLOW is queued; queues, replies and the blocks behind the assembler keep what they
hold, but for what the aborted files change: each file open on a lane is aborted RESET. -/
def State.IntakeResetTo (s t : State) : Prop :=
  t.pending = s.pending ∧ t.engine = s.engine ∧ t.current = s.current ∧ t.clock = s.clock ∧ t.tables = s.tables
  ∧ t.hold = s.hold ∧ t.targets = s.targets ∧ t.expiry = s.expiry ∧ t.coder = s.coder
  ∧ t.asm = { s.asm with lanes := t.asm.lanes, hand := none } ∧ (∀ l, (t.lane l).atRest)
  ∧ t.port = { s.port with
      fifo := [], sending := none, flow := t.port.flow, flowSlot := some t.port.flow, replies := t.port.replies,
      reserved := t.port.reserved,
      counters := { s.port.counters with intakeResets := min (s.port.counters.intakeResets + 1) 4294967295 } }
  ∧ s.port.replies <+: t.port.replies
  ∧ (∃ u, State.ResetAborts { s with
        port := { s.port with fifo := [], counters := t.port.counters }, asm := { s.asm with hand := none } } u
      ∧ t.tracker = u.tracker ∧ t.audit = u.audit ∧ t.dir = u.dir ∧ t.builder = u.builder ∧ t.commit = u.commit
      ∧ t.port.replies = u.port.replies ∧ t.port.reserved = u.port.reserved ∧ t.port.flow = u.port.flow
      ∧ t.notices = (match s.port.sending with
        | some (.notice src _ _ _) => { u.notices with
            sources := vset u.notices.sources src { vget u.notices.sources src with flag := true } }
        | _ => u.notices))
  ∧ t.commit = { s.commit with queue := t.commit.queue }
  ∧ t.audit = { s.audit with events := t.audit.events, lost := t.audit.lost, gaps := t.audit.gaps }
  ∧ ∀ src n time snap, s.port.sending = some (.notice src n time snap) → (vget t.notices.sources src).flag = true

/-! ### Records and segments, as the statements say them (R4, R64 to R70) -/

/-- R4: the class of a valid record with a type code on a lane: 15 on a SUSPECT lane, else its Type Map entry's where
that class is enabled, else 14. -/
def State.classOf (s : State) (l : LaneNo) (type : Nat) : ClassNo :=
  if (s.lane l).state = .suspect then 15
  else match vgetD s.tables.typeMap type none with
    | none => 14
    | some c => if (vget s.tables.classes c).enable = true ∨ 14 ≤ c.val then c else 14

/-- R5: a LOAD TYPE MAP or LOAD CLASSES waits that the Directive Decoder can take. -/
def State.loadDue (s : State) : Bool :=
  s.current.isNone && s.port.replies.length + s.port.reserved.length < 16
    && s.port.directives.head?.any fun d => d.code = 0x03 || d.code = 0x04

/-- R67, R69: what the opening of a segment for a record leaves: a new OPEN segment of the next id, the class and the
file's day, the record first in its first run with the context reset (placement number: log entry 18). R78: the flow state
is tested with the buffer that the opening takes. -/
def State.OpenedFor (s : State) (l : LaneNo) (cls : ClassNo) (f : FileInfo) (record : List Byte) (id : Nat)
    (continued : Bool) (t : State) : Prop :=
  let g := (vget s.tables.classes cls).group
  let dict := vget s.tables.dict g
  let rec1 := readRecord record
  let coded := codeRecord Ctx.reset dict.prefixes rec1
  t.entry? id = some
    { id := id, cls := cls, day := f.day, state := .opened, group := g.val, generation := dict.generation,
      place := none, payloadLen := 16 + coded.length, recordCount := 0,
      runs := [{ source := f.source, slot := f.slot, status := .provisional, continued := continued, count := 1,
                 digest := none, firstSeq := rec1.seq, lane := some l }],
      segDigest := none, sealReason := none, attempts := 0, verifyCount := 0, lastVerified := none, suspect := false,
      pins := 0 }
  ∧ t.buffer? id = some
    { segId := id, dict := dict.prefixes, lastPlacement := s.builder.placement + 1,
      runs := [{ coded := coded, ctx := some (Ctx.after rec1), reg := some (crcTake 0xFFFFFFFF#32 record) }] }
  ∧ (∀ j, j ≠ id → t.entry? j = s.entry? j ∧ t.buffer? j = s.buffer? j)
  ∧ t.builder = { s.builder with
      buffers := t.builder.buffers
      openIndex := s.builder.openIndex ++ [{ cls := cls, day := f.day, segId := id }]
      nextId := if 4294967295 ≤ id then none else some (id + 1)
      opened := s.builder.opened + 1, placement := s.builder.placement + 1 }
  ∧ t.asm.hand = none ∧ (t.lane l).appended = min ((s.lane l).appended + 1) 4294967295
  ∧ t.port = ({ s with builder := t.builder } : State).flowTested.port
  ∧ t = { s with port := t.port, asm := t.asm, builder := t.builder, dir := t.dir }

/-- R78: what the openings for the records of one frame leave of the flow state: GO turns PAUSE, with its FLOW frame, when one of
them brings the buffers in use to 30 or more; else state and frame stay. (A PAUSE stays, but for a state no run reaches: fewer
than 26 buffers in use while RUNNING.) -/
def State.FlowFollows (s t : State) : Prop :=
  let full : Prop := s.port.flow = .go ∧ s.builder.buffers.length < t.builder.buffers.length ∧ 30 ≤ t.builder.buffers.length
  s.port.flow = .go ∨ s.engine ≠ .running ∨ 26 ≤ s.builder.buffers.length →
    t.port.flow = (if full then .pause else s.port.flow) ∧ t.port.flowSlot = if full then some .pause else s.port.flowSlot

/-- R67, R69: there is room to open a segment with the next id, but for the 24 that may be OPEN, and the record fits. -/
def State.canOpen (s : State) (cls : ClassNo) (record : List Byte) (id : Nat) : Prop :=
  s.builder.nextId = some id ∧ s.entry? id = none ∧ s.buffer? id = none ∧ s.builder.buffers.length < 32
  ∧ s.dir.length < 4194304
  ∧ 16 + (codeRecord Ctx.reset (vget s.tables.dict (vget s.tables.classes cls).group).prefixes
      (readRecord record)).length ≤ 1048064

/-- R66: a run of the file on a lane stands in a segment of the class other than `id`. -/
def State.runElsewhere (s : State) (l : LaneNo) (cls : ClassNo) (id : Nat) : Bool :=
  s.dir.any fun y => y.id ≠ id && y.cls = cls && y.runs.any fun r => r.lane = some l

/-! ### Days and expiry, as the statements say them -/

/-- The GAP OPENED events of the MISSING slots of a day's records, ascending slots within ascending sources (R37). -/
def State.openedGaps (s : State) (day : Nat) : List AuditEvent :=
  (s.tracker.records.filter (·.day = day)).flatMap fun r =>
    ((List.range r.slots.length).filter fun i => (r.slots[i]?.map Slot.state) = some .missing).map fun i =>
      s.about .gap .opened none { source := r.source, day := day, slot := i, seq := 0 } none

/-- R37: what the close of a day leaves: its OPEN segments are sealed DAY_CLOSED and join the Commit Queue in ascending
id (the model's choice, log entry 41); the entry is CLOSED, every record RECONCILING with its gaps opened, one GAP OPENED
event for every MISSING slot; then both tests of the day follow, and nothing else changes. -/
def State.DayClosedTo (s : State) (day : Nat) (t : State) : Prop :=
  let ids := (s.dir.filter fun e => e.state = .opened && e.day = day).map SegEntry.id
  let records := s.tracker.records.map fun r => if r.day = day then
    { r with state := .reconciling
             slots := r.slots.map fun x => if x.state = .missing then { x with gapOpen := true } else x } else r
  let shut := (({ s with tracker := { s.tracker with records := records } } : State).withDay day fun d =>
    { d with state := .closed })
  let after := ((s.openedGaps day).foldl State.recorded shut).tested day
  t.tracker = after.tracker ∧ t.audit = after.audit ∧ t.notices = after.notices
  ∧ (∃ u, s.AllSealedTo ids .dayClosed u ∧ t.dir = u.dir ∧ t.builder = u.builder ∧ t.commit = u.commit)
  ∧ (∀ e ∈ t.dir, e.day = day → e.state ≠ .opened)
  ∧ (∀ e ∈ t.dir, e.id ∈ ids → (e.state = .held ∨ e.state = .sealed) ∧ e.sealReason = some .dayClosed)
  ∧ (∀ id, id ∉ ids → t.entry? id = s.entry? id ∧ t.buffer? id = s.buffer? id)
  ∧ (∀ r ∈ t.tracker.records, r.day = day →
      r.state = .reconciling ∧ ∀ x ∈ r.slots, x.state = .missing → x.gapOpen = true)
  ∧ (∀ d, d ≠ day → t.isSettled d = s.isSettled d)
  ∧ t = { s with tracker := t.tracker, builder := t.builder, dir := t.dir, commit := t.commit, audit := t.audit,
                 notices := t.notices }
  ∧ t.builder = { s.builder with buffers := t.builder.buffers, openIndex := t.builder.openIndex }
  ∧ t.commit = { s.commit with
      queue := s.commit.queue ++ ids.map fun id => { segId := id, strandedBefore := false } }
  ∧ t.tracker.policy = s.tracker.policy ∧ t.tracker.sources = s.tracker.sources

/-- R118, R119: a STORED entry may be made EXPIRING now: every run is VOID, or it is past retention, settled, not
suspect, unpinned, outside the Guard Window with the pass's oldest day, and covered by no hold. -/
def State.mayExpire (s : State) (oldest : Option Nat) (e : SegEntry) : Prop :=
  (∀ r ∈ e.runs, r.status ≠ .firm)
  ∨ ((vget s.tables.classes e.cls).retention ≠ 0
    ∧ e.day + (vget s.tables.classes e.cls).retention ≤ s.now.day
    ∧ s.isSettled e.day = true ∧ e.suspect = false ∧ e.pins = 0
    ∧ s.hold.guard.covers s.now.day oldest e.day = false
    ∧ ∀ h ∈ s.hold.holds, ¬ (h.firstDay ≤ e.day ∧ e.day ≤ h.lastDay ∧ h.classMask.getLsbD e.cls.val = true))

/-- R116, R117: the walk of a pass comes to an end before another entry: an empty Directory, or a round made (log entry
14). Otherwise the next entry is the first at or above the cursor, or the lowest. -/
def State.walkStops (s : State) (p : Pass) : Option StopCause :=
  match s.dir.find? fun y => s.expiry.cursor ≤ y.id, s.dir.head? with
  | _, none => some .empty
  | some e, some _ => if p.wrapped = true ∧ p.startId ≤ e.id then some .round else none
  | none, some low =>
    if p.wrapped = true then some .round
    else if p.startId ≤ low.id ∧ ¬ (p.counts.examined = 0 ∧ p.startId < s.expiry.cursor) then some .round
    else none

/-- R124: a sweep pass ends: its summary, which also is the SWEEP notice's snapshot, takes its counts and the tallies of
erases, which begin again at 0. -/
def State.passEnded (s : State) (p : Pass) (stop : StopCause) (stopTarget : Option TargetNo) : State :=
  let m : Summary :=
    { kind := p.kind, origin := p.origin, stop := some stop, stopTarget := stopTarget, counts := p.counts, queued := 0,
      skipped := p.skipped, cursor := s.expiry.cursor, erased := s.expiry.erased, failed := s.expiry.failed }
  ({ s with expiry := { s.expiry with pass := none, erased := 0, failed := 0, last := some m } } : State).pended 4 m.octets

/-- R117: an entry has been examined and counted: the cursor stands behind it, and the pass goes on, or ends where the
walk stops (ROUND, EMPTY) or its batch is done (BATCH). -/
def State.examinedAs (s : State) (p : Pass) (e : SegEntry) (counts : PassCounts) : State :=
  let low := (s.dir.find? fun y => s.expiry.cursor ≤ y.id) = none
  let q : Pass := { p with
    wrapped := p.wrapped || decide (low ∧ ¬ (p.counts.examined = 0 ∧ p.startId < s.expiry.cursor))
      || decide (4294967295 ≤ e.id)
    counts := { counts with examined := counts.examined + 1 } }
  let u : State := { s with expiry := { s.expiry with
    cursor := if 4294967295 ≤ e.id then 1 else e.id + 1, pass := some q } }
  match u.walkStops q with
  | some stop => u.passEnded q stop none
  | none => if q.batch ≤ q.counts.examined then u.passEnded q .batch none else u

/-- R154: the entries a scrub pass chooses, in their order: of those that are STORED, unpinned, not suspect and on a target
ONLINE or DEGRADED, the entries never verified come first, then those of the lowest last verified day, entries alike in the
order of the Directory, which is that of their ids (R81); as many as the scrub batch, the 6 places of SCRUB requests and the
8 of the Decode Queue allow. -/
def State.ScrubsChosen (s : State) (chosen : List SegEntry) : Prop :=
  let candidates := s.dir.filter fun e => e.state = .stored && e.pins = 0 && e.suspect = false
    && e.place.any fun p => (s.target p.1).state = .online || (s.target p.1).state = .degraded
  let scrubs : Nat := s.audit.requests.countP fun r => r.origin = none
  ∃ order : List SegEntry,
    (∀ k, order.filter (fun e => e.lastVerified = k) = candidates.filter fun e => e.lastVerified = k)
    ∧ order.Pairwise (fun a b => a.lastVerified = none
        ∨ ∃ c d, a.lastVerified = some c ∧ b.lastVerified = some d ∧ c ≤ d)
    ∧ chosen = order.take (min s.expiry.scrubBatch (min (6 - scrubs) (8 - s.audit.requests.length)))

/-- R154, R124: what a scrub pass leaves: for every entry chosen a VERIFY request of origin SCRUB at the Decode Queue's tail
and a pin, and the pass over at once, its summary (with the number queued) the snapshot of a SWEEP notice. -/
def State.ScrubbedTo (s : State) (origin : PassOrigin) (t : State) : Prop :=
  ∃ chosen : List SegEntry, s.ScrubsChosen chosen
    ∧ (let ids := chosen.map SegEntry.id
       let m : Summary :=
        { kind := .scrub, origin := origin, stop := none, stopTarget := none, counts := {}, queued := ids.length,
          skipped := false, cursor := s.expiry.cursor, erased := s.expiry.erased, failed := s.expiry.failed }
       t = ({ s with
        audit := { s.audit with requests := s.audit.requests ++ ids.map fun id =>
          { kind := .verify, segId := id, origin := none, filter := none } }
        dir := s.dir.map fun e => { e with pins := e.pins + ids.count e.id }
        expiry := { s.expiry with pass := none, erased := 0, failed := 0, last := some m } } : State).pended 4 m.octets)

/-! ### Requests that end -/

/-- The active request has left the Decode Queue and unpinned its segment (R149). -/
def State.requestDone (s : State) (r : Request) (rs : List Request) : State :=
  { s with
    audit := { s.audit with requests := rs, active := none, readBuffer := [], output := [] }
    dir := s.dir.map fun y => if y.id = r.segId then { y with pins := y.pins - 1 } else y }

/-- R149, R155: the request ends without a decode result (`result` and `figures` its reply): a directive's is answered, and of
one of origin SCRUB the scrub read fail counter rises. -/
def State.requestEnds (s : State) (r : Request) (rs : List Request) (result : Result) (figures : List Byte) : State :=
  let u := s.requestDone r rs
  match r.origin with
  | some tag => u.settledWith tag result false figures
  | none => { u with audit := { u.audit with scrubReadFail := min (u.audit.scrubReadFail + 1) 4294967295 } }

/-- R95, R155, R157: the head request ends with READ_FAIL of a cause by number (1 ERROR, 2 TIMEOUT, 3 OFFLINE): its reply
is FAILED, or the scrub read fail counter rises. -/
def State.readFailed (s : State) (cause : Nat) : State :=
  match s.audit.requests with
  | [] => s
  | r :: rs => s.requestEnds r rs .failed (named 4 ++ named cause)

/-! ### The store links, as the statements say them -/

/-- The state with one target changed. -/
def State.withTarget (s : State) (t : TargetNo) (k : Target) : State := { s with targets := vset s.targets t k }

/-- R91: the current commit is withdrawn: its extent FREE, its entry SEALED with no place, at the Commit Queue's head with
no attempt counted. -/
def State.commitWithdrawn (s : State) (t : TargetNo) : State :=
  match s.commit.current with
  | none => s
  | some c =>
    let k := s.target t
    { s.withTarget t (match (s.entry? c.segId).bind SegEntry.place with
        | some p => { k with map := k.map.map fun m => m.set p.2 .free }
        | none => k) with
      dir := s.dir.map fun y => if y.id = c.segId then { y with state := .sealed, place := none } else y
      commit := { s.commit with queue := c :: s.commit.queue, current := none } }

/-- R91: a target becomes OFFLINE: a suspended erase is resumed, a read in progress will end at its next answer, the
TARGET notice is pending; a waiting write is withdrawn and a waiting read ends with READ_FAIL, cause OFFLINE. -/
def State.wentOffline (s : State) (t : TargetNo) : State :=
  let k := s.target t
  let a := (s.withTarget t { k with
    state := .offline, waitWrite := false, waitRead := none
    erase := k.erase.map fun y => if y.state = .suspended then { y with state := .resumeRequested } else y
    xfer := k.xfer.map fun x => if x.kind = .read then { x with cut := true } else x }).pended 3
      (be 1 t.val ++ named 5)
  let b := if k.waitWrite then a.commitWithdrawn t else a
  if k.waitRead = none then b else b.readFailed 3

/-- R89: a fault of a target: the count rises, ONLINE becomes DEGRADED, and at 3 the target goes OFFLINE; while it is
OFFLINE nothing changes. -/
def State.faultOn (s : State) (t : TargetNo) : State :=
  let k := s.target t
  if k.state = .offline then s
  else if k.faults + 1 < 3 then
    s.withTarget t { k with faults := k.faults + 1, state := if k.state = .online then .degraded else k.state }
  else (s.withTarget t { k with faults := k.faults + 1 }).wentOffline t

/-- R101: every STRANDED segment returns: SEALED with no attempts, at the Commit Queue's tail with the stranded-before mark,
in ascending segment id. -/
def State.strandedReturned (s : State) : State :=
  { s with
    commit := { s.commit with queue := s.commit.queue ++
      (s.dir.filter fun e => e.state = .stranded).map fun e => { segId := e.id, strandedBefore := true } }
    dir := s.dir.map fun e => if e.state = .stranded then { e with state := .sealed, attempts := 0 } else e }

/-- R89, R86: a success of a target: its fault count is 0, and DEGRADED becomes ONLINE, which returns the STRANDED segments
(R101); while it is OFFLINE nothing changes. -/
def State.succeeded (s : State) (t : TargetNo) : State :=
  let k := s.target t
  if k.state = .offline then s
  else if k.state = .degraded then (s.withTarget t { k with state := .online, faults := 0 }).strandedReturned
  else s.withTarget t { k with faults := 0 }

/-- R105, R91: what a controller does about its issued erase as work on its link changes: a RUNNING one is asked to
suspend for a waiting transfer within its budget, a SUSPENDED one resumed when none waits and none is in progress, or
when the target is OFFLINE. -/
def State.eraseChecked (s : State) (t : TargetNo) : State :=
  let k := s.target t
  let waits : Prop := k.waitWrite = true ∨ k.waitRead ≠ none
  s.withTarget t { k with erase := k.erase.map fun y =>
    if y.state = .running ∧ waits ∧ y.suspends < 8 then { y with state := .suspendRequested }
    else if y.state = .suspended ∧ (k.state = .offline ∨ ¬ waits ∧ k.xfer = none) then
      { y with state := .resumeRequested }
    else y }

/-- A target can take a commit: it is ONLINE or DEGRADED and has a FREE extent (R97). -/
def Target.canTake (k : Target) : Prop :=
  (k.state = .online ∨ k.state = .degraded) ∧ ∃ m, k.map = some m ∧ ExtentState.free ∈ m

/-- The issued erase after a transfer has come to wait: a RUNNING one is asked to suspend while its budget lasts
(R105). -/
def Target.eraseWhenAsked (k : Target) : Option EraseSlot :=
  k.erase.map fun y => if y.state = .running ∧ y.suspends < 8 then { y with state := .suspendRequested } else y

/-- The extents of an erase entry in a new state (R104, R107, R108). -/
def Target.withExtents (k : Target) (xs : List Nat) (st : ExtentState) : Target :=
  { k with map := k.map.map fun m => xs.foldl (fun m x => m.set x st) m }

/-- R108: what a failed erase of the queue head `e` leaves: extents BAD, entries of the members gone, one ERASE_FAILED
event for each (in Directory order, log entry 38), the slot empty, the failure counted, a fault of the target. -/
def State.EraseFailedTo (s : State) (t : TargetNo) (e : EraseEntry) (rest : List EraseEntry) (cause : Cause)
    (u : State) : Prop :=
  let gone := s.dir.filter fun y => e.segments.contains y.id
  let events : List AuditEvent := gone.map fun y =>
    { code := .eraseFailed, state := .point, cause := some cause, source := none, day := some y.day, slot := none,
      segId := some y.id, target := some t.val, figure := some y.cls.val, time := s.clock.reading }
  u = State.faultOn { events.foldl State.recorded s with
    dir := s.dir.filter fun y => !e.segments.contains y.id
    targets := vset s.targets t { (s.target t).withExtents e.extents .bad with
      queue := rest, erase := none, eraseFails := min ((s.target t).eraseFails + 1) 4294967295 }
    expiry := { s.expiry with failed := min (s.expiry.failed + gone.length) 4294967295 } } t

/-! ### Rescue, as the statements say it (R134) -/

/-- No un-issued erase entry of any target names a segment with a FIRM run that a change covers. -/
def State.NoneQueued (s : State) (covers : SegEntry → Bool) : Prop :=
  ∀ t : TargetNo, ∀ q ∈ (s.target t).unissued, ∀ id ∈ q.segments, ∀ e, s.entry? id = some e →
    ¬ (covers e = true ∧ ∃ r ∈ e.runs, r.status = .firm)

/-- R134, R135: un-issued erase entries, from head to tail, each with what takes its place in a queue that holds `before`
other entries ahead of them or behind: an entry without a covered member itself; any other a SINGLE entry for each member that
is not covered, in their order, while the queue holds fewer than 64. -/
def replacements (covered : Nat → Bool) : Nat → List EraseEntry → List (EraseEntry × List EraseEntry)
  | _, [] => []
  | before, e :: q =>
    let room : Nat := 64 - (before + q.length)
    let left := (e.members.filter fun m => !covered m.2).take room
    let now : List EraseEntry := if e.segments.any covered then left.map fun m => .single m.1 m.2 else [e]
    (e, now) :: replacements covered (before + now.length) q

/-- R134, R135: the segments of a replaced entry that return to STORED: those covered are rescued, and of the others those
left without an entry deferred. -/
def returnedOf (covered : Nat → Bool) (p : EraseEntry × List EraseEntry) : List Nat :=
  if p.2 = [p.1] then []
  else p.1.segments.filter covered ++ (p.1.segments.filter fun id => !covered id).drop p.2.length

/-- R134, R135 on the Erase Queue of a target, of whose entries `walked` are looked at and those `ahead` and `behind` stay: each
gives way to its replacements in its place, the fillers of one replaced are FREE, the segments returned STORED; nothing else
changes. -/
def State.walkedOver (s : State) (t : TargetNo) (covered : Nat → Bool) (ahead walked behind : List EraseEntry) : State :=
  let pairs := replacements covered (ahead.length + behind.length) walked
  let fillers := pairs.flatMap fun p => if p.2 = [p.1] then [] else p.1.fillers
  let back := pairs.flatMap (returnedOf covered)
  { s.withTarget t { (s.target t).withExtents fillers .free with queue := ahead ++ pairs.flatMap Prod.snd ++ behind } with
    dir := s.dir.map fun e => if back.contains e.id then { e with state := .stored } else e }

/-- A segment with a FIRM run that a change covers. -/
def State.covering (s : State) (covers : SegEntry → Bool) (id : Nat) : Bool :=
  (s.entry? id).any fun e => covers e && e.runs.any fun r => r.status = .firm

/-- R134 to R136: what the rescue at an acceptance leaves: the un-issued entries of each target, 0 to 3, are walked over, the
issued ones go on, and nothing else changes but the Hold Store. So no un-issued entry names a covered segment, and no queue
grows beyond 64. -/
def State.RescuedTo (s : State) (covers : SegEntry → Bool) (t : State) : Prop :=
  (let issued (u : TargetNo) : List EraseEntry := if (s.target u).erase = none then [] else (s.target u).queue.take 1
   let u := [(0 : TargetNo), 1, 2, 3].foldl
     (fun x v => x.walkedOver v (s.covering covers) (issued v) (s.target v).unissued []) s
   t = { u with hold := t.hold })
  ∧ t.NoneQueued covers
  ∧ ∀ u, (s.target u).queue.length ≤ 64 → (t.target u).queue.length ≤ 64

/-- The segments that the un-issued erase entries of all targets name, target by target, from head to tail. -/
def State.unissuedSegments (s : State) : List Nat :=
  [(0 : TargetNo), 1, 2, 3].flatMap fun t => (s.target t).unissued.flatMap EraseEntry.segments

/-- R136: the figures of an acceptance that leaves `t`: the covered segments of un-issued entries are rescued, those of
issued entries lost in flight, and the others that no un-issued entry names any longer deferred. -/
def State.RescueFigures (s : State) (covers : SegEntry → Bool) (t : State) (figs : Figures) : Prop :=
  let covered (id : Nat) : Bool := (s.entry? id).any fun e => covers e && e.runs.any fun r => r.status = .firm
  let issued : List Nat := [(0 : TargetNo), 1, 2, 3].flatMap fun u =>
    if (s.target u).erase = none then [] else (s.target u).queue.head?.toList.flatMap EraseEntry.segments
  figs.rescued = s.unissuedSegments.countP covered ∧ figs.lost = issued.countP covered
  ∧ figs.deferred + t.unissuedSegments.length = s.unissuedSegments.countP fun id => !covered id

/-! ### The engine reset, as the statements say it (R102, R87) -/

/-- R102: the COMMITTING entry is SEALED without a place at the head of the Commit Queue, its extent BAD. -/
def State.commitReset (s : State) : State :=
  match s.commit.current with
  | none => s
  | some c =>
    let u : State := match (s.entry? c.segId).bind SegEntry.place with
      | some p => s.withTarget p.1 { s.target p.1 with map := (s.target p.1).map.map fun m => m.set p.2 .bad }
      | none => s
    { u with
      dir := s.dir.map fun y => if y.id = c.segId then { y with state := .sealed, place := none } else y
      commit := { s.commit with queue := c :: s.commit.queue, current := none } }

/-- R102 on one target: its transfers are abandoned; an issued erase is so no longer, its members' extents WRITTEN, and a
member with a FIRM run that a hold or the Guard Window covers is rescued, a GROUP split (the oldest day of an OLDEST window:
log entry 45). Configuration, state, faults, counters and all else stay. -/
def State.linkReset (s : State) (t : TargetNo) : State :=
  let k := s.target t
  let returned : Option EraseEntry := if k.erase = none then none else k.queue.head?
  let written : Target := match returned with
    | some e => k.withExtents (e.members.map Prod.fst) .written
    | none => k
  let u := s.withTarget t { written with erase := none, waitWrite := false, waitRead := none, xfer := none, expired := 0 }
  match returned with
  | none => u
  | some e =>
    let covers (y : SegEntry) : Bool :=
      (s.hold.holds.any fun h => h.covers y.day y.cls) || s.hold.guard.covers s.now.day (oldestDay s.dir) y.day
    u.walkedOver t (s.covering covers) [] [e] k.queue.tail

/-- R87: a scan made in RUNNING begins again, every extent BAD, from extent 0. -/
def Target.scanBegunAgain (k : Target) : Target :=
  match k.scan with
  | none => k
  | some _ =>
    let u : Target := { k with
      state := .scanning
      map := k.extents.map fun n => List.replicate n .bad
      scan := some { rebuild := false, extent := 0, buf := [], made := [], reply := none } }
    match k.unitSize, k.gather with
    | some unit, some gather => { u with
        xfer := some { kind := .scan, extent := 0, first := 0, beats := 1, unitSize := unit, gather := gather, beat := 0,
                       ackMs := k.ackMs, image := [], cut := false } }
    | _, _ => u

/-- R102, R87, R178: Directory and targets after the whole reset, in the state that the aborts of the files have left. -/
def State.storesReset (s : State) : State :=
  let u := [(0 : TargetNo), 1, 2, 3].foldl State.linkReset s.commitReset
  match s.engine with
  | .unconfigured => u
  | .rebuilding => { u with
      dir := [], targets := u.targets.map fun k => { k with state := .absent, map := none, scan := none, xfer := none } }
  | .running => { u with
      dir := u.dir.filter fun e => [(0 : TargetNo), 1, 2, 3].all fun v =>
        (u.target v).scan.all fun c => !c.made.contains e.id
      targets := u.targets.map Target.scanBegunAgain }

/-! ### Scans, as the statements say them (R87, R176) -/

/-- R176, R62: unit 0 of an extent holds a sound header: length and header check, segment id, class, payload length, run
count, seal reason, and the dictionary copy. -/
def SoundUnit (data : List Byte) : Prop :=
  let places := (readHeader data).places
  512 ≤ data.length ∧ fieldAt data 508 4 = (crc32 (data.take 508)).toNat
  ∧ 1 ≤ fieldAt data 0 4 ∧ octetAt data 6 ≤ 15 ∧ fieldAt data 12 4 ≤ 1048064
  ∧ 1 ≤ octetAt data 11 ∧ octetAt data 11 ≤ 32 ∧ 1 ≤ octetAt data 7 ∧ octetAt data 7 ≤ 6 ∧ octetAt data 10 ≤ 64
  ∧ (∀ p ∈ places, p.1 ≤ 12 ∧ ∀ d ∈ p.2, d ≤ 9)
  ∧ ∀ (i j : Nat) (p q : Nat × List Nat), i < j → places[i]? = some p → places[j]? = some q → p.2 ≠ [] → p.2 ≠ q.2

/-- The scan of a target is one made in RUNNING, or has an extent left behind the one it is at, or another scan of the rebuild
has: the rebuild does not end with this extent. -/
def State.scanGoesOn (s : State) (t : TargetNo) (c : Scan) : Prop :=
  c.rebuild = false ∨ (s.target t).extents ≠ some (c.extent + 1)
  ∨ ∃ v k, v ≠ t ∧ (s.target v).scan = some k ∧ k.rebuild = true ∧ (s.target v).extents ≠ some k.extent

/-- R87: an extent has been classified, and the scan goes on: unit 0 of the next extent is read. Behind its last extent a scan
of the rebuild waits for the others; one made in RUNNING ends: the target ONLINE with no faults, TARGET pending, the STRANDED
segments returned, and LOAD TARGET answered DONE with the extent count (and the timeouts used of a CLAMPED one: log entry 27),
then the extents WRITTEN, FREE and BAD. -/
def State.scanMovedOn (s : State) (t : TargetNo) : State :=
  let k := s.target t
  match k.scan with
  | none => s
  | some c =>
    let waiting : Target := { k with scan := some { c with extent := c.extent + 1, buf := [] }, xfer := none }
    if k.extents = some (c.extent + 1) then
      if c.rebuild = true then s.withTarget t waiting
      else
        let online := s.withTarget t { k with state := .online, faults := 0, scan := none, xfer := none }
        let told := if k.state = .scanning ∨ k.state = .offline then online.pended 3 (be 1 t.val ++ named 3) else online
        let up := told.strandedReturned
        match c.reply with
        | none => up
        | some r => up.settledWith r.tag .done r.clamped (r.figures ++ [ExtentState.written, .free, .bad].flatMap fun st =>
            be 4 ((k.map.getD []).countP fun y => y = st))
    else s.withTarget t { waiting with
      xfer := match k.unitSize, k.gather with
        | some unit, some gather => some
            { kind := .scan, extent := c.extent + 1, first := 0, beats := 1, unitSize := unit, gather := gather, beat := 0,
              ackMs := k.ackMs, image := [], cut := false }
        | _, _ => none }

/-! ### Records, as the statements code them -/

/-- The context's fields are those of a valid record (R46). -/
def Ctx.ok (x : Ctx) : Bool :=
  x.type < 256 && x.seq < 2 ^ 32 && (-86400 ≤ x.start && x.start ≤ 86399) && x.cause < 256 && digitsOk 20 x.calling

/-- A dictionary copy as R58 lets it be: at most 64 places, each filled with 1 to 12 digits. -/
def dictOk (d : List (List Nat)) : Bool := d.length ≤ 64 && d.all fun p => p ≠ [] && digitsOk 12 p

/-- The coded octets of a run: its records in order, each against the context the one before leaves (R45, R46). -/
def codeRun (dict : List (List Nat)) : Ctx → List CallRecord → List Byte
  | _, [] => []
  | x, c :: cs => codeRecord x dict c ++ codeRun dict (Ctx.after c) cs

/-- R61, R98, R184: an entry and its buffer as a commit finds them, with the records of each run: sealed, every run FIRM or VOID
and of the records its buffer codes, counts and digests fixed over them, the dictionary copy as R58 lets it be. -/
def SegEntry.Written (e : SegEntry) (b : Buffer) (css : List (List CallRecord)) : Prop :=
  let runs := e.runs.zip css
  1 ≤ e.id ∧ e.id < 2 ^ 32 ∧ e.day < 65536 ∧ e.group < 256 ∧ e.generation < 256 ∧ e.sealReason ≠ none
  ∧ dictOk b.dict = true ∧ b.dict.Nodup ∧ 1 ≤ e.runs.length ∧ e.runs.length ≤ 32
  ∧ css.length = e.runs.length ∧ b.runs.map BufRun.coded = css.map (codeRun b.dict Ctx.reset)
  ∧ (∀ x ∈ runs, x.1.status ≠ .provisional ∧ x.1.source ≤ 511 ∧ x.1.slot ≤ 95 ∧ (∀ c ∈ x.2, c.ok = true)
      ∧ x.2 ≠ [] ∧ x.1.count = x.2.length ∧ x.2.head?.map CallRecord.seq = some x.1.firstSeq
      ∧ x.1.digest = some (runDigest x.2))
  ∧ e.payloadLen = (runs.map fun x => 16 + (codeRun b.dict Ctx.reset x.2).length).sum ∧ e.payloadLen ≤ 1048064
  ∧ e.recordCount = (e.runs.map fun r => if r.status = .firm then r.count else 0).sum
  ∧ e.segDigest = some (segmentDigest (css.map runDigest))

/-! ### Changes to the Hold Store, as the statements say them -/

/-- Protection and the program unit stand in the way of a change directive (R130, R132). -/
def HoldStore.blocked (h : HoldStore) : Option Result :=
  if h.mode = .pinned ∨ (h.mode = .line ∧ h.line = h.level) then some .refusedProtect
  else if h.unit ≠ none ∨ h.lapsePending ≠ [] then some .busy
  else none

/-- R139: the lapse test of a rollover to `day`. An IRREVOCABLE hold whose release day lies before it leaves the working
copy; the removals, behind those whose write failed before (log entry 19), are made pending as one, and with the program unit
idle the first pending removal begins at once. -/
def HoldStore.lapsedOn (h : HoldStore) (day : Nat) : HoldStore :=
  let ended (x : Hold) : Bool := x.kind = .irrevocable && x.release.any fun r => r < day
  let ids := (h.lapseFailed.filter fun i => h.holds.all fun x => x.id ≠ i) ++ (h.holds.filter ended).map Hold.id
  if ids = [] then h
  else
    let u : HoldStore := { h with
      holds := h.holds.filter fun x => !ended x
      lapseFailed := h.lapseFailed.filter fun i => i ∉ ids }
    let queue := h.lapsePending ++ [ids]
    if h.unit = none then { u with unit := queue.head?.map HoldOp.lapse, lapsePending := queue.tail }
    else { u with lapsePending := queue }

/-! ### Requests, as the statements say them -/

/-- The first check of R147 that applies to a VERIFY or RETRIEVE of a segment. -/
def State.requestRefusal (s : State) (id : Nat) (filter : Option Nat) : Option Result :=
  if id = 0 ∨ filter.any (fun f => 511 < f) then some .refusedRange
  else if s.engine ≠ .running then some .refusedState
  else match s.entry? id with
    | none => some .notFound
    | some e =>
      if e.state = .expiring then some .tooLate
      else if e.state ≠ .stored ∨ e.place.any (fun p => (s.target p.1).state = .scanning) then some .refusedState
      else if 8 ≤ s.audit.requests.length then some .busy
      else none

/-- The state with one lane context changed. -/
def State.withLane (s : State) (l : LaneNo) (x : Lane) : State :=
  { s with asm := { s.asm with lanes := vset s.asm.lanes l x } }

end Sys2Proof.Machine
end

