-- ==== Sys2Proof/Certificates/Slice0/Obligations.lean ====
section
/-! DEFINITION. The statements about the FM4120 for the provers. -/

section

open Sys2Proof Sys2Proof.Machine

/-! ### The machine as a whole -/

/-- A step runs the command at the front of the queue, on the state with the rest of the queue. With no command waiting,
the erase timer of every RUNNING erase counts one second, up to its timeout, and nothing else changes: the model's
choice, log entry 3 (R106 measures the timer; no row of the table ticks it). -/
def Obligations.StepRunsTheFrontCommand : Prop :=
  (∀ (c : Instr) (rest : List Instr) (s : State),
    step { s with pending := c :: rest } = exec c { s with pending := rest })
  ∧ ∀ s : State, s.pending = [] →
    step s = .next { s with targets := s.targets.map fun t => { t with erase := t.erase.map fun x =>
      if x.state = .running then { x with timer := min (x.timer + 1) x.timeout } else x } }

/-- Every command takes a next state and leaves the queue of commands as it is. Only the commands named can change the archive
clock, the non-volatile hold memory, the loaded tables and the Hold Store. -/
def Obligations.EveryCommandTakesANextState : Prop :=
  (∀ (c : Instr) (s : State), ∃ t, exec c s = .next t ∧ t.pending = s.pending)
  ∧ ∀ (c : Instr) (s t : State), exec c s = .next t →
    (t.clock ≠ s.clock → c ∈ [.powerOn, .clockSecond, .holdRemainderEnd, .setClock])
    ∧ (t.hold.nv ≠ s.hold.nv → c = .holdProgramEnd true)
    ∧ (t.tables ≠ s.tables → c ∈ [.powerOn, .loadTypeMap, .loadClasses, .loadDictionary])
    ∧ (t.hold ≠ s.hold → c ∈ [.powerOn, .clockSecond, .setClock, .setGuard, .addHold, .dropHold, .setProtectMode]
        ∨ (∃ v, c = .protectLineChange v) ∨ ∃ ok, c = .holdProgramEnd ok)

/-! ### Power-on, resets and the inputs of the part -/

/-- The state after power-on of a part as delivered, at the values the spec states (the Hold Store's memory as R128
delivers it; the level of the protect line is no part of this statement, log entry 5). -/
def Obligations.ResetValues : Prop :=
  let s := State.reset
  s.engine = .unconfigured ∧ s.clock = { mode := .notSet, reading := none, remainder := 0 }
  ∧ s.current = none ∧ s.port.fifo = [] ∧ s.port.directives = [] ∧ s.port.replies = [] ∧ s.port.reserved = []
  ∧ s.port.flow = .pause ∧ s.port.flowSlot = some .pause ∧ s.port.link = .lost ∧ s.port.counters = {}
  ∧ (∀ l, (s.lane l).state = .idle ∧ (s.lane l).file = none ∧ (s.lane l).timer = none ∧ (s.lane l).overrun = none
      ∧ (s.lane l).appended = 0 ∧ (s.lane l).rejected = 0)
  ∧ s.asm.hand = none ∧ s.asm.presence = 0 ∧ s.asm.startRange = 0 ∧ s.asm.digits = 0 ∧ s.asm.pad = 0
  ∧ s.asm.stray = 0 ∧ s.asm.discarded = 0
  ∧ (∀ i, vget s.tables.typeMap i = none)
  ∧ (∀ i, vget s.tables.classes i = { retention := 0, target := 0, group := 0, enable := false })
  ∧ (∀ i, vget s.tables.dict i = { prefixes := [], generation := 0 })
  ∧ (∀ i, vget s.tracker.sources i =
      { active := false, filesPerDay := 1, expected := none, duplicates := 0, conflicts := 0 })
  ∧ s.tracker.records = [] ∧ s.tracker.days = [] ∧ (∀ d, s.isSettled d = false)
  ∧ s.tracker.policy = { closeDelay := 240, acceptWindow := 35, laneTimeout := 300 }
  ∧ s.builder = { buffers := [], openIndex := [], nextId := some 1, placement := 0, opened := 0, flush := none }
  ∧ s.dir = [] ∧ s.commit = { queue := [], current := none, waited := false }
  ∧ (∀ t, (s.target t).configured = false ∧ (s.target t).state = .absent ∧ (s.target t).ackMs = 20
      ∧ (s.target t).eraseSecs = 10 ∧ (s.target t).map = none ∧ (s.target t).queue = [] ∧ (s.target t).erase = none
      ∧ (s.target t).faults = 0)
  ∧ s.expiry.mode = .off ∧ s.expiry.alternate = false ∧ s.expiry.interval = 60 ∧ s.expiry.batch = 4096
  ∧ s.expiry.scrubBatch = 4 ∧ s.expiry.count = 0 ∧ s.expiry.nextKind = .sweep ∧ s.expiry.cursor = 1
  ∧ s.expiry.pass = none ∧ s.expiry.last = none
  ∧ s.hold.holds = [] ∧ s.hold.guard = { anchor := .newest, span := 0, complement := false }
  ∧ s.hold.mode = .opened ∧ s.hold.level = .high ∧ s.hold.unit = none
  ∧ s.audit.events = [] ∧ s.audit.lost = 0 ∧ s.audit.gaps = 0 ∧ s.audit.requests = []
  ∧ s.audit.scrubMatch = 0 ∧ s.audit.scrubMismatch = 0 ∧ s.audit.scrubMalformed = 0 ∧ s.audit.scrubReadFail = 0
  ∧ (∀ i, (vget s.notices.sources i).flag = false ∧ (vget s.notices.sources i).count = 0
      ∧ (vget s.notices.sources i).enable = false)
  ∧ s.notices.master = false ∧ s.notices.mode = .fixed ∧ s.notices.promoted = 0

/-- POWER_ON: every block takes its power-on values; the working Hold Store is read from non-volatile memory, with
PINNED taken as OPEN, and the protect line stands as it does. LINK_UP makes the link UP. PROTECT_LINE_CHANGE takes the
new level, and a change makes the HOLD source pending with the line's standing and the protect mode. That the snapshot's
standing is one flag octet is the model's reading, log entry 9. -/
def Obligations.PowerOnLinkUpAndProtectLine : Prop :=
  (∀ s : State, exec .powerOn s = .next { State.reset with
    pending := s.pending
    hold := { holds := s.hold.nv.holds, guard := s.hold.nv.guard,
              mode := if s.hold.nv.mode = .pinned then .opened else s.hold.nv.mode, level := s.hold.nv.level,
              nv := s.hold.nv, line := s.hold.line, unit := none, lapsePending := [], lapseFailed := [] } })
  ∧ ∀ s : State,
    exec .linkUp s = .next { s with port := { s.port with link := .up } }
    ∧ exec (.protectLineChange s.hold.line) s = .next s
    ∧ ∀ v, v ≠ s.hold.line → exec (.protectLineChange v) s = .next
        (({ s with hold := { s.hold with line := v } } : State).pended 6
          (flagOctet (decide (v = s.hold.level)) ++ named s.hold.mode.number))

/-- RESET_INPUT and ENGINE RESET: what an engine reset leaves of each block, and the directive's reply after it. A hold
program in hand keeps its reserved place; a reset while REBUILDING goes back to UNCONFIGURED. Each file open is aborted
RESET (ascending lanes: log entry 41); a RECORDS frame offered and not begun is withdrawn (log entry 46). Otherwise the
COMMITTING entry is SEALED at the head of the Commit Queue with no attempt counted, its extent BAD; an issued erase goes back
to its queue's head, its members' extents WRITTEN and a member that a hold or the window covers rescued, a GROUP split in
member order and its fillers FREE (an OLDEST window's day: log entry 45); a scan made in RUNNING begins again from extent 0,
its entries removed. All else of the Directory and the targets, the notices (log entry 6) and the flow state between its
bounds is as the aborts leave it. -/
def Obligations.EngineResetEffect : Prop :=
  ∀ s : State, ∃ t, exec .resetInput s = .next t
    ∧ (∀ tag rest, s.Takes 0x19 tag [] rest → exec .engineReset s = .next (t.replied tag .done false []))
    ∧ t.clock = s.clock ∧ t.tables = s.tables ∧ t.hold = s.hold ∧ t.pending = s.pending ∧ t.current = none
    ∧ t.engine = (if s.engine = .rebuilding then .unconfigured else s.engine)
    ∧ (s.engine = .rebuilding → t.dir = [] ∧ t.builder.nextId = some 1
        ∧ ∀ u, (t.target u).state = .absent ∧ (t.target u).map = none ∧ (t.target u).scan = none)
    ∧ t.port = { s.port with
        fifo := [], directives := [], replies := [], reserved := s.hold.programTag, placeDue := false,
        flow := t.port.flow, flowSlot := some t.port.flow, sending := s.port.sending.map Sending.orphan }
    ∧ (t.engine ≠ .running ∨ 30 ≤ t.builder.buffers.length → t.port.flow = .pause)
    ∧ (t.engine = .running ∧ t.builder.buffers.length ≤ 26 → t.port.flow = .go)
    ∧ (∀ l, (t.lane l).state = .idle ∧ (t.lane l).file = none ∧ (t.lane l).timer = none ∧ (t.lane l).overrun = none
        ∧ (t.lane l).appended = 0 ∧ (t.lane l).rejected = 0)
    ∧ t.asm = { s.asm with lanes := t.asm.lanes, hand := none }
    ∧ t.builder.flush = none ∧ t.commit.current = none ∧ t.coder = []
    ∧ t.audit.requests = [] ∧ t.audit.active = none ∧ t.audit.output = []
    ∧ (∀ e ∈ t.dir, e.pins = 0)
    ∧ t.expiry = { s.expiry with
        pass := none, count := 0, cursor := if s.engine = .rebuilding then 1 else s.expiry.cursor }
    ∧ (∀ u, (t.target u).erase = none ∧ (t.target u).waitWrite = false ∧ (t.target u).waitRead = none
        ∧ (t.target u).expired = 0 ∧ ∀ x, (t.target u).xfer = some x → x.kind = .scan)
    ∧ t.notices = { s.notices with sources := t.notices.sources }
    ∧ (∀ i : Fin 8, 2 ≤ i.val →
        (vget t.notices.sources i).flag = false ∧ (vget t.notices.sources i).count = 0
        ∧ (vget t.notices.sources i).enable = (vget s.notices.sources i).enable)
    ∧ (∃ a b : State, State.ResetAborts a b
      ∧ a = { s with
          port := { s.port with
            fifo := [], directives := [], replies := [], reserved := s.hold.programTag, placeDue := false
            sending := s.port.sending.map Sending.orphan }
          notices := { s.notices with sources := s.notices.sources.map fun n =>
            { n with flag := false, snapshot := [], time := none, count := 0 } }
          coder := [], current := none, asm := { s.asm with hand := none }
          builder := { s.builder with flush := none }, dir := s.dir.map fun e => { e with pins := 0 }
          audit := { s.audit with requests := [], active := none, readBuffer := [], output := [] } }
      ∧ t.tracker = b.tracker ∧ t.audit = b.audit ∧ t.notices = b.notices
      ∧ t.dir = b.storesReset.dir ∧ t.targets = b.storesReset.targets
      ∧ (t.engine = .running ∧ 26 < t.builder.buffers.length ∧ t.builder.buffers.length < 30 → t.port.flow = b.port.flow)
      ∧ t.builder = { b.builder with nextId := if s.engine = .rebuilding then some 1 else b.builder.nextId }
      ∧ t.commit = { b.commit with queue := s.commit.current.toList ++ b.commit.queue, current := none }
      ∧ (s.engine ≠ .rebuilding → t.dir.map SegEntry.id = (b.dir.filter fun e =>
          s.engine = .unconfigured || [(0 : TargetNo), 1, 2, 3].all fun u =>
            (s.target u).scan.all fun k => !k.made.contains e.id).map SegEntry.id)
      ∧ ∀ e' ∈ t.dir, ∃ e ∈ b.dir, e'.id = e.id ∧ e'.runs = e.runs ∧ e'.recordCount = e.recordCount)
    ∧ (s.engine ≠ .rebuilding →
      (∀ c e v x, s.commit.current = some c → s.entry? c.segId = some e → e.state = .committing →
        e.place = some (v, x) → (∀ u k, (s.target u).scan = some k → c.segId ∉ k.made) →
        (∀ q ∈ (s.target v).queue, x ∉ q.extents) → (∀ u, ∀ q ∈ (s.target u).queue, c.segId ∉ q.segments) →
        t.commit.queue.head? = some c
        ∧ (∃ e', t.entry? c.segId = some e' ∧ e'.state = .sealed ∧ e'.place = none ∧ e'.attempts = e.attempts)
        ∧ ((s.target v).extent? x ≠ none → (t.target v).scan = none → (t.target v).extent? x = some .bad))
      ∧ (∀ u y q rest, (s.target u).erase = some y → (s.target u).queue = q :: rest → (s.target u).scan = none →
        ((∀ id ∈ q.segments, ∀ e, s.entry? id = some e → (∃ r ∈ e.runs, r.status = .firm) →
              (∀ h ∈ s.hold.holds, h.covers e.day e.cls = false)
              ∧ ∀ oldest, s.hold.guard.covers s.now.day oldest e.day = false) →
          (t.target u).queue = q :: rest
          ∧ ∀ x ∈ q.members.map Prod.fst, (s.target u).extent? x ≠ none →
              (∀ c e, s.commit.current = some c → s.entry? c.segId = some e → e.place ≠ some (u, x)) →
              (t.target u).extent? x = some .written)
        ∧ ∃ front, (t.target u).queue = front ++ rest
          ∧ ∀ z ∈ front, ∀ id ∈ z.segments, id ∈ q.segments
            ∧ ∀ e, t.entry? id = some e → (∃ r ∈ e.runs, r.status = .firm) →
                ∀ h ∈ s.hold.holds, h.covers e.day e.cls = false))
    ∧ (s.engine = .running → ∀ u k, (s.target u).scan = some k →
      (t.target u).state = .scanning ∧ (∀ e ∈ t.dir, e.id ∉ k.made)
      ∧ (t.target u).scan = some { rebuild := false, extent := 0, buf := [], made := [], reply := none }
      ∧ (t.target u).map = (s.target u).extents.map (fun n => List.replicate n .bad)
      ∧ ∀ unit gather, (s.target u).unitSize = some unit → (s.target u).gather = some gather →
          (t.target u).xfer = some { kind := .scan, extent := 0, first := 0, beats := 1, unitSize := unit,
                                     gather := gather, beat := 0, ackMs := (s.target u).ackMs, image := [],
                                     cut := false })

/-- LINK_RESET, LINK_LOSS and INTAKE RESET each make an intake reset, behind their own counter, link state or taken
directive; while the link is LOST, LINK_LOSS and LINK_RESET change nothing (log entry 33). That each cause cuts off the
frame being sent is log entry 37, what it then leaves of a frame an engine reset had left to be finished log entry 49, and the
ascending order of the lanes aborted log entry 41: all are the model's. -/
def Obligations.IntakeResetEffect : Prop :=
  ∀ s : State,
    (s.port.link = .up → ∃ t, exec .linkReset s = .next t
      ∧ State.IntakeResetTo { s with port := { s.port with counters := { s.port.counters with
          received := min (s.port.counters.received + 1) 4294967295 } } } t)
    ∧ (s.port.link = .up → ∃ t, exec .linkLoss s = .next t
      ∧ State.IntakeResetTo { s with port := { s.port with
          link := .lost, counters := { s.port.counters with losses := min (s.port.counters.losses + 1) 4294967295 } } } t)
    ∧ (s.port.link = .lost → exec .linkReset s = .next s ∧ exec .linkLoss s = .next s)
    ∧ ∀ tag rest, s.Takes 0x1A tag [] rest → ∃ t, (s.took rest).IntakeResetTo t
        ∧ exec .intakeReset s = .next (t.replied tag .done false [])

/-! ### The intake link -/

/-- FRAME_ARRIVAL of a frame that fails a check changes its counter alone; while the link is LOST nothing is received
(log entry 33). When each finding is made, in the octets of the frame: cut short, its frame check wrong, a payload above 8,192
octets, a family or kind the part does not route, a lane above 7, a wrong length of its kind; the order of the findings, and
that of a lane above 7 before a wrong length, is the model's choice, log entry 10. A frame that spells LINK_RESET is the command
LINK_RESET, and makes the intake reset. A file frame is counted, its lane's idle timer stopped, and the frame joins the Intake
FIFO with its arrival time; with 64 frames queued it is discarded, the overrun counter rises, and the lane's overrun mark stands
at the FIFO's tail unless it stands already. -/
def Obligations.FileFrameArrival : Prop :=
  (∀ octets : List Byte,
    let family := octetAt octets 0
    let kind := octetAt octets 1
    let lane := fieldAt octets 2 2
    let len := fieldAt octets 4 2
    let whole : Prop := 8 ≤ octets.length ∧ 12 + len ≤ octets.length
    let checked : Prop := fieldAt octets (8 + len) 4 = (crc32 (octets.take (8 + len))).toNat
    let routed : Prop := family = 2 ∨ family = 1 ∧ lane ≤ 7 ∧ 1 ≤ kind ∧ kind ≤ 4
    let fitting : Prop := len ≤ 8192
      ∧ (family = 1 → lane ≤ 7 → (kind = 1 ∨ kind = 3 → len = 8) ∧ (kind = 4 → len = 0))
    (frameFinding octets = .checkFailure ↔ whole ∧ ¬ checked)
    ∧ (frameFinding octets = .lengthFault ↔ ¬ whole ∨ checked ∧ ¬ fitting)
    ∧ (frameFinding octets = .unknownKind ↔ whole ∧ checked ∧ fitting ∧ ¬ routed)
    ∧ (frameFinding octets = .sound .linkReset ↔ whole ∧ checked ∧ fitting ∧ family = 2 ∧ kind = 0)
    ∧ (∀ d, frameFinding octets = .sound (.directive d) ↔ whole ∧ checked ∧ fitting ∧ family = 2 ∧ kind ≠ 0
        ∧ d = { code := kind, tag := BitVec.ofNat 16 lane, payload := (octets.drop 8).take len })
    ∧ ∀ (l : LaneNo) (b : FileBody), frameFinding octets = .sound (.file l b) ↔
        whole ∧ checked ∧ fitting ∧ routed ∧ family = 1 ∧ lane = l.val
        ∧ b = (if kind = 1 then
              .opening (fieldAt octets 8 2) (fieldAt octets 10 2) (octetAt octets 12) (fieldAt octets 14 2)
            else if kind = 2 then .data ((octets.drop 8).take len)
            else if kind = 3 then .closing (fieldAt octets 8 4) (BitVec.ofNat 32 (fieldAt octets 12 4))
            else .aborting))
  ∧ (∀ (s : State) (octets : List Byte), s.port.link = .up → frameFinding octets = .sound .linkReset →
    exec (.frameArrival octets) s = exec .linkReset s
    ∧ ∃ t, exec (.frameArrival octets) s = .next t
      ∧ State.IntakeResetTo { s with port := { s.port with counters := { s.port.counters with
          received := min (s.port.counters.received + 1) 4294967295 } } } t)
  ∧ (∀ (s : State) (octets : List Byte),
    (s.port.link = .lost → exec (.frameArrival octets) s = .next s)
    ∧ (s.port.link = .up → frameFinding octets = .checkFailure → exec (.frameArrival octets) s = .next { s with
        port := { s.port with counters := { s.port.counters with
          checkFailures := min (s.port.counters.checkFailures + 1) 4294967295 } } })
    ∧ (s.port.link = .up → frameFinding octets = .lengthFault → exec (.frameArrival octets) s = .next { s with
        port := { s.port with counters := { s.port.counters with
          lengthFaults := min (s.port.counters.lengthFaults + 1) 4294967295 } } })
    ∧ (s.port.link = .up → frameFinding octets = .unknownKind → exec (.frameArrival octets) s = .next { s with
        port := { s.port with counters := { s.port.counters with
          unknownKinds := min (s.port.counters.unknownKinds + 1) 4294967295 } } }))
  ∧ ∀ (s : State) (octets : List Byte) (l : LaneNo) (b : FileBody),
    s.port.link = .up → frameFinding octets = .sound (.file l b) →
    exec (.frameArrival octets) s = .next
      (if s.port.fifo.length < 64 then
        ({ s with port := { s.port with
            fifo := s.port.fifo ++ [{ lane := l, body := b, arrival := s.clock.reading }]
            counters := { s.port.counters with received := min (s.port.counters.received + 1) 4294967295 } } } : State).withLane l
          { s.lane l with timer := none }
      else
        ({ s with port := { s.port with
            counters := { s.port.counters with
              received := min (s.port.counters.received + 1) 4294967295
              overruns := min (s.port.counters.overruns + 1) 4294967295 } } } : State).withLane l
          { s.lane l with timer := none, overrun := some ((s.lane l).overrun.getD s.port.fifo.length) })

/-- FRAME_ARRIVAL of a directive: it joins the Directive Queue while that holds fewer than 8; otherwise it is answered
BUSY and counted when a reply place is free for that (a place due to the decoder's next take is not, log entry 34), and
dropped and counted when none is. -/
def Obligations.DirectiveArrival : Prop :=
  ∀ (s : State) (octets : List Byte) (d : Directive),
    s.port.link = .up → frameFinding octets = .sound (.directive d) →
    let free := 16 - (s.port.replies.length + s.port.reserved.length) - (if s.port.placeDue then 1 else 0)
    let s1 : State := { s with port := { s.port with
      counters := { s.port.counters with received := min (s.port.counters.received + 1) 4294967295 } } }
    exec (.frameArrival octets) s = .next
      (if s.port.directives.length < 8 then
        { s1 with port := { s1.port with directives := s.port.directives ++ [d] } }
      else if 0 < free then
        ({ s1 with port := { s1.port with counters := { s1.port.counters with
            refusedFull := min (s.port.counters.refusedFull + 1) 4294967295 } } } : State).replied d.tag .busy false []
      else
        { s1 with port := { s1.port with counters := { s1.port.counters with
            dropped := min (s.port.counters.dropped + 1) 4294967295 } } })

/-- RETURN_FRAME_BEGIN: while the link is UP and no frame is being sent, the FLOW slot goes first, then the oldest reply,
then the notice the arbiter chooses (its flag and count cleared as it begins), then the RECORDS frame offered. The
arbiter in SILENT chooses none; otherwise the source it chooses is pending and enabled with the master enable set, and is
the promoted source in mode PROMOTE when that is sendable, or else the lowest-numbered such source; it chooses none only
when no source is sendable. -/
def Obligations.ReturnFrameOrder : Prop :=
  (∀ s : State,
    (s.port.link = .lost ∨ s.port.sending ≠ none → exec .returnFrameBegin s = .next s)
    ∧ (s.port.link = .up → s.port.sending = none →
      (∀ f, s.port.flowSlot = some f →
        exec .returnFrameBegin s = .next { s with port := { s.port with sending := some (.flow f), flowSlot := none } })
      ∧ (s.port.flowSlot = none →
        (∀ r rs, s.port.replies = r :: rs →
          exec .returnFrameBegin s = .next { s with port := { s.port with sending := some (.reply r true) } })
        ∧ (s.port.replies = [] →
          (∀ i, s.notices.choose = some i →
            exec .returnFrameBegin s = .next { s with
              port := { s.port with sending := some (.notice i (vget s.notices.sources i).count
                (vget s.notices.sources i).time (vget s.notices.sources i).snapshot) }
              notices := { s.notices with
                sources := vset s.notices.sources i ({ vget s.notices.sources i with flag := false, count := 0 }) } })
          ∧ (s.notices.choose = none →
            (∀ f fs, s.audit.output = f :: fs →
              exec .returnFrameBegin s = .next { s with port := { s.port with sending := some (.records f true) } })
            ∧ (s.audit.output = [] → exec .returnFrameBegin s = .next s))))))
  ∧ ∀ n : Notices,
    (n.mode = .silent → n.choose = none)
    ∧ (∀ i, n.choose = some i →
        (vget n.sources i).flag = true ∧ (vget n.sources i).enable = true ∧ n.master = true ∧ n.mode ≠ .silent
        ∧ (n.mode = .promote ∧ i = n.promoted
          ∨ ∀ j : Fin 8, j < i → ¬ ((vget n.sources j).flag = true ∧ (vget n.sources j).enable = true)))
    ∧ (n.mode = .promote → n.master = true → (vget n.sources n.promoted).flag = true →
        (vget n.sources n.promoted).enable = true → n.choose = some n.promoted)
    ∧ (n.choose = none → n.mode ≠ .silent → n.master = true →
        ∀ j, ¬ ((vget n.sources j).flag = true ∧ (vget n.sources j).enable = true))

/-- RETURN_FRAME_SENT: the frame is counted and the return direction is free. A reply leaves its place, which is due to
the decoder's next take when every place was taken and a directive waits (log entry 34); after a RECORDS frame the next
is offered, or the request leaves the Decode Queue and unpins its segment. -/
def Obligations.ReturnFrameSent : Prop :=
  ∀ (s : State) (f : Sending), s.port.sending = some f →
    let p : Port := { s.port with
      sending := none, counters := { s.port.counters with sent := min (s.port.counters.sent + 1) 4294967295 } }
    ((∀ r, f ≠ .reply r true) → (∀ g, f ≠ .records g true) → exec .returnFrameSent s = .next { s with port := p })
    ∧ (∀ r, f = .reply r true → exec .returnFrameSent s = .next { s with port := { p with
        replies := s.port.replies.tail
        placeDue := s.port.placeDue ||
          (decide (16 ≤ s.port.replies.length + s.port.reserved.length) && !s.port.directives.isEmpty) } })
    ∧ (∀ g, f = .records g true → s.audit.output.tail ≠ [] → exec .returnFrameSent s = .next { s with
        port := p, audit := { s.audit with output := s.audit.output.tail } })
    ∧ (∀ g r rs, f = .records g true → s.audit.output.tail = [] → s.audit.requests = r :: rs →
        exec .returnFrameSent s = .next { s with
          port := p
          audit := { s.audit with requests := rs, active := none, readBuffer := [], output := [] }
          dir := updateEntry r.segId (fun e => { e with pins := e.pins - 1 }) s.dir })

/-! ### The File Assembler -/

/-- TAKE_FILE_OPEN that a check of R8 refuses, on a lane with no file: the first check that fails gives the cause of
FILE_REFUSED, which carries the arrival time of the FILE_OPEN, and the lane becomes DISCARDING. -/
def Obligations.FileRefused : Prop :=
  ∀ (s : State) (l : LaneNo) (f : FileInfo) (arrival : Option Time) (rest : List FileFrame) (c : RefuseCause),
    s.TakesFrame l (.opening f.source f.day f.slot f.seq) arrival rest →
    ((s.lane l).state = .idle ∨ (s.lane l).state = .discarding) →
    (let entry := vgetD s.tracker.sources f.source SourceEntry.reset
     let expected : Nat := match s.record? f.source f.day with
       | some r => r.expected
       | none => match (s.day? f.day).bind (fun d => d.retired.find? (·.source = f.source)) with
         | some i => i.expected
         | none => entry.filesPerDay
     (if s.engine ≠ .running ∨ s.builder.nextId = none then some RefuseCause.notReady
      else if entry.active = false then some .unknownSource
      else if expected ≤ f.slot then some .slotRange
      else if s.now.day + 1 < f.day then some .future
      else if f.day + s.tracker.policy.acceptWindow < s.now.day ∧ s.isSettled f.day = false then some .stale
      else if s.isSettled f.day = false ∧ s.day? f.day = none ∧ 64 ≤ s.tracker.days.length then some .dayTableFull
      else if s.isSettled f.day = false ∧ s.record? f.source f.day = none ∧ 4096 ≤ s.tracker.records.length then
        some .continuityFull
      else none) = some c) →
    let s1 := s.popped rest
    exec .takeFileOpen s = .next
      ((s1.recorded { s.about .fileRefused .point (some (.refuse c)) f none with time := arrival }).withLane l
        { s1.lane l with state := .discarding, file := none, reason := none, appended := 0, rejected := 0, timer := none })

/-- TAKE_FILE_OPEN accepted: the lane takes the file's facts and the digest's first value. A settled day routes it
SUSPECT as SETTLED, an occupied slot as OCCUPIED, a slot IN_PROGRESS as IN_PROGRESS, any other slot RECEIVING. Nothing
but the frame, the lane, the tracker and the audit trail changes.
The open outcome of a normally routed file whose slot is MISSING or WAIVED in an existing record, with the sequence
expected or none expected: the slot is IN_PROGRESS, held by the lane with its prior state kept, the day counts one more
file in progress, and the source expects the next sequence. Also with any sequence (R25), and of a suspect file, which
the record's open suspect files count. In a settled day the sequence alone is taken. Where no record exists, the day's
entry is made where it has none, and the record: COLLECTING in an OPEN day, RECONCILING in a CLOSED one, there restored
from the retired list, or new with every other slot an opened gap. -/
def Obligations.FileAccepted : Prop :=
  (∀ (s : State) (l : LaneNo) (f : FileInfo) (arrival : Option Time) (rest : List FileFrame),
    s.TakesFrame l (.opening f.source f.day f.slot f.seq) arrival rest →
    ((s.lane l).state = .idle ∨ (s.lane l).state = .discarding) → s.refusal f = none →
    let reason : Option Routing :=
      if s.isSettled f.day then some .settled
      else match (s.record? f.source f.day).bind (fun r => r.slots[f.slot]?) with
        | none => none
        | some x => if x.state = .received ∨ x.state = .defective then some .occupied
          else if x.state = .inProgress then some .inProgress else none
    let s1 := s.popped rest
    ∃ t, exec .takeFileOpen s = .next t
      ∧ t = { s1 with asm := t.asm, tracker := t.tracker, audit := t.audit, notices := t.notices }
      ∧ t.asm = { s1.asm with lanes := vset s1.asm.lanes l ({ s1.lane l with
          state := if reason = none then .receiving else .suspect, file := some f, reason := reason,
          digest := 0xFFFFFFFF#32, appended := 0, rejected := 0, timer := s1.timerAfter l }) })
  ∧ (∀ (s : State) (l : LaneNo) (f : FileInfo) (arrival : Option Time) (rest : List FileFrame) (d : DayEntry)
    (r : ContRecord) (x : Slot),
    s.TakesFrame l (.opening f.source f.day f.slot f.seq) arrival rest →
    ((s.lane l).state = .idle ∨ (s.lane l).state = .discarding) → s.refusal f = none → s.isSettled f.day = false →
    s.day? f.day = some d → s.record? f.source f.day = some r → r.slots[f.slot]? = some x →
    (x.state = .missing ∨ x.state = .waived) →
    ((s.source f.source).expected = none ∨ (s.source f.source).expected = some f.seq ∧ f.seq < 65536) →
    ∃ t, exec .takeFileOpen s = .next t ∧ t.audit = s.audit ∧ t.notices = s.notices
      ∧ t.tracker = { s.tracker with
          records := s.tracker.records.map fun y => if y.source = f.source ∧ y.day = f.day then
            { y with slots := y.slots.modify f.slot fun z =>
              { z with state := .inProgress, holder := some l, prior := some z.state, facts := none } } else y
          days := s.tracker.days.map fun y => if y.day = f.day then { y with inProgress := y.inProgress + 1 } else y
          sources := vmod s.tracker.sources f.source fun z => { z with expected := some ((f.seq + 1) % 65536) } })
  ∧ ∀ (s : State) (l : LaneNo) (f : FileInfo) (arrival : Option Time) (rest : List FileFrame),
    s.TakesFrame l (.opening f.source f.day f.slot f.seq) arrival rest →
    ((s.lane l).state = .idle ∨ (s.lane l).state = .discarding) → s.refusal f = none →
    let took (x : Slot) : Slot :=
      { x with state := .inProgress, holder := some l, prior := some x.state, facts := none }
    let blank : Slot := { state := .missing, holder := none, prior := none, facts := none, gapOpen := false }
    (s.isSettled f.day = true → ∃ t, exec .takeFileOpen s = .next t
      ∧ t.tracker = (s.sequenced f).tracker ∧ t.audit = (s.sequenced f).audit ∧ t.notices = (s.sequenced f).notices)
    ∧ (∀ r, s.isSettled f.day = false → s.day? f.day ≠ none → s.record? f.source f.day = some r →
      let suspect : Bool := (s.slotOf f).any fun x => x.state = .received || x.state = .defective || x.state = .inProgress
      let u := ((s.withRecord f fun y => if suspect then { y with suspects := y.suspects + 1 }
          else { y with slots := y.slots.modify f.slot took }).withDay f.day fun y =>
        { y with inProgress := y.inProgress + 1 }).sequenced f
      ∃ t, exec .takeFileOpen s = .next t ∧ t.tracker = u.tracker ∧ t.audit = u.audit ∧ t.notices = u.notices)
    ∧ (s.isSettled f.day = false → s.record? f.source f.day = none →
      let d := s.dayFor f.day
      let item := d.retired.find? (·.source = f.source)
      let n : Nat := (s.source f.source).filesPerDay
      let fresh : ContRecord :=
        { source := f.source, day := f.day, expected := n, slots := List.replicate n blank, state := .collecting
          archived := 0, rejected := 0, duplicates := 0, conflicts := 0, suspects := 0 }
      let made : ContRecord := if d.state = .opened then fresh
        else match item with
          | some i => { fresh with
              state := .reconciling, expected := i.expected, archived := i.archived, rejected := i.rejected
              duplicates := i.duplicates, conflicts := i.conflicts
              slots := List.replicate i.expected { blank with state := .received } }
          | none => { fresh with
              state := .reconciling
              slots := (List.range n).map fun i => { blank with gapOpen := decide (i ≠ f.slot) } }
      let gaps : List AuditEvent := if d.state = .opened ∨ item ≠ none then []
        else ((List.range n).filter (· ≠ f.slot)).map fun i => s.about .gap .opened none { f with slot := i } none
      let v := (gaps.foldl State.recorded s).sequenced f
      ∃ t, exec .takeFileOpen s = .next t
        ∧ t.record? f.source f.day = some { made with slots := made.slots.modify f.slot took }
        ∧ (∀ a b, a ≠ f.source ∨ b ≠ f.day → t.record? a b = s.record? a b)
        ∧ t.day? f.day = some { d with
            live := d.live + 1, inProgress := d.inProgress + 1
            retired := if d.state = .opened then d.retired else d.retired.filter (·.source ≠ f.source) }
        ∧ (∀ b, b ≠ f.day → t.day? b = s.day? b)
        ∧ t.tracker.sources = v.tracker.sources ∧ t.tracker.settled = s.tracker.settled
        ∧ t.tracker.policy = s.tracker.policy ∧ t.audit = v.audit ∧ t.notices = v.notices)

/-- A frame other than FILE_OPEN on an IDLE lane is stray; on a DISCARDING lane it is discarded, and FILE_CLOSE and
FILE_ABORT return the lane to IDLE. Both counters saturate, are 0 after power-on, kept across both resets and returned by
READ STATUS. An overrun mark taken makes an IDLE lane DISCARDING and leaves a DISCARDING one so (R21); that a mark not due,
or a stall, takes nothing is log entry 1. -/
def Obligations.StrayAndDiscardedFrames : Prop :=
  (∀ (s : State) (l : LaneNo) (arrival : Option Time) (rest : List FileFrame) (payload : List Byte) (declared : Nat)
    (crc : Crc),
    let s1 := s.popped rest
    let stray : State := { s1 with asm := { s1.asm with stray := min (s.asm.stray + 1) 4294967295 } }
    let dropped : State := { s1 with asm := { s1.asm with discarded := min (s.asm.discarded + 1) 4294967295 } }
    let idle : Lane :=
      { s1.lane l with state := .idle, file := none, reason := none, appended := 0, rejected := 0, timer := none }
    ((s.lane l).state = .idle →
      (s.TakesFrame l (.data payload) arrival rest → exec .takeFileData s = .next stray)
      ∧ (s.TakesFrame l (.closing declared crc) arrival rest → exec .takeFileClose s = .next stray)
      ∧ (s.TakesFrame l .aborting arrival rest → exec .takeFileAbort s = .next stray))
    ∧ ((s.lane l).state = .discarding →
      (s.TakesFrame l (.data payload) arrival rest → exec .takeFileData s = .next dropped)
      ∧ (s.TakesFrame l (.closing declared crc) arrival rest → exec .takeFileClose s = .next (dropped.withLane l idle))
      ∧ (s.TakesFrame l .aborting arrival rest → exec .takeFileAbort s = .next (dropped.withLane l idle))))
  ∧ (∀ (s : State) (l : LaneNo),
    (s.asm.hand = none → (s.lane l).overrun = some 0 → (s.lane l).state = .idle →
      exec (.overrunMarkTaken l) s = .next (s.withLane l
        { s.lane l with state := .discarding, overrun := none, file := none, reason := none, appended := 0,
                        rejected := 0, timer := none }))
    ∧ (s.asm.hand = none → (s.lane l).overrun = some 0 → (s.lane l).state = .discarding →
      exec (.overrunMarkTaken l) s = .next (s.withLane l { s.lane l with overrun := none }))
    ∧ (s.asm.hand ≠ none ∨ (s.lane l).overrun ≠ some 0 → exec (.overrunMarkTaken l) s = .next s))
  ∧ (∀ s : State, ∃ t, exec .powerOn s = .next t ∧ t.asm.stray = 0 ∧ t.asm.discarded = 0)
  ∧ (∀ s : State, ∀ c ∈ [Instr.resetInput, .engineReset, .linkReset, .linkLoss, .intakeReset],
    ∃ t, exec c s = .next t ∧ t.asm.stray = s.asm.stray ∧ t.asm.discarded = s.asm.discarded)
  ∧ ∀ (s : State) (tag : Tag) (rest : List Directive), s.Takes 0x1C tag [] rest →
    ∃ before after, exec .readStatus s = .next ((s.took rest).replied tag .done false
      (before ++ be 4 s.asm.stray ++ be 4 s.asm.discarded ++ after))

/-- TAKE_FILE_DATA and STALL_END lose no record: with those the assembler still holds, the appended and rejected counts of
the lane account for every record of the frame (saturating: log entry 42), the file stays open, the digest covers the payload
once none is held, and nothing changes but the assembler, the flow state and the blocks that store records. GO turns PAUSE,
with a FLOW frame, when a segment opened brings the buffers in use to 30. While a LOAD TYPE MAP or LOAD CLASSES waits that
the decoder can take, one record is taken at a time (R5; log entry 32), and TAKE_FILE_DATA goes on with a frame kept
part-way. A record that fails a test of R1 is counted on its lane and by the cause of the first test it fails; its octets are
part of the digest, and nothing is archived. Here: a frame of one record. -/
def Obligations.NoRecordIsLost : Prop :=
  (∀ (s : State) (l : LaneNo),
    (∀ payload arrival rest, s.TakesFrame l (.data payload) arrival rest →
      ((s.lane l).state = .receiving ∨ (s.lane l).state = .suspect) →
      payload ≠ [] → payload.length % 49 = 0 → payload.length ≤ 8183 →
      ∃ t a r, exec .takeFileData s = .next t ∧ a + r + t.awaiting l = payload.length / 49
        ∧ (t.lane l).appended = counted (s.lane l).appended a ∧ (t.lane l).rejected = counted (s.lane l).rejected r
        ∧ (t.asm.hand = none → (t.lane l).digest = crcTake (s.lane l).digest payload)
        ∧ (t.lane l).state = (s.lane l).state ∧ (t.lane l).file = (s.lane l).file
        ∧ (∀ m, m ≠ l → t.lane m = (s.popped rest).lane m)
        ∧ t = { s with port := t.port, asm := t.asm, builder := t.builder, dir := t.dir, commit := t.commit }
        ∧ t.port = { s.port with fifo := rest, flow := t.port.flow, flowSlot := t.port.flowSlot } ∧ s.FlowFollows t
        ∧ (s.loadDue = true → a + r ≤ 1) ∧ (s.loadDue = false → ∀ h, t.asm.hand = some h → h.cause ≠ .between))
    ∧ (∀ h, s.asm.hand = some h → h.lane = l → ∃ t a r, exec .stallEnd s = .next t
        ∧ a + r + t.awaiting l = 1 + h.rest.length
        ∧ (t.lane l).appended = counted (s.lane l).appended a ∧ (t.lane l).rejected = counted (s.lane l).rejected r
        ∧ (t.lane l).state = (s.lane l).state ∧ (t.lane l).file = (s.lane l).file
        ∧ (∀ m, m ≠ l → t.lane m = s.lane m)
        ∧ t = { s with port := t.port, asm := t.asm, builder := t.builder, dir := t.dir, commit := t.commit }
        ∧ t.port = { s.port with flow := t.port.flow, flowSlot := t.port.flowSlot } ∧ s.FlowFollows t)
    ∧ (∀ h, s.asm.hand = some h → h.lane = l → h.cause = .between → ∃ t a r, exec .takeFileData s = .next t
        ∧ a + r + t.awaiting l = 1 + h.rest.length ∧ (s.loadDue = true → a + r ≤ 1)
        ∧ (t.lane l).appended = counted (s.lane l).appended a ∧ (t.lane l).rejected = counted (s.lane l).rejected r
        ∧ (t.asm.hand = none → (t.lane l).digest = crcTake (s.lane l).digest (h.record ++ h.rest.flatten))
        ∧ (t.lane l).state = (s.lane l).state ∧ (t.lane l).file = (s.lane l).file
        ∧ (∀ m, m ≠ l → t.lane m = s.lane m)
        ∧ t = { s with port := t.port, asm := t.asm, builder := t.builder, dir := t.dir, commit := t.commit }
        ∧ t.port = { s.port with flow := t.port.flow, flowSlot := t.port.flowSlot } ∧ s.FlowFollows t
        ∧ (s.loadDue = false → ∀ h', t.asm.hand = some h' → h'.cause ≠ .between)))
  ∧ ∀ (s : State) (l : LaneNo) (r : List Byte) (arrival : Option Time) (rest : List FileFrame) (c : Rejection),
    s.TakesFrame l (.data r) arrival rest → ((s.lane l).state = .receiving ∨ (s.lane l).state = .suspect) →
    r.length = 49 → validate r = some c →
    let s1 := s.popped rest
    let n (cause : Rejection) (old : Nat) : Nat := if c = cause then min (old + 1) 4294967295 else old
    exec .takeFileData s = .next { s1 with asm := { s1.asm with
      presence := n .presence s.asm.presence, startRange := n .startRange s.asm.startRange
      digits := n .digits s.asm.digits, pad := n .pad s.asm.pad
      lanes := vset s1.asm.lanes l ({ s1.lane l with
        digest := crcTake (s.lane l).digest r, rejected := min ((s.lane l).rejected + 1) 4294967295
        timer := if s1.port.fifo.all (fun f => f.lane ≠ l) && (s1.lane l).overrun.isNone then s1.timerAfter l
          else (s.lane l).timer }) } }

/-- A valid record of a file has the class R4 gives it (15 on a SUSPECT lane, 14 with no usable class). In the class's
OPEN segment for the day, which holds a run of the file and has room, its coded octets are appended to the run, the run
counts it, the context and the digest register take it, the placement number rises (the record has the risen value: log
entry 18), and the lane counts it (saturating: log entry 42). Where the segment holds no run of the file, one begins with
the context reset. A record that does not fit first seals the segment FULL, or RUNS where it would begin a 33rd run, and
opens a new one with a CONTINUED run. -/
def Obligations.RecordAppended : Prop :=
  ∀ (s : State) (l : LaneNo) (r : List Byte) (arrival : Option Time) (rest : List FileFrame) (f : FileInfo)
    (cls : ClassNo) (x : IndexEntry) (e : SegEntry) (b : Buffer),
    s.TakesFrame l (.data r) arrival rest → ((s.lane l).state = .receiving ∨ (s.lane l).state = .suspect) →
    (s.lane l).file = some f → r.length = 49 → validate r = none → s.classOf l (octetAt r 0) = cls →
    s.builder.openIndex.find? (fun y => y.cls = cls ∧ y.day = f.day) = some x →
    s.entry? x.segId = some e → s.buffer? x.segId = some b →
    let at? := e.runs.findIdx? (fun y => y.lane = some l)
    (∀ i bits ctx, at? = some i → b.runs[i]? = some bits → bits.ctx = some ctx →
      let coded := codeRecord ctx b.dict (readRecord r)
      e.payloadLen + coded.length ≤ 1048064 →
      ∃ t, exec .takeFileData s = .next t
        ∧ t.entry? x.segId = some { e with
            payloadLen := e.payloadLen + coded.length
            runs := e.runs.modify i fun y => { y with count := y.count + 1 } }
        ∧ t.buffer? x.segId = some { b with
            lastPlacement := s.builder.placement + 1
            runs := b.runs.modify i fun y =>
              { coded := y.coded ++ coded, ctx := some (Ctx.after (readRecord r)), reg := y.reg.map fun g => crcTake g r } }
        ∧ (∀ id, id ≠ x.segId → t.entry? id = s.entry? id ∧ t.buffer? id = s.buffer? id)
        ∧ t.builder = { s.builder with buffers := t.builder.buffers, placement := s.builder.placement + 1 }
        ∧ (t.lane l).appended = min ((s.lane l).appended + 1) 4294967295 ∧ (t.lane l).rejected = (s.lane l).rejected
        ∧ (t.lane l).digest = crcTake (s.lane l).digest r
        ∧ t = { s.popped rest with asm := t.asm, builder := t.builder, dir := t.dir }
        ∧ t.asm = { s.asm with lanes := t.asm.lanes })
    ∧ (let coded := codeRecord Ctx.reset b.dict (readRecord r)
      at? = none → e.runs.length < 32 → e.payloadLen + 16 + coded.length ≤ 1048064 →
      ∃ t, exec .takeFileData s = .next t
        ∧ t.entry? x.segId = some { e with
            payloadLen := e.payloadLen + 16 + coded.length
            runs := e.runs ++ [{ source := f.source, slot := f.slot, status := .provisional,
                                 continued := s.runElsewhere l cls x.segId, count := 1, digest := none,
                                 firstSeq := (readRecord r).seq, lane := some l }] }
        ∧ t.buffer? x.segId = some { b with
            lastPlacement := s.builder.placement + 1
            runs := b.runs ++ [{ coded := coded, ctx := some (Ctx.after (readRecord r))
                                 reg := some (crcTake 0xFFFFFFFF#32 r) }] }
        ∧ (∀ id, id ≠ x.segId → t.entry? id = s.entry? id ∧ t.buffer? id = s.buffer? id)
        ∧ t.builder = { s.builder with buffers := t.builder.buffers, placement := s.builder.placement + 1 }
        ∧ (t.lane l).appended = min ((s.lane l).appended + 1) 4294967295 ∧ (t.lane l).rejected = (s.lane l).rejected
        ∧ (t.lane l).digest = crcTake (s.lane l).digest r
        ∧ t = { s.popped rest with asm := t.asm, builder := t.builder, dir := t.dir }
        ∧ t.asm = { s.asm with lanes := t.asm.lanes })
    ∧ ∀ id,
      let reason : SealReason := if at? = none ∧ 32 ≤ e.runs.length then .runs else .full
      let coded : List Byte := match at? with
        | some i => codeRecord (((b.runs[i]?).bind BufRun.ctx).getD Ctx.reset) b.dict (readRecord r)
        | none => codeRecord Ctx.reset b.dict (readRecord r)
      ((at? = none ∧ 32 ≤ e.runs.length)
        ∨ 1048064 < e.payloadLen + (if at? = none then 16 else 0) + coded.length) →
      e.state = .opened → s.countState .opened ≤ 24 → s.canOpen cls r id →
      ∃ v t, ((s.popped rest).withLane l { (s.popped rest).lane l with
            digest := crcTake (s.lane l).digest r }).SealedTo x.segId reason v
        ∧ exec .takeFileData s = .next t ∧ v.OpenedFor l cls f r id true t

/-- STALL_END for a record that waited for a buffer or a Directory place, its class and day having no OPEN segment:
once there is room a new segment opens with the next id, the record is the first of its first run (with the risen
placement number: log entry 18), and the stall is over; with 24 segments OPEN, that whose last placement number is lowest
is sealed CROWDED first. A record taken from its frame, its class and day having no OPEN segment, opens one likewise, or
stalls, its octets in the digest: with the ids exhausted, the Directory full, or every buffer in use (then behind the CROWDED
seal, where one is due). The buffer taken may bring the flow state from GO to PAUSE, with its FLOW frame. The lane's appended
count stops at 4,294,967,295: log entry 42. -/
def Obligations.StallEndOpensASegment : Prop :=
  (∀ (s : State) (h : Hand) (f : FileInfo) (id : Nat),
    s.asm.hand = some h → h.rest = [] → (h.cause = .buffer ∨ h.cause = .directory) →
    (s.lane h.lane).file = some f → s.builder.nextId = some id → s.entry? id = none → s.buffer? id = none →
    s.builder.buffers.length < 32 → s.dir.length < 4194304 → s.countState .opened < 24 →
    s.builder.openIndex.find? (fun y => y.cls = h.cls ∧ y.day = f.day) = none →
    let g := (vget s.tables.classes h.cls).group
    let dict := vget s.tables.dict g
    let rec1 := readRecord h.record
    let coded := codeRecord Ctx.reset dict.prefixes rec1
    16 + coded.length ≤ 1048064 →
    ∃ t, exec .stallEnd s = .next t
      ∧ t.entry? id = some
          { id := id, cls := h.cls, day := f.day, state := .opened, group := g.val, generation := dict.generation,
            place := none, payloadLen := 16 + coded.length, recordCount := 0,
            runs := [{ source := f.source, slot := f.slot, status := .provisional,
                       continued := h.turnedAway || s.dir.any fun y => y.cls = h.cls && y.runs.any (·.lane = some h.lane),
                       count := 1, digest := none, firstSeq := rec1.seq, lane := some h.lane }],
            segDigest := none, sealReason := none, attempts := 0, verifyCount := 0, lastVerified := none,
            suspect := false, pins := 0 }
      ∧ t.buffer? id = some
          { segId := id, dict := dict.prefixes, lastPlacement := s.builder.placement + 1,
            runs := [{ coded := coded, ctx := some (Ctx.after rec1), reg := some (crcTake 0xFFFFFFFF#32 h.record) }] }
      ∧ (∀ j, j ≠ id → t.entry? j = s.entry? j ∧ t.buffer? j = s.buffer? j)
      ∧ t.builder.nextId = (if id = 4294967295 ∨ 4294967295 < id then none else some (id + 1))
      ∧ t.builder.opened = s.builder.opened + 1 ∧ t.builder.placement = s.builder.placement + 1
      ∧ t.builder.openIndex = s.builder.openIndex ++ [{ cls := h.cls, day := f.day, segId := id }]
      ∧ t.asm.hand = none ∧ (t.lane h.lane).appended = min ((s.lane h.lane).appended + 1) 4294967295
      ∧ t.port = ({ s with builder := t.builder } : State).flowTested.port
      ∧ t = { s with port := t.port, asm := t.asm, builder := t.builder, dir := t.dir })
  ∧ (∀ (s : State) (h : Hand) (f : FileInfo) (id : Nat) (old : Buffer) (e : SegEntry),
    s.asm.hand = some h → h.rest = [] → (h.cause = .buffer ∨ h.cause = .directory) →
    (s.lane h.lane).file = some f → s.canOpen h.cls h.record id →
    s.builder.openIndex.find? (fun y => y.cls = h.cls ∧ y.day = f.day) = none → 24 ≤ s.countState .opened →
    old ∈ s.builder.buffers → e ∈ s.dir → e.id = old.segId → e.state = .opened →
    (∀ b ∈ s.builder.buffers, (∃ y ∈ s.dir, y.id = b.segId ∧ y.state = .opened) →
      b.segId = old.segId ∨ old.lastPlacement < b.lastPlacement) →
    ∃ v t, s.SealedTo old.segId .crowded v ∧ exec .stallEnd s = .next t
      ∧ v.OpenedFor h.lane h.cls f h.record id (h.turnedAway || s.runElsewhere h.lane h.cls id) t)
  ∧ ∀ (s : State) (l : LaneNo) (r : List Byte) (arrival : Option Time) (rest : List FileFrame) (f : FileInfo)
    (cls : ClassNo),
    s.TakesFrame l (.data r) arrival rest → ((s.lane l).state = .receiving ∨ (s.lane l).state = .suspect) →
    (s.lane l).file = some f → r.length = 49 → validate r = none → s.classOf l (octetAt r 0) = cls →
    s.builder.openIndex.find? (fun y => y.cls = cls ∧ y.day = f.day) = none →
    let u := (s.popped rest).withLane l { (s.popped rest).lane l with digest := crcTake (s.lane l).digest r }
    let stalledIn (v : State) (cause : StallCause) : State := { v with asm := { v.asm with
      hand := some { lane := l, record := r, cls := cls, turnedAway := false, rest := [], cause := cause } } }
    (s.builder.nextId = none → exec .takeFileData s = .next (stalledIn u .ids))
    ∧ (s.builder.nextId ≠ none → 4194304 ≤ s.dir.length → exec .takeFileData s = .next (stalledIn u .directory))
    ∧ (s.countState .opened < 24 →
      (s.builder.nextId ≠ none → s.dir.length < 4194304 → 32 ≤ s.builder.buffers.length →
        exec .takeFileData s = .next (stalledIn u .buffer))
      ∧ ∀ id, s.canOpen cls r id →
        ∃ t, exec .takeFileData s = .next t ∧ u.OpenedFor l cls f r id (s.runElsewhere l cls id) t)
    ∧ ∀ (old : Buffer) (e : SegEntry), 24 ≤ s.countState .opened →
      old ∈ s.builder.buffers → e ∈ s.dir → e.id = old.segId → e.state = .opened →
      (∀ b ∈ s.builder.buffers, (∃ y ∈ s.dir, y.id = b.segId ∧ y.state = .opened) →
        b.segId = old.segId ∨ old.lastPlacement < b.lastPlacement) →
      (s.builder.nextId ≠ none → s.dir.length < 4194304 → 32 ≤ s.builder.buffers.length →
        ∃ v, u.SealedTo old.segId .crowded v ∧ exec .takeFileData s = .next (stalledIn v .buffer))
      ∧ ∀ id, s.canOpen cls r id →
        ∃ v t, u.SealedTo old.segId .crowded v ∧ exec .takeFileData s = .next t
          ∧ v.OpenedFor l cls f r id (s.runElsewhere l cls id) t

/-- TAKE_FILE_CLOSE of a normally routed file whose digest agrees, in an OPEN day: the slot is RECEIVED, or DEFECTIVE
when a record was rejected or the counts do not add up to the declared one; it stores digest, sequence and arrival; the
record's counts and the day's take the file; late and defect events are raised; the lane is IDLE. In a day of any state
the retirement and settlement tests follow. The file's runs are resolved, with what becomes of their segments (the order of the
segments: log entry 41). On a SUSPECT lane the file is judged by its slot as it stands: a late file in a
settled day, else a duplicate or a conflict, with its counters and event, and the tests follow. -/
def Obligations.FileClosed : Prop :=
  (∀ (s : State) (l : LaneNo) (declared : Nat) (crc : Crc) (arrival : Option Time) (rest : List FileFrame) (f : FileInfo)
    (r : ContRecord) (x : Slot) (d : DayEntry),
    s.TakesFrame l (.closing declared crc) arrival rest → (s.lane l).state = .receiving →
    (s.lane l).file = some f → (s.lane l).reason = none → crc = ~~~ (s.lane l).digest →
    s.record? f.source f.day = some r → r.slots[f.slot]? = some x → s.day? f.day = some d → d.state = .opened →
    let lane := s.lane l
    let defective : Bool := 0 < lane.rejected || lane.appended + lane.rejected ≠ declared
    let late : List AuditEvent := if x.prior = some .waived ∨ x.gapOpen = true then
      [s.about .gap .closed (some .late) f none] else []
    let defect : List AuditEvent := if defective then
      [s.about .defect .opened (some (if 0 < lane.rejected then .rejected else .count)) f (some declared)] else []
    ∃ t, exec .takeFileClose s = .next t
      ∧ t.tracker = { s.tracker with
          records := s.tracker.records.map fun y => if y.source = f.source ∧ y.day = f.day then
            { y with
              slots := y.slots.modify f.slot fun _ =>
                { state := if defective then .defective else .received, holder := none, prior := none,
                  facts := some { digest := crc, seq := f.seq, arrival := arrival }, gapOpen := false }
              archived := y.archived + lane.appended
              rejected := min (y.rejected + lane.rejected) 281474976710655 } else y
          days := s.tracker.days.map fun y => if y.day = f.day then { y with inProgress := y.inProgress - 1 } else y }
      ∧ t.audit = ((late ++ defect).foldl State.recorded s).audit
      ∧ t.notices = ((late ++ defect).foldl State.recorded s).notices
      ∧ t.asm = { (s.popped rest).asm with lanes := vset (s.popped rest).asm.lanes l ({ (s.popped rest).lane l with
          state := .idle, file := none, reason := none, appended := 0, rejected := 0, timer := none }) }
      ∧ (∀ e ∈ t.dir, ∀ y ∈ e.runs, y.lane ≠ some l) ∧ (s.popped rest).RunsResolved l .firm t
      ∧ t = { s with port := t.port, asm := t.asm, tracker := t.tracker, builder := t.builder, dir := t.dir,
                     commit := t.commit, audit := t.audit, notices := t.notices }
      ∧ t.port.fifo = rest)
  ∧ ∀ (s : State) (l : LaneNo) (declared : Nat) (crc : Crc) (arrival : Option Time) (rest : List FileFrame)
    (f : FileInfo),
    s.TakesFrame l (.closing declared crc) arrival rest →
    ((s.lane l).state = .receiving ∨ (s.lane l).state = .suspect) →
    (s.lane l).file = some f → crc = ~~~ (s.lane l).digest →
    let lane := s.lane l
    let before := (s.slotOf f).getD { state := .missing, holder := none, prior := none, facts := none, gapOpen := false }
    let defective : Bool := 0 < lane.rejected || lane.appended + lane.rejected ≠ declared
    let late : List AuditEvent := if before.prior = some .waived ∨ before.gapOpen = true then
      [s.about .gap .closed (some .late) f none] else []
    let defect : List AuditEvent := if defective then
      [s.about .defect .opened (some (if 0 < lane.rejected then .rejected else .count)) f (some declared)] else []
    let normal : State := ((late ++ defect).foldl State.recorded (s.withRecord f fun y => { y with
      slots := y.slots.modify f.slot fun _ =>
        { state := if defective then .defective else .received, holder := none, prior := none,
          facts := some { digest := crc, seq := f.seq, arrival := arrival }, gapOpen := false }
      archived := y.archived + lane.appended
      rejected := min (y.rejected + lane.rejected) 281474976710655 })).oneEnds f.day
    let u : State := match lane.reason with
      | none => normal
      | some why => s.judged f crc why
    ∃ t, exec .takeFileClose s = .next t ∧ t.tracker = u.tracker ∧ t.audit = u.audit ∧ t.notices = u.notices
      ∧ t.asm = { (s.popped rest).asm with lanes := vset (s.popped rest).asm.lanes l ({ (s.popped rest).lane l with
          state := .idle, file := none, reason := none, appended := 0, rejected := 0, timer := none }) }
      ∧ (∀ e ∈ t.dir, ∀ y ∈ e.runs, y.lane ≠ some l)
      ∧ (s.popped rest).RunsResolved l
          (if (lane.reason = some .occupied ∨ lane.reason = some .inProgress) ∧ s.isDuplicate f crc = true then .void
            else .firm) t
      ∧ t = { s with port := t.port, asm := t.asm, tracker := t.tracker, builder := t.builder, dir := t.dir,
                     commit := t.commit, audit := t.audit, notices := t.notices }
      ∧ t.port.fifo = rest

/-- The end of a file resolves its runs wherever they stand: FIRM at a close of a normally routed file, adding their
counts to the record counts of their segments, VOID at an abort; other runs and counts stay, and no entry is made. On a
SUSPECT lane a late file and a conflict turn FIRM, a duplicate and an aborted file VOID. Each segment is tested then: OPEN or
HELD with every run VOID it is discarded, a waiting FLUSH counting it; HELD with its last PROVISIONAL run gone it becomes
SEALED in its place; OPEN with none in a day no longer OPEN it is sealed. The ascending order of the segments is log entry
41. -/
def Obligations.EndOfFileResolvesRuns : Prop :=
  (∀ (s : State) (l : LaneNo) (f : FileInfo) (arrival : Option Time) (rest : List FileFrame),
    (s.lane l).state = .receiving → (s.lane l).file = some f → (s.lane l).reason = none →
    (∀ declared crc, s.TakesFrame l (.closing declared crc) arrival rest → crc = ~~~ (s.lane l).digest →
      ∃ t, exec .takeFileClose s = .next t ∧ (s.popped rest).RunsResolved l .firm t)
    ∧ (s.TakesFrame l .aborting arrival rest →
      ∃ t, exec .takeFileAbort s = .next t ∧ (s.popped rest).RunsResolved l .void t))
  ∧ ∀ (s : State) (l : LaneNo) (f : FileInfo) (why : Routing) (arrival : Option Time) (rest : List FileFrame),
    (s.lane l).state = .suspect → (s.lane l).file = some f → (s.lane l).reason = some why →
    (∀ declared crc, s.TakesFrame l (.closing declared crc) arrival rest → crc = ~~~ (s.lane l).digest →
      ∃ t, exec .takeFileClose s = .next t
        ∧ (s.popped rest).RunsResolved l (if why ≠ .settled ∧ s.isDuplicate f crc = true then .void else .firm) t)
    ∧ (s.TakesFrame l .aborting arrival rest →
      ∃ t, exec .takeFileAbort s = .next t ∧ (s.popped rest).RunsResolved l .void t)

/-- The aborts of R17 by the command that makes them: FILE_ABORT (ABORTED, IDLE), a malformed FILE_DATA (FORMAT,
DISCARDING), a FILE_CLOSE whose digest differs (CORRUPT, IDLE), a lane idle timer at its expiry time (STALLED,
DISCARDING), an overrun mark taken (OVERRUN, DISCARDING), and a FILE_OPEN on the lane (SUPERSEDED), which is then taken
as on an IDLE lane. Each voids the file's runs, gives the slot back with the tests of the day, and raises FILE_ABORTED
last (its place after the tracker's events is log entry 17). -/
def Obligations.FileAborted : Prop :=
  ∀ (s : State) (l : LaneNo) (f : FileInfo),
    ((s.lane l).state = .receiving ∨ (s.lane l).state = .suspect) → (s.lane l).file = some f →
    (∀ arrival rest, s.TakesFrame l .aborting arrival rest →
      ∃ t, exec .takeFileAbort s = .next t ∧ (s.popped rest).AbortedTo l f .aborted .idle t)
    ∧ (∀ payload arrival rest, s.TakesFrame l (.data payload) arrival rest →
        (payload = [] ∨ payload.length % 49 ≠ 0 ∨ 8183 < payload.length) →
      ∃ t, exec .takeFileData s = .next t ∧ (s.popped rest).AbortedTo l f .format .discarding t)
    ∧ (∀ declared crc arrival rest, s.TakesFrame l (.closing declared crc) arrival rest → crc ≠ ~~~ (s.lane l).digest →
      ∃ t, exec .takeFileClose s = .next t ∧ (s.popped rest).AbortedTo l f .corrupt .idle t)
    ∧ (∀ due now, (s.lane l).timer = some due → s.clock.reading = some now → s.clock.mode = .running →
        due ≤ now.day * 86400 + now.second →
      ∃ t, exec (.laneIdleTimerExpiry l) s = .next t ∧ s.AbortedTo l f .stalled .discarding t)
    ∧ (s.asm.hand = none → (s.lane l).overrun = some 0 →
      ∃ t, exec (.overrunMarkTaken l) s = .next t
        ∧ (s.withLane l { s.lane l with overrun := none }).AbortedTo l f .overrun .discarding t)
    ∧ (∀ source day slot seq arrival rest, s.TakesFrame l (.opening source day slot seq) arrival rest →
      ∃ v, s.AbortedTo l f .superseded .idle v ∧ v.TakesFrame l (.opening source day slot seq) arrival rest
        ∧ exec .takeFileOpen s = exec .takeFileOpen v)

/-! ### The archive clock and the days -/

/-- CLOCK_SECOND and HOLD_REMAINDER_END. RUNNING, the reading advances one second, from second 86,399 to the next day,
and stays at the end of day 65,535; a multiple of 60 counts one archive minute, and a rollover tests the lapse of
IRREVOCABLE holds, whose removals are programmed at once or made pending (those of a write that failed before among them: log
entry 19). HOLDING, the remainder goes down and RUNNING comes back when it ends (log entry 13). NOT_SET, nothing
happens. That the minute count stands at the interval until its match is taken is log entry 15, and that a second itself
makes no close and no lane expiry is log entry 16: both the model's choices. -/
def Obligations.SecondOfTheArchiveClock : Prop :=
  ∀ s : State,
    (s.clock.mode = .notSet → exec .clockSecond s = .next s ∧ exec .holdRemainderEnd s = .next s)
    ∧ (s.clock.mode = .holding → exec .clockSecond s = .next { s with clock := { s.clock with
        remainder := s.clock.remainder - 1, mode := if s.clock.remainder ≤ 1 then .running else .holding } })
    ∧ (s.clock.mode = .holding → s.clock.remainder ≤ 1 → exec .holdRemainderEnd s = .next { s with
        clock := { s.clock with remainder := 0, mode := .running } })
    ∧ (s.clock.mode = .running → exec .holdRemainderEnd s = .next s)
    ∧ (s.clock.mode = .running → s.clock.reading = some { day := 65535, second := 86399 } →
        exec .clockSecond s = .next s)
    ∧ (∀ d sec, s.clock.mode = .running → s.clock.reading = some { day := d, second := sec } → sec < 86399 →
        exec .clockSecond s = .next { s with
          clock := { s.clock with reading := some { day := d, second := sec + 1 } }
          expiry := if (sec + 1) % 60 = 0 then
              { s.expiry with count := if s.expiry.mode = .off then 0 else min (s.expiry.count + 1) s.expiry.interval }
            else s.expiry })
    ∧ (∀ d, s.clock.mode = .running → s.clock.reading = some { day := d, second := 86399 } → d ≠ 65535 →
        ∃ t, exec .clockSecond s = .next t
          ∧ t = { s with clock := t.clock, expiry := t.expiry, hold := t.hold }
          ∧ t.clock = { s.clock with reading := some { day := d + 1, second := 0 } }
          ∧ t.expiry = { s.expiry with
              count := if s.expiry.mode = .off then 0 else min (s.expiry.count + 1) s.expiry.interval }
          ∧ t.hold = s.hold.lapsedOn (d + 1)
          ∧ t.hold.holds = s.hold.holds.filter (fun h =>
              !(h.kind = .irrevocable && h.release.any (fun r => r < d + 1)))
          ∧ t.hold.nv = s.hold.nv ∧ t.hold.guard = s.hold.guard ∧ t.hold.mode = s.hold.mode
          ∧ t.hold.level = s.hold.level ∧ t.hold.line = s.hold.line)

/-- SET CLOCK: a second of day above 86,399, and a backward setting of more than 600 seconds, are refused; a backward
setting of 600 or less holds the clock. A forward or first setting takes the reading, aborts the file of every lane whose
timer is due STALLED, closes every day then OPEN whose deadline is reached, tests the lapse of holds on a first or later day (log entry 19),
and counts one minute on a first or later minute (up to the interval: log entry 15; the order in which the segments of a
closing day are sealed: log entry 41); the reply carries the new reading, the
number of lanes with a timer due and the number of OPEN days with a deadline reached. -/
def Obligations.SetClockEffect : Prop :=
  ∀ (s : State) (tag : Tag) (payload : List Byte) (rest : List Directive) (t : Time),
    s.Takes 0x01 tag payload rest → readSetClock payload = some t →
    (86399 < t.second → exec .setClock s = .next (s.turnedDown rest tag .refusedRange))
    ∧ (∀ now, t.second ≤ 86399 → s.clock.reading = some now → t.seconds < now.seconds →
      exec .setClock s = .next (if now.seconds - t.seconds ≤ 600 then
          (({ s.took rest with clock := { s.clock with mode := .holding, remainder := now.seconds - t.seconds } } : State).replied
            tag .done false (timeOctets (some now) ++ be 4 (now.seconds - t.seconds)))
        else s.turnedDown rest tag .refusedRange))
    ∧ (t.second ≤ 86399 → (∀ now, s.clock.reading = some now → now.seconds ≤ t.seconds) →
      let due := lanes.filter fun l => (s.lane l).timer.any fun x => x ≤ t.seconds
      let laterDay : Bool := s.clock.reading.all fun o => o.day < t.day
      let laterMinute : Bool := s.clock.reading.all fun o => o.minute < t.minute
      ∃ (a b u : State) (days : List Nat),
        Through (State.EndsOn .stalled .discarding) due
          { s.took rest with clock := { mode := .running, reading := some t, remainder := 0 } } a
        ∧ days = (a.tracker.days.filter fun d => d.state = .opened && d.deadline ≤ t.minute).map DayEntry.day
        ∧ Through (fun day x y => x.DayClosedTo day y) days a b
        ∧ u = { b with hold := u.hold, expiry := u.expiry }
        ∧ u.expiry = (if laterMinute then
            { s.expiry with count := if s.expiry.mode = .off then 0 else min (s.expiry.count + 1) s.expiry.interval }
          else s.expiry)
        ∧ u.hold = (if laterDay then s.hold.lapsedOn t.day else s.hold)
        ∧ (laterDay = false → u.hold = s.hold)
        ∧ (laterDay = true → u.hold.holds = s.hold.holds.filter fun h =>
            !(h.kind = .irrevocable && h.release.any fun r => r < t.day))
        ∧ u.hold = { s.hold with holds := u.hold.holds, unit := u.hold.unit, lapsePending := u.hold.lapsePending,
                                 lapseFailed := u.hold.lapseFailed }
        ∧ exec .setClock s = .next
            (u.replied tag .done false (timeOctets (some t) ++ be 4 due.length ++ be 4 days.length)))

/-- CLOSE_DEADLINE_REACHED for an OPEN day whose deadline the running clock has reached, and CLOSE DAY for an OPEN day,
close it (the order in which its segments are sealed is log entry 41), the directive with its four figures; for a CLOSED
or settled day CLOSE DAY answers REFUSED_STATE, for a day without entry NOT_FOUND; a deadline not reached, or of a CLOSED
day, changes nothing. -/
def Obligations.DayCloses : Prop :=
  ∀ (s : State) (day : Nat), day < 65536 →
    (∀ now d, s.clock.mode = .running → s.clock.reading = some now → s.day? day = some d → d.state = .opened →
      (d.deadline ≤ now.minute → ∃ t, exec (.closeDeadlineReached day) s = .next t ∧ s.DayClosedTo day t)
      ∧ (now.minute < d.deadline → exec (.closeDeadlineReached day) s = .next s))
    ∧ (∀ d, s.day? day = some d → d.state = .closed → exec (.closeDeadlineReached day) s = .next s)
    ∧ (∀ tag payload rest, s.Takes 0x10 tag payload rest → readNumber 2 payload = some day →
      (∀ d, s.day? day = some d → d.state = .opened → ∃ t, (s.tookLong rest tag).DayClosedTo day t
        ∧ exec .closeDay s = .next (t.settledWith tag .done false
          (be 4 (s.openedGaps day).length
            ++ be 4 ((s.tracker.records.filter (·.day = day)).length - (t.tracker.records.filter (·.day = day)).length)
            ++ be 4 (t.tracker.records.filter (·.day = day)).length ++ flagOctet (t.isSettled day))))
      ∧ (∀ d, s.day? day = some d → d.state = .closed → exec .closeDay s = .next (s.turnedDown rest tag .refusedState))
      ∧ (s.day? day = none →
          exec .closeDay s = .next (s.turnedDown rest tag (if s.isSettled day then .refusedState else .notFound))))

/-- A settled day stays settled: nothing but POWER_ON clears a Settlement Map flag. Commands other than those of a scan set
a flag only for a day that had a Day Table entry, CLOSED or closed by the command, and free that entry. The settlement test
that sets it asks for a CLOSED entry with no live record and no file in progress, and makes DAY pending. -/
def Obligations.SettlementIsForGood : Prop :=
  (∀ (c : Instr) (s t : State) (day : Nat), exec c s = .next t → c ≠ .powerOn → s.isSettled day = true →
    t.isSettled day = true)
  ∧ (∀ (c : Instr) (s t : State) (day : Nat), exec c s = .next t → s.isSettled day = false → t.isSettled day = true →
    (c = .decodeComplete ∨ (∃ u a data, c = .beatAccept u a data) ∨ (∃ u a, c = .beatError u a)
      ∨ ∃ u k, c = .ackTimerExpiry u k)
    ∨ ∃ d, s.day? day = some d
      ∧ (d.state = .closed ∨ c ∈ [.closeDay, .setClock] ∨ ∃ n, c = .closeDeadlineReached n)
      ∧ t.day? day = none)
  ∧ ∀ (s : State) (day : Nat), s.testSettlement day =
    (if ∃ d, s.day? day = some d ∧ d.state = .closed ∧ d.live = 0 ∧ d.inProgress = 0 then
      ({ s with tracker := { s.tracker with
          settled := s.tracker.settled ||| BitVec.twoPow 65536 day
          days := s.tracker.days.filter fun d => d.day ≠ day } } : State).pended 1 (be 2 day ++ named 3)
    else s)

/-! ### The Expiry Engine -/

/-- SWEEP_TIMER_MATCH: below the interval, or OFF, nothing; at the interval the count returns to 0 and SINGLE turns OFF,
whether or not a pass starts; a match during a pass sets its skipped flag; with the engine not RUNNING it is lost; else a
sweep begins at the first entry at or above the cursor, or at the lowest (not yet wrapped there: log entry 14), and
CYCLIC with alternate turns the next kind, a scrub pass being made at once with its requests, pins and summary (R154). With
an empty Directory a sweep ends at once, EMPTY, the cursor unchanged. That a match is taken behind its minute is log entry 15. -/
def Obligations.SweepTimerMatch : Prop :=
  ∀ s : State,
    let after : Expiry := { s.expiry with count := 0, mode := if s.expiry.mode = .single then .off else s.expiry.mode }
    (s.expiry.mode = .off ∨ s.expiry.count < s.expiry.interval → exec .sweepTimerMatch s = .next s)
    ∧ (s.expiry.mode ≠ .off → s.expiry.interval ≤ s.expiry.count →
      (s.engine ≠ .running → exec .sweepTimerMatch s = .next { s with expiry := after })
      ∧ (∀ p, s.engine = .running → s.expiry.pass = some p →
        exec .sweepTimerMatch s = .next { s with expiry := { after with pass := some { p with skipped := true } } })
      ∧ (∀ e, s.engine = .running → s.expiry.pass = none →
        ¬ (s.expiry.mode = .cyclic ∧ s.expiry.alternate = true ∧ s.expiry.nextKind = .scrub) →
        (s.dir.find? (fun y => s.expiry.cursor ≤ y.id)).or s.dir.head? = some e →
        exec .sweepTimerMatch s = .next { s with expiry := { after with
          nextKind := if s.expiry.mode = .cyclic ∧ s.expiry.alternate = true then
            (if s.expiry.nextKind = .sweep then .scrub else .sweep) else s.expiry.nextKind
          pass := some { kind := .sweep, origin := .timer, startId := e.id, wrapped := false, batch := s.expiry.batch,
                         oldest := oldestDay s.dir, skipped := false, counts := {} } } })
      ∧ (s.engine = .running → s.expiry.pass = none → s.dir = [] →
        ¬ (s.expiry.mode = .cyclic ∧ s.expiry.alternate = true ∧ s.expiry.nextKind = .scrub) →
        exec .sweepTimerMatch s = .next (({ s with expiry := { after with
            nextKind := if s.expiry.mode = .cyclic ∧ s.expiry.alternate = true then
              (if s.expiry.nextKind = .sweep then .scrub else .sweep) else s.expiry.nextKind } } : State).passEnded
          { kind := .sweep, origin := .timer, startId := s.expiry.cursor, wrapped := false, batch := s.expiry.batch,
            oldest := none, skipped := false, counts := {} } .empty none))
      ∧ (s.engine = .running → s.expiry.pass = none → s.expiry.mode = .cyclic → s.expiry.alternate = true →
        s.expiry.nextKind = .scrub → ∃ t, exec .sweepTimerMatch s = .next t
          ∧ ({ s with expiry := { after with nextKind := .sweep } } : State).ScrubbedTo .timer t))

/-- SWEEP NOW and SCRUB NOW: REFUSED_STATE with the engine not RUNNING, BUSY while a pass runs; else DONE. SWEEP NOW
starts a sweep with the batch in force (not wrapped, though it begin at the lowest entry: log entry 14), or with an empty
Directory ends it at once, EMPTY; SCRUB NOW queues and pins the requests R154 gives, of origin SCRUB: their number, their
candidates and their order; its pass ends at once with a SWEEP notice, its summary giving the number queued. -/
def Obligations.PassesOnDemand : Prop :=
  ∀ (s : State) (tag : Tag) (rest : List Directive),
    (s.Takes 0x13 tag [] rest →
      (s.engine ≠ .running → exec .sweepNow s = .next (s.turnedDown rest tag .refusedState))
      ∧ (s.engine = .running → s.expiry.pass ≠ none → exec .sweepNow s = .next (s.turnedDown rest tag .busy))
      ∧ (∀ e, s.engine = .running → s.expiry.pass = none →
        (s.dir.find? (fun y => s.expiry.cursor ≤ y.id)).or s.dir.head? = some e →
        exec .sweepNow s = .next (({ s.took rest with expiry := { s.expiry with
          pass := some { kind := .sweep, origin := .directive, startId := e.id, wrapped := false, batch := s.expiry.batch,
                         oldest := oldestDay s.dir, skipped := false, counts := {} } } } : State).replied
            tag .done false []))
      ∧ (s.engine = .running → s.expiry.pass = none → s.dir = [] →
        exec .sweepNow s = .next (((s.took rest).passEnded
          { kind := .sweep, origin := .directive, startId := s.expiry.cursor, wrapped := false, batch := s.expiry.batch,
            oldest := none, skipped := false, counts := {} } .empty none).replied tag .done false [])))
    ∧ (s.Takes 0x14 tag [] rest →
      (s.engine ≠ .running → exec .scrubNow s = .next (s.turnedDown rest tag .refusedState))
      ∧ (s.engine = .running → s.expiry.pass ≠ none → exec .scrubNow s = .next (s.turnedDown rest tag .busy))
      ∧ (s.engine = .running → s.expiry.pass = none → ∃ t : State,
        exec .scrubNow s = .next (t.replied tag .done false []) ∧ (s.took rest).ScrubbedTo .directive t))

/-- SWEEP_EXAMINATION of a running sweep. The walk takes the first entry at or above the cursor, or wraps to the lowest, and
ends the pass with EMPTY or ROUND. An entry that is not STORED, or whose target is SCANNING, is passed over, counted. A
STORED one with a FIRM run meets the tests of R119 in their order and is kept with the reason of the first it fails;
otherwise it becomes EXPIRING at its target's tail, by class or as all void, its group coalescing where R123 lets it: every
unissued SINGLE entry of the group leaves the queue, and the GROUP entry stands at the place of the earliest, the others in
their order; with
64 entries queued there the pass ends with QUEUE_FULL, the cursor on it, uncounted. A counted entry moves the cursor behind
it and may end the pass with ROUND, EMPTY or BATCH. The walk's wrapping, ROUND before BATCH where both hold, and EMPTY before
ROUND where a wrapped walk finds the Directory empty, are log entry 14. With no pass running nothing happens
(log entry 1).
The days a Guard Window covers, and the days and classes a hold covers. -/
def Obligations.SweepExaminesAnEntry : Prop :=
  (∀ s : State, s.expiry.pass = none → exec .sweepExamination s = .next s)
  ∧ (∀ (s : State) (p : Pass), s.expiry.pass = some p →
    (∀ stop, s.walkStops p = some stop → exec .sweepExamination s = .next (s.passEnded p stop none))
    ∧ ∀ e, s.walkStops p = none → (s.dir.find? (fun y => s.expiry.cursor ≤ y.id)).or s.dir.head? = some e →
      ((e.state ≠ .stored ∨ (∃ t x, e.place = some (t, x) ∧ (s.target t).state = .scanning)) →
        exec .sweepExamination s = .next (s.examinedAs p e p.counts))
      ∧ ∀ (t : TargetNo) (x : Nat), e.state = .stored → e.place = some (t, x) → (s.target t).state ≠ .scanning →
        let retention : Nat := (vget s.tables.classes e.cls).retention
        let firm : Prop := ∃ r ∈ e.runs, r.status = .firm
        let why : Option KeepReason :=
          if ¬ firm then none
          else if retention = 0 ∨ s.now.day < e.day + retention then some .retained
          else if s.isSettled e.day = false then some .unsettled
          else if e.suspect = true then some .suspect
          else if 0 < e.pins then some .pinned
          else if s.hold.guard.covers s.now.day p.oldest e.day = true then some .guarded
          else if ∃ h ∈ s.hold.holds, h.covers e.day e.cls = true then some .heldBy
          else none
        let queue := (s.target t).queue ++ [EraseEntry.single x e.id]
        let unissued := if (s.target t).erase = none then queue else queue.tail
        let single (q : EraseEntry) : Option (Nat × Nat) := match q with
          | .single y id => some (y, id)
          | .group _ _ _ => none
        let ofGroup (q : EraseEntry) : Bool := (single q).any fun m => m.1 / 16 = x / 16
        let members := ((List.range 16).map fun i => 16 * (x / 16) + i).filterMap fun y =>
          (unissued.filterMap single).find? fun m => m.1 = y
        let fillers := ((List.range 16).map fun i => 16 * (x / 16) + i).filter fun y => (s.target t).extent? y = some .free
        let merges : Prop := (∃ id, EraseEntry.single x id ∈ unissued) ∧ ∀ y, y / 16 = x / 16 →
          (s.target t).extent? y = some .free ∨ ∃ id, EraseEntry.single y id ∈ unissued
        let counts (merged : Bool) : PassCounts := { p.counts with
          expiring := p.counts.expiring + 1
          allVoid := p.counts.allVoid + if firm then 0 else 1
          eligible := if firm then vset p.counts.eligible e.cls (vget p.counts.eligible e.cls + 1) else p.counts.eligible
          coalesced := p.counts.coalesced + if merged then 1 else 0 }
        (∀ r, why = some r → exec .sweepExamination s = .next (s.examinedAs p e { p.counts with
          kept := vset p.counts.kept r.index (vget p.counts.kept r.index + 1) }))
        ∧ (why = none → (s.target t).queue.length < 64 → ∃ u merged, exec .sweepExamination s = .next u
          ∧ (merged = true ↔ merges)
          ∧ u.expiry = (s.examinedAs p e (counts merged)).expiry ∧ u.notices = (s.examinedAs p e (counts merged)).notices
          ∧ u.dir = s.dir.map (fun y => if y.id = e.id then { y with state := .expiring } else y)
          ∧ (∀ v, v ≠ t → u.target v = s.target v)
          ∧ (¬ merges → u.target t = { s.target t with queue := queue })
          ∧ (merges → u.target t = { (s.target t).withExtents fillers .erasing with
                queue := (if (s.target t).erase = none then [] else queue.take 1)
                  ++ unissued.takeWhile (fun q => !ofGroup q) ++ [.group (x / 16) members fillers]
                  ++ (unissued.dropWhile fun q => !ofGroup q).filter fun q => !ofGroup q }
              ∧ x ∈ members.map Prod.fst ∧ (members.map Prod.fst).Pairwise (· < ·)
              ∧ ∀ y, (y ∈ members.map Prod.fst ↔ y / 16 = x / 16 ∧ ∃ id, EraseEntry.single y id ∈ unissued))
          ∧ u = { s with dir := u.dir, targets := u.targets, expiry := u.expiry, notices := u.notices })
        ∧ (why = none → 64 ≤ (s.target t).queue.length → exec .sweepExamination s = .next
          (({ s with expiry := { s.expiry with cursor := e.id } } : State).passEnded p .queueFull (some t))))
  ∧ (∀ (g : Guard) (today : Nat) (oldest : Option Nat) (day : Nat),
    (g.span = 0 → g.covers today oldest day = g.complement)
    ∧ (g.span ≠ 0 → g.anchor = .newest →
      (g.covers today oldest day = true ↔
        ((today ≤ day + (g.span - 1) ∧ day ≤ today) ↔ g.complement = false)))
    ∧ (g.span ≠ 0 → g.anchor = .oldest → oldest = none → g.covers today oldest day = g.complement)
    ∧ (∀ o, g.span ≠ 0 → g.anchor = .oldest → oldest = some o → day ≤ 65535 →
      (g.covers today oldest day = true ↔ ((o ≤ day ∧ day ≤ o + g.span - 1) ↔ g.complement = false))))
  ∧ ∀ (h : Hold) (day : Nat) (cls : ClassNo),
    h.covers day cls = true ↔ h.firstDay ≤ day ∧ day ≤ h.lastDay ∧ h.classMask.getLsbD cls.val = true

/-- Whatever command is run, in any state: an entry is EXPIRING afterwards only if an entry of its id was EXPIRING
before, or a sweep examination made it so, of a STORED entry that could expire then by R118 and R119 with the oldest day
of the running pass. -/
def Obligations.OnlyEligibleSegmentsExpire : Prop :=
  ∀ (c : Instr) (s t : State), exec c s = .next t → ∀ e' ∈ t.dir, e'.state = .expiring →
    (∃ e ∈ s.dir, e.id = e'.id ∧ e.state = .expiring)
    ∨ (c = .sweepExamination ∧ ∃ p, s.expiry.pass = some p
      ∧ ∃ e ∈ s.dir, e.id = e'.id ∧ e.state = .stored ∧ s.mayExpire p.oldest e)

/-! ### The commit path -/

/-- COMMIT_BEGIN: with a current commit, or nothing SEALED queued, nothing; with no target that can take the segment, the
engine waits and PRESSURE is made pending once; else the first SEALED entry of the queue is COMMITTING on the preferred
target, or the lowest-numbered other that can take it, in that target's lowest FREE extent, and its write waits. -/
def Obligations.CommitBegins : Prop :=
  ∀ s : State,
    let first := s.commit.queue.find? fun c => (s.entry? c.segId).any fun e => e.state = .sealed
    (s.commit.current ≠ none ∨ first = none → exec .commitBegin s = .next s)
    ∧ (∀ c e, s.commit.current = none → first = some c → s.entry? c.segId = some e →
      ((∀ t, ¬ (s.target t).canTake) → exec .commitBegin s = .next
        (if s.commit.waited then s
         else ({ s with commit := { s.commit with waited := true } } : State).pended 5 (be 4 s.commit.queue.length)))
      ∧ (∀ t m x, (s.target t).canTake →
          (let p := (vget s.tables.classes e.cls).target
           t = p ∨ ¬ (s.target p).canTake ∧ ∀ u, u < t → ¬ (s.target u).canTake) →
          (s.target t).map = some m → m[x]? = some .free → (∀ y, y < x → m[y]? ≠ some .free) →
        exec .commitBegin s = .next { s with
          commit := { queue := s.commit.queue.filter (fun y => y.segId ≠ c.segId), current := some c, waited := false }
          dir := s.dir.map fun y => if y.id = c.segId then { y with state := .committing, place := some (t, x) } else y
          targets := vset s.targets t ({ s.target t with
            map := some (m.set x .allocated), waitWrite := true, erase := (s.target t).eraseWhenAsked }) }))

/-- ARBITER_BEGIN: with a transfer in progress, a target not ONLINE or DEGRADED, or an issued erase not SUSPENDED,
nothing begins; else the waiting write, then the waiting read, then, with no erase issued, the head of the Erase Queue,
its timeout four times as long for a group. -/
def Obligations.ArbiterOrder : Prop :=
  ∀ (s : State) (t : TargetNo),
    let k := s.target t
    (k.xfer ≠ none ∨ (k.state ≠ .online ∧ k.state ≠ .degraded) ∨ (∃ y, k.erase = some y ∧ y.state ≠ .suspended) →
      exec (.arbiterBegin t) s = .next s)
    ∧ (k.xfer = none → (k.state = .online ∨ k.state = .degraded) → (∀ y, k.erase = some y → y.state = .suspended) →
      (∀ c e b p unit gather, k.waitWrite = true → s.commit.current = some c → s.entry? c.segId = some e →
        e.place = some p → s.buffer? c.segId = some b → k.unitSize = some unit → k.gather = some gather →
        exec (.arbiterBegin t) s = .next (s.withTarget t { k with
          waitWrite := false
          xfer := some { kind := .write, extent := p.2, first := 0, beats := (512 + e.payloadLen + unit - 1) / unit,
                         unitSize := unit, gather := gather, beat := 0, ackMs := k.ackMs, image := segmentImage e b,
                         cut := false } }))
      ∧ (∀ j unit gather, k.waitWrite = false → k.waitRead = some j → k.unitSize = some unit → k.gather = some gather →
        exec (.arbiterBegin t) s = .next { s.withTarget t { k with
            waitRead := none
            xfer := some { kind := .read, extent := j.extent, first := 0,
                           beats := (512 + j.payloadLen + unit - 1) / unit, unitSize := unit, gather := gather,
                           beat := 0, ackMs := k.ackMs, image := [], cut := false } }
          with audit := { s.audit with readBuffer := [] } })
      ∧ (∀ e q, k.waitWrite = false → k.waitRead = none → k.erase = none → k.queue = e :: q →
        exec (.arbiterBegin t) s = .next (s.withTarget t { k.withExtents e.extents .erasing with
          erase := some { state := .running, suspends := 0, timer := 0,
                          timeout := match e with
                            | .single _ _ => k.eraseSecs
                            | .group _ _ _ => 4 * k.eraseSecs } }))
      ∧ (k.waitWrite = false → k.waitRead = none → (k.erase ≠ none ∨ k.queue = []) →
        exec (.arbiterBegin t) s = .next s))

/-- BEAT_ACCEPT for a beat that is not the transfer's last sends the next beat with the ack timeout now in force; a read
adds the unit to its buffer. BEAT_ACCEPT of the last beat of a verification's read completes it: the image waits for the
Record Coder, the target's faults are 0, and a DEGRADED target is ONLINE, which returns the STRANDED segments. A beat of a read that fails, on BEAT_ERROR or its ack timer, whose answer is
then late, ends it: a read failure and a fault of the target are counted, and the request ends with READ_FAIL. A read whose
target went OFFLINE ends at its next answer with READ_FAIL, cause OFFLINE, and counts neither (log entry 23). -/
def Obligations.BeatsOfATransfer : Prop :=
  ∀ (s : State) (t : TargetNo) (x : Xfer) (data : List Byte), (s.target t).xfer = some x →
    (x.beat + 1 < x.beats →
      let k : Target := { s.target t with xfer := some { x with beat := x.beat + 1, ackMs := (s.target t).ackMs } }
      (x.kind = .write → exec (.beatAccept t .live data) s = .next (s.withTarget t k))
      ∧ (x.kind = .read → x.cut = false → data.length = x.unitSize →
        exec (.beatAccept t .live data) s = .next { s.withTarget t k with
          audit := { s.audit with readBuffer := s.audit.readBuffer ++ data } }))
    ∧ (∀ r rs, x.beats ≤ x.beat + 1 → x.kind = .read → x.cut = false → data.length = x.unitSize →
        s.audit.requests = r :: rs → r.kind = .verify →
        let u := ({ s.withTarget t { s.target t with xfer := none } with
          audit := { s.audit with readBuffer := s.audit.readBuffer ++ data } } : State).succeeded t
        exec (.beatAccept t .live data) s = .next (State.eraseChecked { u with
          audit := { u.audit with active := some .decoding }, coder := u.coder ++ [.request] } t))
    ∧ (x.kind = .read →
      let k := s.target t
      let failed (late cause : Nat) : State := ((State.faultOn (s.withTarget t { k with
        xfer := none, expired := k.expired + late, readFails := min (k.readFails + 1) 4294967295 }) t).readFailed
          cause).eraseChecked t
      let cut (late : Nat) : State :=
        ((s.withTarget t { k with xfer := none, expired := k.expired + late }).readFailed 3).eraseChecked t
      (x.cut = false → exec (.beatError t .live) s = .next (failed 0 1)
        ∧ exec (.ackTimerExpiry t .beat) s = .next (failed 1 2))
      ∧ (x.cut = true → exec (.beatError t .live) s = .next (cut 0) ∧ exec (.ackTimerExpiry t .beat) s = .next (cut 1)
        ∧ (data.length = x.unitSize → exec (.beatAccept t .live data) s = .next (cut 0))))

/-- The write of the current commit succeeds with its last beat: extent WRITTEN, entry STORED in its place, buffer free,
flow state tested, faults 0 and a DEGRADED target ONLINE, which returns the STRANDED segments; STRANDED CLOSED for a segment
that was stranded before; a waiting FLUSH counts the segment stored, and is answered at the last; no current commit. On a target
OFFLINE by then its faults and state stay as they are. -/
def Obligations.WriteSucceeds : Prop :=
  ∀ (s : State) (t : TargetNo) (x : Xfer) (data : List Byte) (c : CommitEntry) (e : SegEntry),
    (s.target t).xfer = some x → x.kind = .write → x.beats ≤ x.beat + 1 → s.commit.current = some c →
    s.entry? c.segId = some e →
    let k := s.target t
    let written : State := { s.withTarget t { k with map := k.map.map fun m => m.set x.extent .written, xfer := none } with
      dir := s.dir.map fun y => if y.id = c.segId then { y with state := .stored } else y
      builder := { s.builder with buffers := s.builder.buffers.filter fun b => b.segId ≠ c.segId } }
    let up := written.flowTested.succeeded t
    let told := if c.strandedBefore then up.recorded
        { code := .stranded, state := .closed, cause := none, source := none, day := none, slot := none,
          segId := some c.segId, target := none, figure := none, time := s.clock.reading } else up
    let counted := told.flushCounts c.segId 1 0 0
    exec (.beatAccept t .live data) s = .next
      (({ counted with commit := { counted.commit with current := none } } : State).eraseChecked t)
    ∧ ((k.state = .online ∨ k.state = .degraded) → ∃ u, exec (.beatAccept t .live data) s = .next u
      ∧ (u.target t).map = (s.target t).map.map (fun m => m.set x.extent .written) ∧ (u.target t).xfer = none
      ∧ (u.target t).faults = 0 ∧ (u.target t).state = .online
      ∧ u.entry? c.segId = some { e with state := .stored } ∧ u.buffer? c.segId = none
      ∧ (∀ id, id ≠ c.segId → u.buffer? id = s.buffer? id)
      ∧ u.commit.current = none
      ∧ (∀ v, v ≠ t → u.target v = s.target v)
      ∧ u = { s with port := u.port, builder := u.builder, dir := u.dir, commit := u.commit, targets := u.targets,
                     audit := u.audit, notices := u.notices })
    ∧ (k.state = .offline → ∃ u, exec (.beatAccept t .live data) s = .next u
      ∧ (u.target t).state = .offline ∧ (u.target t).faults = k.faults ∧ u.commit.queue = s.commit.queue
      ∧ u.entry? c.segId = some { e with state := .stored })

/-- A beat of the current commit's write fails, on BEAT_ERROR or the beat's ack timer: the extent is BAD, the entry
leaves it and counts the attempt; below three attempts it is SEALED again at the head of the Commit Queue, at three it
is STRANDED with its event and the COMMIT notice. A STRANDED segment is the end of it that a waiting FLUSH counts. First with the target's faults below 3; then at any: at
the third the target goes OFFLINE (a suspended erase resumed, a waiting read ended READ_FAIL OFFLINE, TARGET pending), and on a
target OFFLINE by then faults and state stay as they are. -/
def Obligations.WriteFails : Prop :=
  (∀ (s : State) (t : TargetNo) (x : Xfer) (c : CommitEntry) (e : SegEntry) (i : Instr),
    (i = .beatError t .live ∨ i = .ackTimerExpiry t .beat) →
    (s.target t).xfer = some x → x.kind = .write → s.commit.current = some c → s.entry? c.segId = some e →
    ((s.target t).state = .online ∨ (s.target t).state = .degraded) → (s.target t).faults < 2 →
    ∃ u, exec i s = .next u
      ∧ (u.target t).map = (s.target t).map.map (fun m => m.set x.extent .bad) ∧ (u.target t).xfer = none
      ∧ (u.target t).writeFails = min ((s.target t).writeFails + 1) 4294967295
      ∧ (u.target t).faults = (s.target t).faults + 1 ∧ (u.target t).state = .degraded
      ∧ u.commit.current = none
      ∧ (e.attempts + 1 < 3 →
          u.entry? c.segId = some { e with state := .sealed, place := none, attempts := e.attempts + 1 }
          ∧ u.commit.queue = c :: s.commit.queue ∧ u.audit = s.audit)
      ∧ (3 ≤ e.attempts + 1 →
          u.entry? c.segId = some { e with state := .stranded, place := none, attempts := e.attempts + 1 }
          ∧ u.commit.queue = s.commit.queue
          ∧ u.audit = (s.recorded
              { code := .stranded, state := .opened, cause := none, source := none, day := none, slot := none,
                segId := some c.segId, target := some t.val, figure := none, time := s.clock.reading }).audit
          ∧ (vget u.notices.sources 2).flag = true)
      ∧ (∀ v, v ≠ t → u.target v = s.target v) ∧ u.builder.buffers = s.builder.buffers
      ∧ u = { s with port := u.port, builder := u.builder, dir := u.dir, commit := u.commit, targets := u.targets,
                     audit := u.audit, notices := u.notices })
  ∧ ∀ (s : State) (t : TargetNo) (x : Xfer) (c : CommitEntry) (e : SegEntry) (late : Nat) (i : Instr),
    (i = .beatError t .live ∧ late = 0 ∨ i = .ackTimerExpiry t .beat ∧ late = 1) →
    (s.target t).xfer = some x → x.kind = .write → s.commit.current = some c → s.entry? c.segId = some e →
    (s.target t).waitWrite = false →
    let k := s.target t
    let down := State.faultOn { s.withTarget t { k with
        map := k.map.map fun m => m.set x.extent .bad
        xfer := none, expired := k.expired + late
        writeFails := min (k.writeFails + 1) 4294967295 } with
      dir := s.dir.map fun y => if y.id = c.segId then { y with place := none } else y } t
    let counted (st : SegState) : State := { down with dir := down.dir.map fun y =>
      if y.id = c.segId then { y with state := st, attempts := e.attempts + 1 } else y }
    (e.attempts + 1 < 3 → exec i s = .next (({ counted .sealed with
        commit := { down.commit with queue := c :: down.commit.queue, current := none } } : State).eraseChecked t))
    ∧ (3 ≤ e.attempts + 1 →
      let told := ((counted .stranded).recorded
        { code := .stranded, state := .opened, cause := none, source := none, day := none, slot := none,
          segId := some c.segId, target := some t.val, figure := none, time := s.clock.reading }).pended 2
          (be 4 ((counted .stranded).dir.countP fun y => y.state = .stranded))
      let ended := told.flushCounts c.segId 0 1 0
      exec i s = .next (({ ended with commit := { ended.commit with current := none } } : State).eraseChecked t))

/-- RETRY COMMITS, and SET TARGET ONLINE of a DEGRADED or OFFLINE target, return every STRANDED segment: it is SEALED with no
attempts, at the tail of the Commit Queue with the stranded-before mark, in ascending order; the reply of RETRY COMMITS is
DONE with their number. -/
def Obligations.StrandedSegmentsReturn : Prop :=
  ∀ (s : State) (tag : Tag) (rest : List Directive),
    let ids := (s.dir.filter (·.state = .stranded)).map SegEntry.id
    let queue := s.commit.queue ++ ids.map fun id => ({ segId := id, strandedBefore := true } : CommitEntry)
    let dir := s.dir.map fun e => if e.state = .stranded then { e with state := .sealed, attempts := 0 } else e
    (s.Takes 0x17 tag [] rest → exec .retryCommits s = .next
      (({ s.took rest with commit := { s.commit with queue := queue }, dir := dir } : State).replied
        tag .done false (be 4 ids.length)))
    ∧ (∀ (t : TargetNo) payload, s.Takes 0x07 tag payload rest → readSetTarget payload = some (t.val, true) →
        ((s.target t).state = .degraded ∨ (s.target t).state = .offline) →
        ∃ u : State, exec .setTarget s = .next (u.replied tag .done false [])
          ∧ u.commit = { s.commit with queue := queue } ∧ u.dir = dir
          ∧ u.targets = vset s.targets t { s.target t with state := .online, faults := 0 }
          ∧ ((s.target t).state = .offline → (vget u.notices.sources 3).flag = true)
          ∧ u = { s.took rest with commit := u.commit, dir := u.dir, targets := u.targets, notices := u.notices })

/-- An answer on a store link that matches nothing outstanding is discarded and counted unexpected; one for a request
whose ack timer has expired is counted late instead (log entry 11). -/
def Obligations.AnswersOutOfPlace : Prop :=
  ∀ (s : State) (t : TargetNo) (data : List Byte),
    let k := s.target t
    let unexpected : State := s.withTarget t { k with unexpected := min (k.unexpected + 1) 4294967295 }
    (∀ i ∈ [Instr.beatAccept t .stray data, .beatError t .stray, .eraseDone t .stray, .eraseError t .stray,
            .suspended t .stray, .resumed t .stray], exec i s = .next unexpected)
    ∧ (∀ i ∈ [Instr.beatAccept t .expired data, .beatError t .expired, .eraseDone t .expired, .eraseError t .expired,
              .suspended t .expired, .resumed t .expired],
        exec i s = .next (if k.expired = 0 then unexpected
          else s.withTarget t { k with expired := k.expired - 1, late := min (k.late + 1) 4294967295 }))
    ∧ (k.xfer = none → exec (.beatAccept t .live data) s = .next unexpected
        ∧ exec (.beatError t .live) s = .next unexpected)
    ∧ (k.erase = none → exec (.eraseDone t .live) s = .next unexpected ∧ exec (.eraseError t .live) s = .next unexpected
        ∧ exec (.suspended t .live) s = .next unexpected ∧ exec (.resumed t .live) s = .next unexpected)

/-! ### Erases -/

/-- ERASE_DONE for the issued erase: every extent of the entry is FREE, the members' Directory entries are gone and counted
for the Expiry Engine, the entry leaves the head of the queue, the slot is empty, and the target's faults are 0, a DEGRADED
target ONLINE, which returns the STRANDED segments; on an OFFLINE target faults and state stay. -/
def Obligations.EraseCompletes : Prop :=
  ∀ (s : State) (t : TargetNo) (y : EraseSlot) (e : EraseEntry) (q : List EraseEntry),
    (s.target t).erase = some y → (s.target t).queue = e :: q →
    let k := s.target t
    let freed : State := { s.withTarget t { k.withExtents e.extents .free with
        queue := q, erase := none, erasesDone := min (k.erasesDone + 1) 4294967295 } with
      dir := s.dir.filter fun z => !e.segments.contains z.id
      expiry := { s.expiry with
        erased := min (s.expiry.erased + (s.dir.filter fun z => e.segments.contains z.id).length) 4294967295 } }
    exec (.eraseDone t .live) s = .next (freed.succeeded t)
    ∧ (k.state ≠ .degraded → exec (.eraseDone t .live) s = .next (freed.withTarget t { freed.target t with
        faults := if k.state = .offline then k.faults else 0 }))

/-- The erase fails on ERASE_ERROR, on its erase timer once that has reached the timeout while RUNNING, and on the ack
timer of a SUSPEND or RESUME, whose answer is then late; before that the timers change nothing. The fault it counts may
take the target DEGRADED or, at the third, OFFLINE, a waiting write withdrawn and a waiting read ended. That the events of
a GROUP stand in Directory order is the model's choice, log entry 38. -/
def Obligations.EraseFails : Prop :=
  ∀ (s : State) (t : TargetNo) (y : EraseSlot) (e : EraseEntry) (q : List EraseEntry),
    (s.target t).erase = some y → (s.target t).queue = e :: q →
    (∃ u, exec (.eraseError t .live) s = .next u ∧ s.EraseFailedTo t e q .error u)
    ∧ (y.state = .running ∧ y.timeout ≤ y.timer →
        ∃ u, exec (.eraseTimerExpiry t) s = .next u ∧ s.EraseFailedTo t e q .timeout u)
    ∧ (¬ (y.state = .running ∧ y.timeout ≤ y.timer) → exec (.eraseTimerExpiry t) s = .next s)
    ∧ (y.state = .suspendRequested ∨ y.state = .resumeRequested →
        ∃ u, exec (.ackTimerExpiry t .eraseRequest) s = .next u
          ∧ (s.withTarget t { s.target t with expired := (s.target t).expired + 1 }).EraseFailedTo t e q .timeout u)
    ∧ (y.state = .running ∨ y.state = .suspended → exec (.ackTimerExpiry t .eraseRequest) s = .next s)

/-- SUSPENDED and RESUMED answer the request outstanding: the suspension is counted, and an erase no transfer needs
suspended any more, or whose target is OFFLINE, is resumed; a resumed erase that a transfer waits for is asked to suspend
again within its budget of 8. That the suspension counter rises at the answer SUSPENDED is log entry 40. -/
def Obligations.SuspendAndResume : Prop :=
  ∀ (s : State) (t : TargetNo) (y : EraseSlot), (s.target t).erase = some y →
    let k := s.target t
    let waits : Prop := k.waitWrite = true ∨ k.waitRead ≠ none
    (y.state = .suspendRequested →
      (k.state ≠ .offline ∧ (waits ∨ k.xfer ≠ none) → exec (.suspended t .live) s = .next (s.withTarget t { k with
        erase := some { y with state := .suspended, suspends := y.suspends + 1 }
        suspensions := min (k.suspensions + 1) 4294967295 }))
      ∧ (k.state = .offline ∨ ¬ waits ∧ k.xfer = none → exec (.suspended t .live) s = .next (s.withTarget t { k with
        erase := some { y with state := .resumeRequested, suspends := y.suspends + 1 }
        suspensions := min (k.suspensions + 1) 4294967295 })))
    ∧ (y.state = .resumeRequested →
      (waits ∧ y.suspends < 8 → exec (.resumed t .live) s = .next (s.withTarget t { k with
        erase := some { y with state := .suspendRequested } }))
      ∧ (¬ waits ∨ 8 ≤ y.suspends → exec (.resumed t .live) s = .next (s.withTarget t { k with
        erase := some { y with state := .running } })))
    ∧ (y.state ≠ .suspendRequested → exec (.suspended t .live) s = .next (s.withTarget t { k with
        unexpected := min (k.unexpected + 1) 4294967295 }))
    ∧ (y.state ≠ .resumeRequested → exec (.resumed t .live) s = .next (s.withTarget t { k with
        unexpected := min (k.unexpected + 1) 4294967295 }))

/-- The suspend budget of R105 holds after every step: an issued erase has been suspended at most 8 times, and a SUSPEND
is outstanding only below 8. -/
def Obligations.SuspendBudgetIsKept : Prop :=
  ∀ s t : State, s.suspendsSound = true → step s = .next t → t.suspendsSound = true

/-! ### Verification and retrieval -/

/-- VERIFY and RETRIEVE are answered by the first check that applies; else the request joins the Decode Queue's tail and
pins its segment. DECODE_ACTIVATE of the head request hands its read to the target, or ends it with NOT_FOUND, TOO_LATE
or READ_FAIL OFFLINE: a directive's with its reply, one of origin SCRUB with none, counted a scrub read fail. With a request
active, or none queued, it does nothing; nor for a target SCANNING, which is the model's choice, log entry 48. -/
def Obligations.DecodeRequests : Prop :=
  ∀ (s : State) (tag : Tag) (payload : List Byte) (rest : List Directive),
    let queued (kind : RequestKind) (id : Nat) (filter : Option Nat) : State := { s.tookLong rest tag with
      audit := { s.audit with requests := s.audit.requests ++
        [{ kind := kind, segId := id, origin := some tag, filter := filter }] }
      dir := s.dir.map fun y => if y.id = id then { y with pins := y.pins + 1 } else y }
    (∀ id, s.Takes 0x15 tag payload rest → readNumber 4 payload = some id →
      exec .verify s = .next (match s.requestRefusal id none with
        | some r => s.turnedDown rest tag r
        | none => queued .verify id none))
    ∧ (∀ id filter, s.Takes 0x16 tag payload rest → readRetrieve payload = some (id, filter) →
      exec .retrieve s = .next (match s.requestRefusal id filter with
        | some r => s.turnedDown rest tag r
        | none => queued .retrieve id filter))
    ∧ (s.audit.active ≠ none ∨ s.audit.requests = [] → exec .decodeActivate s = .next s)
    ∧ (∀ r rs, s.audit.active = none → s.audit.requests = r :: rs →
      (s.entry? r.segId = none → exec .decodeActivate s = .next (s.requestEnds r rs .notFound []))
      ∧ (∀ e, s.entry? r.segId = some e → e.state = .expiring →
        exec .decodeActivate s = .next (s.requestEnds r rs .tooLate []))
      ∧ (∀ e t x, s.entry? r.segId = some e → e.state ≠ .expiring → e.place = some (t, x) →
        ((s.target t).state = .offline →
          exec .decodeActivate s = .next (s.requestEnds r rs .failed (named 4 ++ named 3)))
        ∧ ((s.target t).state = .online ∨ (s.target t).state = .degraded → exec .decodeActivate s = .next
          { s with
            audit := { s.audit with active := some (.reading t) }
            targets := vset s.targets t ({ s.target t with
              waitRead := some { extent := x, payloadLen := e.payloadLen }, erase := (s.target t).eraseWhenAsked }) })
        ∧ ((s.target t).state = .scanning → exec .decodeActivate s = .next s)))
    ∧ (∀ (u : State) (r : Request) (rs : List Request) (result : Result) (figures : List Byte),
      (r.origin = some tag → u.requestEnds r rs result figures = (u.requestDone r rs).settledWith tag result false figures)
      ∧ (r.origin = none → u.requestEnds r rs result figures = { u.requestDone r rs with
          audit := { (u.requestDone r rs).audit with scrubReadFail := min (u.audit.scrubReadFail + 1) 4294967295 } }))

/-- DECODE_COMPLETE of a VERIFY's image: a MATCH counts the verification, dates it and clears a suspect flag with
INTEGRITY CLOSED; a difference or malformed image sets the suspect flag, with INTEGRITY OPENED when it was clear; the
request ends with its reply. An entry gone or EXPIRING by then ends it with NOT_FOUND or TOO_LATE and applies nothing. A
request of origin SCRUB changes the entry alike, has no reply, and raises the scrub counter of its outcome. The reply's mark
as one flag octet is log entry 9, the look at the entry at DECODE_COMPLETE log entry 31: the model's readings. The
comparisons that give the outcome, in their order: the header's nine fields with the entry; the decode; run by run, its header
with the run record, then its recomputed digest and first sequence with its header, carrying the index (from 0: log entry 8) of
the first run that differs; the segment digest; the record count. -/
def Obligations.VerificationOutcome : Prop :=
  (∀ (s : State) (cs : List CoderJob) (r : Request) (rs : List Request) (tag : Tag),
    s.coder = .request :: cs → s.audit.requests = r :: rs → r.kind = .verify → r.origin = some tag →
    let s1 : State := { s with coder := cs }
    (s.entry? r.segId = none →
      exec .decodeComplete s = .next ((s1.requestDone r rs).settledWith tag .notFound false []))
    ∧ (∀ e, s.entry? r.segId = some e → e.state = .expiring →
      exec .decodeComplete s = .next ((s1.requestDone r rs).settledWith tag .tooLate false []))
    ∧ (∀ e, s.entry? r.segId = some e → e.state ≠ .expiring →
      let told (st : EventState) (cause : Cause) (run : Option Nat) : AuditEvent :=
        { code := .integrity, state := st, cause := some cause, source := none, day := some e.day, slot := none,
          segId := some e.id, target := none, figure := run, time := s.clock.reading }
      let marked (f : SegEntry → SegEntry) : State :=
        { s1 with dir := s.dir.map fun y => if y.id = r.segId then f y else y }
      (verifyImage e s.audit.readBuffer = .matched → exec .decodeComplete s = .next
        (((let u := marked fun y => { y with
              verifyCount := min (y.verifyCount + 1) 65535, lastVerified := some s.now.day, suspect := false }
            if e.suspect then u.recorded (told .closed .reverified none) else u).requestDone r rs).settledWith
          tag .done false (named 1 ++ be 4 (min (e.verifyCount + 1) 65535) ++ flagOctet e.suspect)))
      ∧ (∀ d, verifyImage e s.audit.readBuffer = .mismatch d → exec .decodeComplete s = .next
        ((((if e.suspect then s1
            else (marked fun y => { y with suspect := true }).recorded (told .opened d.cause d.index)) : State).requestDone
          r rs).settledWith tag .done false (named 2 ++ named d.number ++ optNum 1 d.index ++ flagOctet (!e.suspect))))
      ∧ (∀ f, verifyImage e s.audit.readBuffer = .malformed f → exec .decodeComplete s = .next
        ((((if e.suspect then s1
            else (marked fun y => { y with suspect := true }).recorded (told .opened .malformed f.run)) : State).requestDone
          r rs).settledWith tag .done false (named 3 ++ named 4 ++ optNum 1 f.run ++ flagOctet (!e.suspect))))))
  ∧ (∀ (s : State) (cs : List CoderJob) (r : Request) (rs : List Request),
    s.coder = .request :: cs → s.audit.requests = r :: rs → r.kind = .verify → r.origin = none →
    let s1 : State := { s with coder := cs }
    let up (n : Nat) : Nat := min (n + 1) 4294967295
    let unread : State := { s1.requestDone r rs with
      audit := { (s1.requestDone r rs).audit with scrubReadFail := up s.audit.scrubReadFail } }
    (s.entry? r.segId = none → exec .decodeComplete s = .next unread)
    ∧ (∀ e, s.entry? r.segId = some e → e.state = .expiring → exec .decodeComplete s = .next unread)
    ∧ (∀ e, s.entry? r.segId = some e → e.state ≠ .expiring →
      let told (st : EventState) (cause : Cause) (run : Option Nat) : AuditEvent :=
        { code := .integrity, state := st, cause := some cause, source := none, day := some e.day, slot := none,
          segId := some e.id, target := none, figure := run, time := s.clock.reading }
      let marked (f : SegEntry → SegEntry) : State :=
        { s1 with dir := s.dir.map fun y => if y.id = r.segId then f y else y }
      let clean : State :=
        let u := marked fun y => { y with
          verifyCount := min (y.verifyCount + 1) 65535, lastVerified := some s.now.day, suspect := false }
        (if e.suspect then u.recorded (told .closed .reverified none) else u).requestDone r rs
      let doubted (cause : Cause) (run : Option Nat) : State :=
        (if e.suspect then s1
          else (marked fun y => { y with suspect := true }).recorded (told .opened cause run)).requestDone r rs
      (verifyImage e s.audit.readBuffer = .matched → exec .decodeComplete s = .next { clean with
        audit := { clean.audit with scrubMatch := up s.audit.scrubMatch } })
      ∧ (∀ d, verifyImage e s.audit.readBuffer = .mismatch d → exec .decodeComplete s = .next { doubted d.cause d.index with
        audit := { (doubted d.cause d.index).audit with scrubMismatch := up s.audit.scrubMismatch } })
      ∧ (∀ f, verifyImage e s.audit.readBuffer = .malformed f → exec .decodeComplete s = .next { doubted .malformed f.run with
        audit := { (doubted .malformed f.run).audit with scrubMalformed := up s.audit.scrubMalformed } })))
  ∧ ∀ (e : SegEntry) (img : List Byte),
    let h := readHeader img
    let agree : Prop := h.segId = e.id ∧ h.cls = e.cls.val ∧ h.day = e.day ∧ h.group = e.group
      ∧ h.generation = e.generation ∧ h.payloadLen = e.payloadLen ∧ h.runCount = e.runs.length
      ∧ h.digest = (e.segDigest.map BitVec.toNat).getD 0 ∧ h.reason = (match e.sealReason with
        | some .full => 1
        | some .runs => 2
        | some .crowded => 3
        | some .dayClosed => 4
        | some .dictionary => 5
        | some .flush => 6
        | none => 0)
    (¬ agree → verifyImage e img = .mismatch .header)
    ∧ (∀ f, agree → decodeImage img = .error f → verifyImage e img = .malformed f)
    ∧ ∀ ds, agree → decodeImage img = .ok ds →
      let runSame (i : Nat) : Prop := ∃ r d, e.runs[i]? = some r ∧ ds[i]? = some d
        ∧ d.source = r.source ∧ d.slot = r.slot
        ∧ d.statusOctet = (match r.status with
          | .provisional => 0
          | .firm => 1
          | .void => 2) + (if r.continued then 128 else 0)
        ∧ d.count = r.count ∧ d.digest = (r.digest.map BitVec.toNat).getD 0 ∧ d.firstSeq = r.firstSeq
      let runSound (i : Nat) : Prop := ∃ d c, ds[i]? = some d ∧ d.recomputed.toNat = d.digest
        ∧ d.records.head? = some c ∧ c.seq = d.firstSeq
      let first (i : Nat) : Prop := i < e.runs.length ∧ ∀ j, j < i → runSame j ∧ runSound j
      let all : Prop := ∀ i, i < e.runs.length → runSame i ∧ runSound i
      let digest : Prop := (segmentDigest (ds.map DecRun.recomputed)).toNat = (e.segDigest.map BitVec.toNat).getD 0
      let firm : Nat := (ds.map fun d => if d.statusOctet % 4 = 1 then d.count else 0).sum
      ds.length = e.runs.length
      ∧ (∀ i, first i → ¬ runSame i → verifyImage e img = .mismatch (.run (some i)))
      ∧ (∀ i, first i → runSame i → ¬ runSound i → verifyImage e img = .mismatch (.digest (some i)))
      ∧ (all → ¬ digest → verifyImage e img = .mismatch (.digest none))
      ∧ (all → digest → firm ≠ e.recordCount → verifyImage e img = .mismatch (.run none))
      ∧ (all → digest → firm = e.recordCount → verifyImage e img = .matched)

/-- The last beat of a RETRIEVE's read compares the header's segment id, class, day and payload length with the entry: the
image waits for the Record Coder when they agree; when they differ the request ends FAILED, MALFORMED with no indexes, or TOO_LATE
for an EXPIRING entry, and NOT_FOUND for one gone (log entry 31). DECODE_COMPLETE of an image that decodes: the output
holds the canonical records of the FIRM runs chosen, in order, at most 167 a frame, each frame's of one run and with its index
(from 0: log entry 8), source and slot, the frames numbered from 0 and the last one alone final; the reply is DONE with frames,
records, runs and runs whose digest differs; a malformed image ends it FAILED. -/
def Obligations.RetrievalOutput : Prop :=
  (∀ (s : State) (t : TargetNo) (x : Xfer) (data : List Byte) (r : Request) (rs : List Request),
    (s.target t).xfer = some x → x.kind = .read → x.cut = false → x.beats ≤ x.beat + 1 → data.length = x.unitSize →
    s.audit.requests = r :: rs → r.kind = .retrieve →
    let image := s.audit.readBuffer ++ data
    let u := ({ s.withTarget t { s.target t with xfer := none } with
      audit := { s.audit with readBuffer := image } } : State).succeeded t
    let agree (e : SegEntry) : Prop :=
      fieldAt image 0 4 = e.id ∧ octetAt image 6 = e.cls.val ∧ fieldAt image 4 2 = e.day ∧ fieldAt image 12 4 = e.payloadLen
    let ends (result : Result) (figures : List Byte) : Prop :=
      exec (.beatAccept t .live data) s = .next ((u.requestEnds r rs result figures).eraseChecked t)
    (s.entry? r.segId = none → ends .notFound [])
    ∧ ∀ e, s.entry? r.segId = some e →
      (agree e → exec (.beatAccept t .live data) s = .next (State.eraseChecked { u with
          audit := { u.audit with active := some .decoding }, coder := u.coder ++ [.request] } t))
      ∧ (¬ agree e → e.state = .expiring → ends .tooLate [])
      ∧ (¬ agree e → e.state ≠ .expiring → r.origin ≠ none → ends .failed (named 3 ++ optNum 1 none ++ optNum 4 none)))
  ∧ ∀ (s : State) (cs : List CoderJob) (r : Request) (rs : List Request) (tag : Tag) (e : SegEntry),
    s.coder = .request :: cs → s.audit.requests = r :: rs → r.kind = .retrieve → r.origin = some tag →
    s.entry? r.segId = some e → e.state ≠ .expiring →
    (∀ ds, decodeImage s.audit.readBuffer = .ok ds → ∃ out : List RecordsFrame,
      let chosen := ds.filter fun d => d.firm && (r.filter = none || r.filter = some d.source)
      exec .decodeComplete s = .next (({ s with
          coder := cs, audit := { s.audit with active := some .sending, output := out } } : State).settledWith
        tag .done false (be 4 out.length ++ be 4 (chosen.map fun d => d.records.length).sum ++ be 4 chosen.length
          ++ be 4 (chosen.countP fun d => d.recomputed.toNat ≠ d.digest)))
      ∧ out ≠ []
      ∧ out.flatMap RecordsFrame.records = chosen.flatMap (fun d => d.records.map canonical)
      ∧ (∀ f ∈ out, f.tag = tag ∧ f.segId = r.segId ∧ f.records.length ≤ 167)
      ∧ (∀ f ∈ out, f.records ≠ [] → ∃ d ∈ chosen, ds[f.run]? = some d ∧ f.source = d.source ∧ f.slot = d.slot
          ∧ ∀ c ∈ f.records, c ∈ d.records.map canonical)
      ∧ out.map RecordsFrame.number = List.range out.length
      ∧ out.map RecordsFrame.final = List.replicate (out.length - 1) false ++ [true])
    ∧ (∀ f, decodeImage s.audit.readBuffer = .error f → exec .decodeComplete s = .next
        ((({ s with coder := cs } : State).requestDone r rs).settledWith tag .failed false
          (named 3 ++ optNum 1 f.run ++ optNum 4 f.record)))

/-- A scan classifies its extents one by one. Unit 0 of FFh makes an extent FREE; one without a sound header, and any beat that
fails (no read failure: log entry 23), leave it BAD; a sound header has the rest of the image read, then walked. In RUNNING an
image that does not walk, whose id the Directory holds, or that finds it full, leaves its extent BAD; any other gives a STORED
entry, its pins the requests that name it, its attempts 0 (log entry 52) and its group as the header has it (log entry 54), its
extent WRITTEN, raises the next segment id
beyond it, and settles its day unless the day has an entry. After the last extent the target is ONLINE, STRANDED segments
return and LOAD TARGET is answered. In a scan of the rebuild an id is new, or held by an entry whose
extent stands on a higher target, or higher on the same one: that entry is withdrawn and its extent BAD; otherwise the
extent just walked stays BAD. The rebuild ends with its last extent: its targets ONLINE, the next segment id above the
highest, every entry's day settled, REBUILT raised, the engine RUNNING with GO, START pending and START ARCHIVE answered. Its
figures as a list with a count of 2 octets, and the number of targets ONLINE in the START snapshot, are log entry 9; the order
of the targets is log entry 41, and that the entries made are those left log entry 53. -/
def Obligations.ScanMadeInRunning : Prop :=
  (∀ (s : State) (t : TargetNo) (c : Scan) (x : Xfer),
    (s.target t).scan = some c → (s.target t).xfer = some x → x.kind = .scan →
    s.scanGoesOn t c →
    let k := s.target t
    let collected (buf : List Byte) : State :=
      { s.withTarget t { k with scan := some { c with buf := buf }, xfer := none } with coder := s.coder ++ [.scan t] }
    exec (.beatError t .live) s = .next (s.scanMovedOn t)
    ∧ exec (.ackTimerExpiry t .beat) s = .next ((s.withTarget t { k with expired := k.expired + 1 }).scanMovedOn t)
    ∧ ∀ data : List Byte, data.length = x.unitSize →
      (x.first = 0 →
        ((∀ b ∈ data, b = 255) → exec (.beatAccept t .live data) s = .next
          ((s.withTarget t { k with map := k.map.map fun m => m.set c.extent .free }).scanMovedOn t))
        ∧ ((∃ b ∈ data, b ≠ 255) → ¬ SoundUnit data → exec (.beatAccept t .live data) s = .next (s.scanMovedOn t))
        ∧ ((∃ b ∈ data, b ≠ 255) → SoundUnit data →
          let beats : Nat := (512 + fieldAt data 12 4 + x.unitSize - 1) / x.unitSize
          (beats ≤ 1 → exec (.beatAccept t .live data) s = .next (collected data))
          ∧ (1 < beats → exec (.beatAccept t .live data) s = .next (s.withTarget t { k with
              scan := some { c with buf := data }
              xfer := some { x with first := 1, beats := beats, beat := 1, ackMs := k.ackMs } }))))
      ∧ (x.first ≠ 0 →
        (x.beat + 1 < x.beats → exec (.beatAccept t .live data) s = .next (s.withTarget t { k with
          scan := some { c with buf := c.buf ++ data }
          xfer := some { x with beat := x.beat + 1, ackMs := k.ackMs } }))
        ∧ (x.beats ≤ x.beat + 1 → exec (.beatAccept t .live data) s = .next (collected (c.buf ++ data)))))
  ∧ (∀ (s : State) (t : TargetNo) (c : Scan) (cs : List CoderJob) f, (s.target t).scan = some c → s.scanGoesOn t c →
    s.coder = .scan t :: cs → decodeImage c.buf = .error f →
    exec .decodeComplete s = .next (({ s with coder := cs } : State).scanMovedOn t))
  ∧ (∀ (s : State) (t : TargetNo) (c : Scan), (s.target t).scan = some c → c.rebuild = false →
    (∀ cs, s.coder = .scan t :: cs →
      let h := readHeader c.buf
      let s1 : State := { s with coder := cs }
      ∀ ds, decodeImage c.buf = .ok ds →
        (s.entry? h.segId ≠ none ∨ 4194304 ≤ s.dir.length → exec .decodeComplete s = .next (s1.scanMovedOn t))
        ∧ (s.entry? h.segId = none → s.dir.length < 4194304 →
          let made : SegEntry :=
            { id := h.segId, cls := Fin.ofNat 16 h.cls, day := h.day, state := .stored, group := h.group,
              generation := h.generation, place := some (t, c.extent), payloadLen := h.payloadLen,
              recordCount := (ds.map fun d => if d.firm then d.count else 0).sum,
              runs := ds.map fun d =>
                { source := d.source, slot := d.slot, status := if d.firm then .firm else .void,
                  continued := d.statusOctet.testBit 7, count := d.count, digest := some (BitVec.ofNat 32 d.digest),
                  firstSeq := d.firstSeq, lane := none },
              segDigest := some (BitVec.ofNat 32 h.digest), sealReason := sealOfCode h.reason, attempts := 0,
              verifyCount := 0, lastVerified := none, suspect := false,
              pins := s.audit.requests.countP fun r => r.segId = h.segId }
          let k := s.target t
          exec .decodeComplete s = .next (({ s1.withTarget t { k with
              map := k.map.map fun m => m.set c.extent .written
              scan := some { c with made := c.made ++ [h.segId] } } with
            dir := s.dir.takeWhile (fun y => y.id < h.segId) ++ [made] ++ s.dir.dropWhile fun y => y.id < h.segId
            builder := { s.builder with nextId := s.builder.nextId.bind fun n =>
              if n ≤ h.segId then (if 4294967295 ≤ h.segId then none else some (h.segId + 1)) else some n }
            tracker := if s.day? h.day = none then
                { s.tracker with settled := s.tracker.settled ||| BitVec.twoPow 65536 h.day }
              else s.tracker } : State).scanMovedOn t)))
    ∧ (∀ cs ds m, s.coder = .scan t :: cs → decodeImage c.buf = .ok ds →
      let h := readHeader c.buf
      s.entry? h.segId = none → s.dir.length < 4194304 → (s.target t).map = some m → c.extent < m.length →
      h.day < 65536 →
      ∃ u, exec .decodeComplete s = .next u
        ∧ u.entry? h.segId = some
          { id := h.segId, cls := Fin.ofNat 16 h.cls, day := h.day, state := .stored, group := h.group,
            generation := h.generation, place := some (t, c.extent), payloadLen := h.payloadLen,
            recordCount := (ds.map fun d => if d.firm then d.count else 0).sum,
            runs := ds.map fun d =>
              { source := d.source, slot := d.slot, status := if d.firm then .firm else .void,
                continued := d.statusOctet.testBit 7, count := d.count, digest := some (BitVec.ofNat 32 d.digest),
                firstSeq := d.firstSeq, lane := none },
            segDigest := some (BitVec.ofNat 32 h.digest), sealReason := sealOfCode h.reason, attempts := 0,
            verifyCount := 0, lastVerified := none, suspect := false,
            pins := s.audit.requests.countP fun r => r.segId = h.segId }
        ∧ (u.target t).map = some (m.set c.extent .written)
        ∧ (∀ n, s.builder.nextId = some n → u.builder.nextId =
            (if n ≤ h.segId then (if 4294967295 ≤ h.segId then none else some (h.segId + 1)) else some n))
        ∧ (s.day? h.day = none → u.isSettled h.day = true)
        ∧ (∀ d, d ≠ h.day ∨ s.day? h.day ≠ none → u.isSettled d = s.isSettled d)
        ∧ u.coder = cs ∧ u.clock = s.clock ∧ u.hold = s.hold ∧ u.tables = s.tables))
  ∧ (∀ (s : State) (t : TargetNo) (c : Scan) (cs : List CoderJob) (ds : List DecRun) (m : List ExtentState),
    (s.target t).scan = some c → c.rebuild = true → (s.target t).extents ≠ some (c.extent + 1) →
    s.coder = .scan t :: cs → decodeImage c.buf = .ok ds → (s.target t).map = some m → c.extent < m.length →
    let h := readHeader c.buf
    let made : SegEntry :=
      { id := h.segId, cls := Fin.ofNat 16 h.cls, day := h.day, state := .stored, group := h.group,
        generation := h.generation, place := some (t, c.extent), payloadLen := h.payloadLen,
        recordCount := (ds.map fun d => if d.firm then d.count else 0).sum,
        runs := ds.map fun d =>
          { source := d.source, slot := d.slot, status := if d.firm then .firm else .void,
            continued := d.statusOctet.testBit 7, count := d.count, digest := some (BitVec.ofNat 32 d.digest),
            firstSeq := d.firstSeq, lane := none },
        segDigest := some (BitVec.ofNat 32 h.digest), sealReason := sealOfCode h.reason, attempts := 0,
        verifyCount := 0, lastVerified := none, suspect := false,
        pins := s.audit.requests.countP fun r => r.segId = h.segId }
    ∃ u, exec .decodeComplete s = .next u ∧ u.coder = cs ∧ u.tracker = s.tracker ∧ u.builder = s.builder
      ∧ (∀ id, id ≠ h.segId → u.entry? id = s.entry? id)
      ∧ (s.entry? h.segId = none → u.entry? h.segId = some made ∧ (u.target t).map = some (m.set c.extent .written)
          ∧ ∀ v, v ≠ t → u.target v = s.target v)
      ∧ ∀ old v x, s.entry? h.segId = some old → old.place = some (v, x) →
        (t < v ∨ t = v ∧ c.extent < x → u.entry? h.segId = some made
          ∧ (u.target t).extent? c.extent = some .written ∧ ((s.target v).extent? x ≠ none → (u.target v).extent? x = some .bad))
        ∧ (¬ (t < v ∨ t = v ∧ c.extent < x) → u.dir = s.dir ∧ (u.target t).map = some m
          ∧ ∀ w, w ≠ t → u.target w = s.target w))
  ∧ ∀ (s : State) (t : TargetNo) (c : Scan) (x : Xfer) (r : ScanReply),
    (s.target t).scan = some c → c.rebuild = true → (s.target t).extents = some (c.extent + 1) →
    (∀ v k, v ≠ t → (s.target v).scan = some k → k.rebuild = true ∧ (s.target v).extents = some k.extent) →
    (∀ v k, (s.target v).scan = some k → k.reply = some r ∧ (s.target v).state = .scanning) →
    (s.target t).xfer = some x → x.kind = .scan → (∀ e ∈ s.dir, e.state = .stored) → s.builder.buffers = [] →
    let scanned := [(0 : TargetNo), 1, 2, 3].filter fun v => (s.target v).scan ≠ none
    let highest : Nat := s.dir.foldl (fun n e => max n e.id) 0
    let figures (v : TargetNo) : List Byte := [ExtentState.written, .free, .bad].flatMap fun st =>
      be 4 (((s.target v).map.getD []).countP fun y => y = st)
    ∃ u, exec (.beatError t .live) s = .next u
      ∧ (∀ v ∈ scanned, u.target v = { s.target v with
          state := .online, faults := 0, scan := none, xfer := if v = t then none else (s.target v).xfer })
      ∧ (∀ v, v ∉ scanned → u.target v = s.target v)
      ∧ u.builder = { s.builder with nextId := if 4294967295 ≤ highest then none else some (highest + 1) }
      ∧ (∀ d, d < 65536 → (u.isSettled d = true ↔ s.isSettled d = true ∨ ∃ e ∈ s.dir, e.day = d)) ∧ u.dir = s.dir
      ∧ u.audit = (s.recorded
          { code := .rebuilt, state := .point, cause := none, source := none, day := none, slot := none, segId := none,
            target := none, figure := some s.dir.length, time := s.clock.reading }).audit
      ∧ u.engine = .running ∧ u.port.flow = .go
      ∧ (vget u.notices.sources 3).flag = true
      ∧ (vget u.notices.sources 7).flag = true
      ∧ (vget u.notices.sources 7).snapshot = be 4 s.dir.length ++ be 4 (([(0 : TargetNo), 1, 2, 3].filter fun v =>
          (u.target v).state = .online).length)
      ∧ u.port.reserved = s.port.reserved.erase r.tag
      ∧ u.port.replies = s.port.replies ++ [({
          tag := r.tag, result := .done, clamped := false, figures := be 2 scanned.length ++ scanned.flatMap figures } : Reply)]

/-! ### The Hold Store -/

/-- The change directives, each check in its order and the first that applies answering: REFUSED_RANGE, REFUSED_STATE or
NOT_FOUND, REFUSED_PROTECT, BUSY. Accepted, a hold or window takes effect at once with its rescue, whose figures count the
segments rescued, lost in flight and deferred; a dropped hold is marked, a mode and level stand; the program begins, with
one reply place reserved. A payload that holds no such request is told by its octets: hold id 0 or above 65,535, first day above
last day, no such kind, an IRREVOCABLE release day absent or below the last day, no such anchor, a span above 4,095, no such mode
or level, a mark or flag above 1 (log entry 28; the widths of ADD HOLD's days: log entry 44). That SET PROTECT MODE raises no HOLD notice is log entry 26, that DROP HOLD refuses an id above
65,535 with REFUSED_RANGE log entry 40: the model's readings. -/
def Obligations.HoldChanges : Prop :=
  ∀ (s : State) (tag : Tag) (payload : List Byte) (rest : List Directive),
    (∀ x, s.Takes 0x0C tag payload rest → readAddHold payload = some x →
      let refusal : Option Result :=
        if ∃ y ∈ s.hold.holds, y.id = x.id then some .refusedRange
        else if 32 ≤ s.hold.holds.length ∨ (x.kind = .irrevocable
            ∧ (s.clock.mode = .notSet ∨ ∃ d, x.release = some d ∧ d < s.now.day)) then some .refusedState
        else s.hold.blocked
      (∀ r, refusal = some r → exec .addHold s = .next (s.turnedDown rest tag r))
      ∧ (refusal = none → ∃ t figs, exec .addHold s = .next t
        ∧ (s.tookLong rest tag).RescuedTo (fun e => x.covers e.day e.cls) t
        ∧ s.RescueFigures (fun e => x.covers e.day e.cls) t figs
        ∧ t.hold = { s.hold with holds := insertHold x s.hold.holds, unit := some (.add tag x figs) }))
    ∧ (payload.length = 14 →
      let id : Nat := fieldAt payload 0 4
      let first : Nat := fieldAt payload 4 2
      let last : Nat := fieldAt payload 6 2
      let kind : Nat := octetAt payload 10
      let mark : Nat := octetAt payload 11
      let release : Nat := fieldAt payload 12 2
      let bad : Prop := id = 0 ∨ 65535 < id ∨ last < first ∨ (kind ≠ 1 ∧ kind ≠ 2) ∨ 1 < mark
        ∨ (kind = 2 ∧ (mark = 1 ∨ release < last))
      (bad → s.Takes 0x0C tag payload rest → exec .addHold s = .next (s.turnedDown rest tag .refusedRange))
      ∧ readAddHold payload = if bad then none else some
          { id := id, firstDay := first, lastDay := last, classMask := BitVec.ofNat 16 (fieldAt payload 8 2)
            kind := if kind = 1 then .revocable else .irrevocable
            release := if kind = 1 then none else some release, marked := false })
    ∧ (payload.length = 6 →
      let anchor : Nat := octetAt payload 0
      let span : Nat := fieldAt payload 1 4
      let bad : Prop := (anchor ≠ 1 ∧ anchor ≠ 2) ∨ 4095 < span ∨ 1 < octetAt payload 5
      (bad → s.Takes 0x0B tag payload rest → exec .setGuard s = .next (s.turnedDown rest tag .refusedRange))
      ∧ readSetGuard payload = if bad then none else some
          { anchor := if anchor = 1 then .newest else .oldest, span := span, complement := decide (octetAt payload 5 = 1) })
    ∧ (payload.length = 2 →
      let mode : Nat := octetAt payload 0
      let level : Nat := octetAt payload 1
      let bad : Prop := (mode ≠ 1 ∧ mode ≠ 2 ∧ mode ≠ 3) ∨ (level ≠ 1 ∧ level ≠ 2)
      (bad → s.Takes 0x0E tag payload rest → exec .setProtectMode s = .next (s.turnedDown rest tag .refusedRange))
      ∧ readSetProtectMode payload = if bad then none else some
          (if mode = 1 then .opened else if mode = 2 then .line else .pinned, if level = 1 then .high else .low))
    ∧ (∀ g, s.Takes 0x0B tag payload rest → readSetGuard payload = some g →
      (∀ r, s.hold.blocked = some r → exec .setGuard s = .next (s.turnedDown rest tag r))
      ∧ (s.hold.blocked = none → ∃ t figs, exec .setGuard s = .next t
        ∧ (s.tookLong rest tag).RescuedTo (fun e => g.covers s.now.day (oldestDay s.dir) e.day) t
        ∧ s.RescueFigures (fun e => g.covers s.now.day (oldestDay s.dir) e.day) t figs
        ∧ t.hold = { s.hold with guard := g, unit := some (.guard tag s.hold.guard figs) }))
    ∧ (∀ id, s.Takes 0x0D tag payload rest → readNumber 4 payload = some id →
      (id = 0 ∨ 65535 < id → exec .dropHold s = .next (s.turnedDown rest tag .refusedRange))
      ∧ (id ≠ 0 → id ≤ 65535 → (∀ y ∈ s.hold.holds, y.id ≠ id) →
        exec .dropHold s = .next (s.turnedDown rest tag .notFound))
      ∧ (∀ y, id ≠ 0 → id ≤ 65535 → s.hold.holds.find? (·.id = id) = some y →
        exec .dropHold s = .next
          (if y.kind = .irrevocable ∧ (s.clock.mode = .notSet ∨ ∃ d, y.release = some d ∧ s.now.day ≤ d) then
            s.turnedDown rest tag .refusedProtect
          else match s.hold.blocked with
            | some r => s.turnedDown rest tag r
            | none => { s.tookLong rest tag with hold := { s.hold with
                holds := s.hold.holds.map fun z => if z.id = id then { z with marked := true } else z
                unit := some (.drop tag id) } })))
    ∧ (∀ m l, s.Takes 0x0E tag payload rest → readSetProtectMode payload = some (m, l) →
      let raises : Prop := l = s.hold.level ∧ (m = .pinned ∨ m = .line ∧ s.hold.mode = .opened)
      (m = s.hold.mode ∧ l = s.hold.level → exec .setProtectMode s = .next ((s.took rest).replied tag .done false []))
      ∧ (¬ (m = s.hold.mode ∧ l = s.hold.level) → exec .setProtectMode s = .next
        (if s.hold.blocked = some .refusedProtect ∧ ¬ raises then s.turnedDown rest tag .refusedProtect
         else if s.hold.unit ≠ none ∨ s.hold.lapsePending ≠ [] then s.turnedDown rest tag .busy
         else { s.tookLong rest tag with hold := { s.hold with
           mode := m, level := l, unit := some (.mode tag s.hold.mode s.hold.level) } })))

/-- HOLD_PROGRAM_END: a program that completes writes its change with the working mode and level to non-volatile memory; one
that fails undoes it; the reply or, for a lapse write, the HOLD notice follows. A pending lapse removal begins then, else the
unit is idle. With the unit idle before, nothing happens. The ids that a failed lapse write leaves, and an ADD HOLD that
completes taking its id out of them, are log entry 19; that an ADD HOLD is written whatever they leave in the memory is log
entry 47. -/
def Obligations.HoldProgramEnds : Prop :=
  ∀ s : State,
    let h := s.hold
    let ended (h' : HoldStore) : State := { s with hold := { h' with
      unit := h.lapsePending.head?.map HoldOp.lapse, lapsePending := h.lapsePending.tail } }
    let written (holds : List Hold) (g : Guard) : NvStore := { holds := holds, guard := g, mode := h.mode, level := h.level }
    (h.unit = none → ∀ ok, exec (.holdProgramEnd ok) s = .next s)
    ∧ (∀ ids more op ok, h.unit = some op → h.lapsePending = ids :: more →
      ∃ t, exec (.holdProgramEnd ok) s = .next t ∧ t.hold.unit = some (.lapse ids) ∧ t.hold.lapsePending = more)
    ∧ ((∀ tag x figs, h.unit = some (.add tag x figs) →
        exec (.holdProgramEnd true) s = .next ((ended { h with
            nv := written (insertHold x (h.nv.holds.filter (fun y => y.id ≠ x.id))) h.nv.guard
            lapseFailed := h.lapseFailed.filter (fun i => i ≠ x.id) }).settledWith
          tag .done false (be 4 x.id ++ be 4 figs.rescued ++ be 4 figs.lost ++ be 4 figs.deferred))
        ∧ exec (.holdProgramEnd false) s = .next ((ended { h with
            holds := h.holds.filter (fun y => y.id ≠ x.id) }).settledWith
          tag .failed false (be 4 x.id ++ be 4 figs.rescued ++ be 4 figs.lost ++ be 4 figs.deferred)))
      ∧ (∀ tag id, h.unit = some (.drop tag id) →
        exec (.holdProgramEnd true) s = .next ((ended { h with
            holds := h.holds.filter (fun y => y.id ≠ id)
            nv := written (h.nv.holds.filter (fun y => y.id ≠ id)) h.nv.guard }).settledWith tag .done false [])
        ∧ exec (.holdProgramEnd false) s = .next ((ended { h with
            holds := h.holds.map fun y => if y.id = id then { y with marked := false } else y }).settledWith
          tag .failed false []))
      ∧ (∀ tag old figs, h.unit = some (.guard tag old figs) →
        exec (.holdProgramEnd true) s = .next ((ended { h with nv := written h.nv.holds h.guard }).settledWith
          tag .done false (be 4 figs.rescued ++ be 4 figs.lost ++ be 4 figs.deferred))
        ∧ exec (.holdProgramEnd false) s = .next ((ended { h with guard := old }).settledWith
          tag .failed false (be 4 figs.rescued ++ be 4 figs.lost ++ be 4 figs.deferred)))
      ∧ (∀ tag m l, h.unit = some (.mode tag m l) →
        exec (.holdProgramEnd true) s = .next ((ended { h with nv := written h.nv.holds h.nv.guard }).settledWith
          tag .done false [])
        ∧ exec (.holdProgramEnd false) s = .next ((ended { h with mode := m, level := l }).settledWith
          tag .failed false []))
      ∧ (∀ ids, h.unit = some (.lapse ids) →
        exec (.holdProgramEnd true) s = .next ((ended { h with
            nv := written (h.nv.holds.filter (fun y => !ids.contains y.id)) h.nv.guard }).pended 6
          (be 4 ids.length ++ be 4 h.holds.length))
        ∧ exec (.holdProgramEnd false) s = .next ((ended { h with lapseFailed := h.lapseFailed ++ ids }).pended 6
          (be 4 0 ++ be 4 h.holds.length))))

/-! ### The directives that set up the part -/

/-- LOAD SOURCES, LOAD TYPE MAP, LOAD CLASSES and LOAD DICTIONARY: the whole list is checked first, and refused with
REFUSED_RANGE it changes nothing; accepted, each named entry is replaced and no other. A class whose dictionary group
changes, and every class of a group loaded, has its OPEN segments sealed, with reason DICTIONARY, HELD exactly while a run is PROVISIONAL and every
digest fixed, so that none is OPEN afterwards (the order of the seals: log entry 41). That the
CLAMPED reply of LOAD CLASSES gives each class with its retention, and nothing where none was clamped, is log entry 27. -/
def Obligations.TablesAreLoaded : Prop :=
  ∀ (s : State) (tag : Tag) (payload : List Byte) (rest : List Directive),
    (∀ l, s.Takes 0x02 tag payload rest → readLoadSources payload = some l →
      let sound : Prop := l ≠ [] ∧ l.length ≤ 512 ∧ (∀ i ∈ l, i.source ≤ 511 ∧ 1 ≤ i.filesPerDay ∧ i.filesPerDay ≤ 96)
        ∧ (l.map SourceItem.source).Nodup
      (¬ sound → exec .loadSources s = .next (s.turnedDown rest tag .refusedRange))
      ∧ (sound → ∃ v, exec .loadSources s = .next
          (({ s.took rest with tracker := { s.tracker with sources := v } } : State).replied tag .done false [])
        ∧ (∀ i ∈ l, ∀ n : Fin 512, n.val = i.source → vget v n =
            { active := i.active, filesPerDay := i.filesPerDay
              expected := if i.clearTracking then none else (vget s.tracker.sources n).expected
              duplicates := if i.clearTracking then 0 else (vget s.tracker.sources n).duplicates
              conflicts := if i.clearTracking then 0 else (vget s.tracker.sources n).conflicts })
        ∧ ∀ n : Fin 512, (∀ i ∈ l, i.source ≠ n.val) → vget v n = vget s.tracker.sources n))
    ∧ (∀ l, s.Takes 0x03 tag payload rest → readLoadTypeMap payload = some l →
      let sound : Prop := (∀ i ∈ l, ∀ c, i.2 = some c → c ≤ 13) ∧ (l.map Prod.fst).Nodup
      (¬ sound → exec .loadTypeMap s = .next (s.turnedDown rest tag .refusedRange))
      ∧ (sound → ∃ v, exec .loadTypeMap s = .next
          (({ s.took rest with tables := { s.tables with typeMap := v } } : State).replied tag .done false [])
        ∧ (∀ i ∈ l, ∀ n : Fin 256, n.val = i.1 → (vget v n).map Fin.val = i.2)
        ∧ ∀ n : Fin 256, (∀ i ∈ l, i.1 ≠ n.val) → vget v n = vget s.tables.typeMap n))
    ∧ (∀ l, s.Takes 0x04 tag payload rest → readLoadClasses payload = some l →
      let sound : Prop := (∀ i ∈ l, i.cls ≤ 15 ∧ i.target ≤ 3 ∧ i.group ≤ 3) ∧ (l.map ClassItem.cls).Nodup
      let clamped : Bool := l.any fun i => 4095 < i.retention
      (¬ sound → exec .loadClasses s = .next (s.turnedDown rest tag .refusedRange))
      ∧ (sound → ∃ t : State, exec .loadClasses s = .next (t.replied tag .done clamped (if clamped then
            be 2 l.length ++ l.flatMap fun i => be 1 i.cls ++ be 4 (min i.retention 4095) else []))
        ∧ t = { s.took rest with tables := t.tables, dir := t.dir, builder := t.builder, commit := t.commit }
        ∧ t.tables = { s.tables with classes := t.tables.classes }
        ∧ (∀ i ∈ l, ∀ n : ClassNo, n.val = i.cls →
            (vget t.tables.classes n).retention = min i.retention 4095
            ∧ (vget t.tables.classes n).target.val = i.target ∧ (vget t.tables.classes n).group.val = i.group
            ∧ (vget t.tables.classes n).enable = i.enable
            ∧ ((vget s.tables.classes n).group.val ≠ i.group → ∀ e ∈ t.dir, e.cls = n → e.state ≠ .opened))
        ∧ (∃ u, Through (fun (i : ClassItem) x y => x.AllSealedTo ((x.dir.filter fun e => e.state = .opened
              && e.cls.val = i.cls && (vget s.tables.classes e.cls).group.val ≠ i.group).map SegEntry.id) .dictionary y)
            l (s.took rest) u
          ∧ t.dir = u.dir ∧ t.builder = u.builder ∧ t.commit = u.commit)
        ∧ ∀ n : ClassNo, (∀ i ∈ l, i.cls ≠ n.val) → vget t.tables.classes n = vget s.tables.classes n))
    ∧ (∀ d, s.Takes 0x05 tag payload rest → readLoadDictionary payload = some d →
      let sound : Prop := d.group ≤ 3 ∧ d.prefixes.length ≤ 64
        ∧ (∀ p ∈ d.prefixes, 1 ≤ p.1 ∧ p.1 ≤ 12 ∧ ∀ x ∈ p.2, x ≤ 9) ∧ (d.prefixes.map Prod.snd).Nodup
      (¬ sound → exec .loadDictionary s = .next (s.turnedDown rest tag .refusedRange))
      ∧ (∀ g : Fin 4, sound → g.val = d.group → ∃ t : State,
        let seals := s.dir.filter fun e => e.state = .opened && (vget s.tables.classes e.cls).group = g
        exec .loadDictionary s = .next (t.replied tag .done false
          (be 1 (((vget s.tables.dict g).generation + 1) % 256) ++ be 4 seals.length))
        ∧ t = { s.took rest with tables := t.tables, dir := t.dir, builder := t.builder, commit := t.commit }
        ∧ t.tables = { s.tables with dict := vset s.tables.dict g ({
            prefixes := d.prefixes.map Prod.snd, generation := ((vget s.tables.dict g).generation + 1) % 256 }) }
        ∧ (∀ e ∈ t.dir, (vget s.tables.classes e.cls).group = g → e.state ≠ .opened)
        ∧ (∃ u, (s.took rest).AllSealedTo (seals.map SegEntry.id) .dictionary u
          ∧ t.dir = u.dir ∧ t.builder = u.builder ∧ t.commit = u.commit)
        ∧ t.commit = { s.commit with queue := s.commit.queue ++ seals.map fun e =>
            { segId := e.id, strandedBefore := false } }))

/-- LOAD TARGET and SET TARGET by engine and target state: parameters out of range are refused, the extent count is
rounded down to a multiple of 16 and the timeouts clamped; an ABSENT target is configured, and in RUNNING scanned from
extent 0 with every extent BAD; a target in use changes no extent count. SET TARGET refuses an ABSENT or SCANNING target,
and takes one ONLINE or OFFLINE, there with a waiting write withdrawn and a waiting read ended READ_FAIL OFFLINE. A state that
is neither (the codes 3 and 5: log entry 44) and a gather flag above 1 (log entry 28) are REFUSED_RANGE. That LOAD TARGET's reply gives the timeouts only when one was clamped is log entry 27. -/
def Obligations.TargetsAreLoadedAndSet : Prop :=
  ∀ (s : State) (tag : Tag) (payload : List Byte) (rest : List Directive) (t : TargetNo),
    let k := s.target t
    (∀ p, s.Takes 0x06 tag payload rest → readLoadTarget payload = some p →
      let sound : Prop := p.target ≤ 3 ∧ (p.unitSize = 4096 ∨ p.unitSize = 16384 ∨ p.unitSize = 65536)
        ∧ 16 ≤ p.extents ∧ p.extents ≤ 1048576
      let n : Nat := p.extents - p.extents % 16
      let ack : Nat := max 1 (min 255 p.ackMs)
      let secs : Nat := max 1 (min 60 p.eraseSecs)
      let clamped : Bool := ack ≠ p.ackMs || secs ≠ p.eraseSecs
      let figures : List Byte := be 4 n ++ if clamped then be 4 ack ++ be 4 secs else []
      let loaded : Target := { k with configured := true, extents := some n, unitSize := some p.unitSize,
                                      gather := some p.gather, ackMs := ack, eraseSecs := secs }
      (¬ sound → exec .loadTarget s = .next (s.turnedDown rest tag .refusedRange))
      ∧ (sound → p.target = t.val →
        (s.engine = .rebuilding → exec .loadTarget s = .next (s.turnedDown rest tag .refusedState))
        ∧ (s.engine = .unconfigured → exec .loadTarget s = .next
            (((s.took rest).withTarget t loaded).replied tag .done clamped figures))
        ∧ (s.engine = .running → k.state = .absent → exec .loadTarget s = .next
            ((s.tookLong rest tag).withTarget t { loaded with
              state := .scanning, map := some (List.replicate n .bad)
              scan := some { rebuild := false, extent := 0, buf := [], made := [],
                             reply := some { tag := tag, clamped := clamped, figures := figures } }
              xfer := some { kind := .scan, extent := 0, first := 0, beats := 1, unitSize := p.unitSize,
                             gather := p.gather, beat := 0, ackMs := ack, image := [], cut := false } }))
        ∧ (s.engine = .running → k.state = .scanning → exec .loadTarget s = .next (s.turnedDown rest tag .refusedState))
        ∧ (s.engine = .running → k.state ≠ .absent → k.state ≠ .scanning → exec .loadTarget s = .next
            (if k.extents = some n then
              ((s.took rest).withTarget t { k with
                unitSize := some p.unitSize, gather := some p.gather, ackMs := ack, eraseSecs := secs }).replied
                tag .done clamped figures
            else s.turnedDown rest tag .refusedState))))
    ∧ (∀ number online, s.Takes 0x07 tag payload rest → readSetTarget payload = some (number, online) →
      (3 < number → exec .setTarget s = .next (s.turnedDown rest tag .refusedRange))
      ∧ (number = t.val →
        (k.state = .absent ∨ k.state = .scanning → exec .setTarget s = .next (s.turnedDown rest tag .refusedState))
        ∧ (k.state = .online → online = true → exec .setTarget s = .next
            (((s.took rest).withTarget t { k with faults := 0 }).replied tag .done false []))
        ∧ (k.state = .offline → online = false → exec .setTarget s = .next ((s.took rest).replied tag .done false []))
        ∧ (k.state = .online ∨ k.state = .degraded → online = false → k.waitWrite = false → k.waitRead = none →
          exec .setTarget s = .next ((((s.took rest).withTarget t { k with
            state := .offline
            erase := k.erase.map fun y => if y.state = .suspended then { y with state := .resumeRequested } else y
            xfer := k.xfer.map fun x => if x.kind = .read then { x with cut := true } else x }).pended 3
              (be 1 t.val ++ named 5)).replied tag .done false []))
        ∧ (k.state = .online ∨ k.state = .degraded → online = false →
          exec .setTarget s = .next (((s.took rest).wentOffline t).replied tag .done false []))))
    ∧ (payload.length = 18 →
      (1 < octetAt payload 9 → s.Takes 0x06 tag payload rest →
        exec .loadTarget s = .next (s.turnedDown rest tag .refusedRange))
      ∧ readLoadTarget payload = if 1 < octetAt payload 9 then none else some
          { target := octetAt payload 0, extents := fieldAt payload 1 4, unitSize := fieldAt payload 5 4
            gather := decide (octetAt payload 9 = 1), ackMs := fieldAt payload 10 4, eraseSecs := fieldAt payload 14 4 })
    ∧ (payload.length = 2 →
      let bad : Prop := octetAt payload 1 ≠ 3 ∧ octetAt payload 1 ≠ 5
      (bad → s.Takes 0x07 tag payload rest → exec .setTarget s = .next (s.turnedDown rest tag .refusedRange))
      ∧ readSetTarget payload = if bad then none else some (octetAt payload 0, decide (octetAt payload 1 = 3)))

/-- START ARCHIVE: refused unless the engine is UNCONFIGURED, the clock is set and a target is configured; else the
engine is REBUILDING with an empty Directory and next segment id 1, and every configured target is scanned from extent 0
with every extent BAD. -/
def Obligations.ArchiveStarts : Prop :=
  ∀ (s : State) (tag : Tag) (rest : List Directive), s.Takes 0x0F tag [] rest →
    let refused : Prop := s.engine ≠ .unconfigured ∨ s.clock.mode = .notSet ∨ ∀ t, (s.target t).configured = false
    (refused → exec .startArchive s = .next (s.turnedDown rest tag .refusedState))
    ∧ (¬ refused → exec .startArchive s = .next { s.tookLong rest tag with
        engine := .rebuilding, dir := [], builder := { s.builder with nextId := some 1 }
        targets := s.targets.map fun k => if k.configured then
            { k with
              state := .scanning
              map := k.extents.map fun n => List.replicate n .bad
              scan := some { rebuild := true, extent := 0, buf := [], made := [],
                             reply := some { tag := tag, clamped := false, figures := [] } }
              xfer := match k.unitSize, k.gather with
                | some unit, some gather => some (unitZeroRead 0 unit gather k.ackMs)
                | _, _ => k.xfer }
          else k })

/-- SET DAY POLICY and SET SWEEP use their values clamped to their ranges and mark the reply CLAMPED when one was; SET
SWEEP restarts the minute count with a sweep next; SET NOTICES replaces the enables, master enable, mode and promoted
source, and keeps flags, snapshots and counts. A sweep or notice mode of no name, a promoted source above 7 and a flag above 1
(log entry 28) are REFUSED_RANGE and change nothing; the order and widths of SET NOTICES's octets are log entries 9 and 44. That
a CLAMPED reply carries all the values used, and a reply without the
mark none, is log entry 27. -/
def Obligations.SettingsAreTaken : Prop :=
  ∀ (s : State) (tag : Tag) (payload : List Byte) (rest : List Directive),
    (∀ p, s.Takes 0x08 tag payload rest → readSetDayPolicy payload = some p →
      let close : Nat := min 2880 p.closeDelay
      let window : Nat := max 1 (min 400 p.acceptWindow)
      let lane : Nat := max 1 (min 3600 p.laneTimeout)
      let clamped : Bool := close ≠ p.closeDelay || window ≠ p.acceptWindow || lane ≠ p.laneTimeout
      exec .setDayPolicy s = .next (({ s.took rest with tracker := { s.tracker with
          policy := { closeDelay := close, acceptWindow := window, laneTimeout := lane } } } : State).replied
        tag .done clamped (if clamped then be 4 close ++ be 4 window ++ be 4 lane else [])))
    ∧ (∀ p, s.Takes 0x09 tag payload rest → readSetSweep payload = some p →
      let interval : Nat := max 1 (min 1440 p.interval)
      let batch : Nat := max 1 (min 65535 p.batch)
      let scrub : Nat := max 1 (min 6 p.scrubBatch)
      let clamped : Bool := interval ≠ p.interval || batch ≠ p.batch || scrub ≠ p.scrubBatch
      exec .setSweep s = .next (({ s.took rest with expiry := { s.expiry with
          mode := p.mode, alternate := p.alternate, interval := interval, batch := batch, scrubBatch := scrub
          count := 0, nextKind := .sweep } } : State).replied
        tag .done clamped (if clamped then be 4 interval ++ be 4 batch ++ be 4 scrub else [])))
    ∧ (∀ p, s.Takes 0x0A tag payload rest → readSetNotices payload = some p →
      ∃ v, exec .setNotices s = .next (({ s.took rest with
          notices := { sources := v, master := p.master, mode := p.mode, promoted := p.promoted } } : State).replied
        tag .done false [])
      ∧ ∀ i : Fin 8, vget v i = { vget s.notices.sources i with enable := p.enables.testBit i.val })
    ∧ (payload.length = 14 →
      let mode : Nat := octetAt payload 0
      let bad : Prop := (mode ≠ 1 ∧ mode ≠ 2 ∧ mode ≠ 3) ∨ 1 < octetAt payload 1
      (bad → s.Takes 0x09 tag payload rest → exec .setSweep s = .next (s.turnedDown rest tag .refusedRange))
      ∧ readSetSweep payload = if bad then none else some
          { mode := if mode = 1 then .off else if mode = 2 then .single else .cyclic
            alternate := decide (octetAt payload 1 = 1), interval := fieldAt payload 2 4, batch := fieldAt payload 6 4
            scrubBatch := fieldAt payload 10 4 })
    ∧ (payload.length = 4 →
      let mode : Nat := octetAt payload 2
      let bad : Prop := 1 < octetAt payload 1 ∨ (mode ≠ 1 ∧ mode ≠ 2 ∧ mode ≠ 3) ∨ 7 < octetAt payload 3
      (bad → s.Takes 0x0A tag payload rest → exec .setNotices s = .next (s.turnedDown rest tag .refusedRange))
      ∧ readSetNotices payload = if bad then none else some
          { enables := octetAt payload 0, master := decide (octetAt payload 1 = 1)
            mode := if mode = 1 then .fixed else if mode = 2 then .promote else .silent
            promoted := Fin.ofNat 8 (octetAt payload 3) })

/-! ### The directives that operate the part -/

/-- WAIVE: the four refusals in their order; else every MISSING or DEFECTIVE slot named is WAIVED with its event, and the
reply counts the slots waived and those skipped as IN_PROGRESS; then both tests of the day follow. First for an OPEN day,
where no retirement follows, then for any. The ascending order of the events of ALL is log entry 41. -/
def Obligations.SlotsAreWaived : Prop :=
  ∀ (s : State) (tag : Tag) (payload : List Byte) (rest : List Directive) (p : WaiveParams),
    s.Takes 0x11 tag payload rest → readWaive payload = some p →
    (511 < p.source → exec .waive s = .next (s.turnedDown rest tag .refusedRange))
    ∧ (p.source ≤ 511 → s.record? p.source p.day = none → exec .waive s = .next (s.turnedDown rest tag .notFound))
    ∧ (∀ r, p.source ≤ 511 → s.record? p.source p.day = some r →
      (∀ i, p.slot = some i → r.expected ≤ i → exec .waive s = .next (s.turnedDown rest tag .refusedRange))
      ∧ (∀ i x, p.slot = some i → i < r.expected → r.slots[i]? = some x → x.state = .inProgress →
        exec .waive s = .next (s.turnedDown rest tag .refusedState))
      ∧ (∀ d, s.day? p.day = some d → d.state = .opened →
        (∀ i, p.slot = some i → i < r.expected ∧ ∃ x, r.slots[i]? = some x ∧ x.state ≠ .inProgress) →
        let named : List (Nat × Slot) := ((List.range r.slots.length).zip r.slots).filter fun x =>
          p.slot = none || p.slot = some x.1
        let events : List AuditEvent := named.flatMap fun x =>
          let f : FileInfo := { source := p.source, day := p.day, slot := x.1, seq := 0 }
          if x.2.state = .missing then [s.about .gap .closed (some .waived) f none]
          else if x.2.state = .defective then [s.about .defect .closed (some .waived) f none]
          else []
        let change (x : Nat × Slot) : Slot :=
          if ¬ (p.slot = none ∨ p.slot = some x.1) then x.2
          else if x.2.state = .missing then { x.2 with state := .waived, gapOpen := false }
          else if x.2.state = .defective then { x.2 with state := .waived, facts := none }
          else x.2
        ∃ t : State, exec .waive s = .next (t.replied tag .done false
            (be 4 (named.countP fun x => x.2.state = .missing || x.2.state = .defective)
              ++ be 4 (named.countP fun x => x.2.state = .inProgress)))
          ∧ t.record? p.source p.day = some { r with slots := ((List.range r.slots.length).zip r.slots).map change }
          ∧ (∀ a b, a ≠ p.source ∨ b ≠ p.day → t.record? a b = s.record? a b)
          ∧ t.audit = (events.foldl State.recorded s).audit
          ∧ t = { s.took rest with tracker := { s.tracker with records := t.tracker.records }, audit := t.audit,
                                   notices := t.notices })
      ∧ ((∀ i, p.slot = some i → i < r.expected ∧ ∀ x, r.slots[i]? = some x → x.state ≠ .inProgress) →
        let f (i : Nat) : FileInfo := { source := p.source, day := p.day, slot := i, seq := 0 }
        let chosen := ((List.range r.slots.length).zip r.slots).filter fun x => p.slot = none || p.slot = some x.1
        let waived (i : Nat) (x : Slot) : Slot :=
          if ¬ (i < r.slots.length ∧ (p.slot = none ∨ p.slot = some i)) then x
          else if x.state = .missing then { x with state := .waived, gapOpen := false }
          else if x.state = .defective then { x with state := .waived, facts := none }
          else x
        let events : List AuditEvent := chosen.flatMap fun x =>
          if x.2.state = .missing then [s.about .gap .closed (some .waived) (f x.1) none]
          else if x.2.state = .defective then [s.about .defect .closed (some .waived) (f x.1) none]
          else []
        let u := (events.foldl State.recorded (s.withRecord (f 0) fun y => { y with
          slots := (List.range y.slots.length).zipWith waived y.slots })).tested p.day
        ∃ t : State, exec .waive s = .next (t.replied tag .done false
            (be 4 (chosen.countP fun x => x.2.state = .missing || x.2.state = .defective)
              ++ be 4 (chosen.countP fun x => x.2.state = .inProgress)))
          ∧ t = { s.took rest with tracker := u.tracker, audit := u.audit, notices := u.notices }))

/-- FLUSH: a class above 15 is refused, also where the FLUSH would wait while another waits (that this is tested before BUSY is the
model's choice, log entry 51), and BUSY answers a waiting FLUSH while another waits; else every OPEN segment that
matches is sealed with reason FLUSH, in ascending id, and joins the Commit Queue, HELD exactly while a run is PROVISIONAL and
its digests fixed. Without the wait flag, or with nothing
sealed, the reply is made at once; with it, the reply waits for the segments' ends. -/
def Obligations.FlushSeals : Prop :=
  ∀ (s : State) (tag : Tag) (payload : List Byte) (rest : List Directive) (p : FlushParams),
    s.Takes 0x12 tag payload rest → readFlush payload = some p →
    (∀ c, p.cls = some c → 15 < c → exec .flush s = .next (s.turnedDown rest tag .refusedRange))
    ∧ ((∀ c, p.cls = some c → c ≤ 15) →
      (p.wait = true → s.builder.flush ≠ none → exec .flush s = .next (s.turnedDown rest tag .busy))
      ∧ (p.wait = false ∨ s.builder.flush = none →
        let ids := (s.dir.filter fun e => e.state = .opened && p.cls.all (· = e.cls.val) && p.day.all (· = e.day)).map
          SegEntry.id
        ∃ t : State, t = { s.tookLong rest tag with dir := t.dir, builder := t.builder, commit := t.commit }
          ∧ t.builder = { s.builder with buffers := t.builder.buffers, openIndex := t.builder.openIndex }
          ∧ t.commit = { s.commit with queue := s.commit.queue ++ ids.map fun id =>
              { segId := id, strandedBefore := false } }
          ∧ (s.tookLong rest tag).AllSealedTo ids .flush t
          ∧ (∀ e ∈ t.dir, e.id ∈ ids → (e.state = .held ∨ e.state = .sealed) ∧ e.sealReason = some .flush)
          ∧ (∀ id, id ∉ ids → t.entry? id = s.entry? id ∧ t.buffer? id = s.buffer? id)
          ∧ (∀ x ∈ t.builder.openIndex, x.segId ∉ ids)
          ∧ (p.wait = false → exec .flush s = .next (t.settledWith tag .done false (be 4 ids.length)))
          ∧ (p.wait = true → ids = [] →
              exec .flush s = .next (t.settledWith tag .done false (be 4 0 ++ be 4 0 ++ be 4 0 ++ be 4 0)))
          ∧ (p.wait = true → ids ≠ [] → exec .flush s = .next { t with builder := { t.builder with
              flush := some { tag := tag, awaited := ids, count := ids.length, stored := 0, stranded := 0,
                              discarded := 0 } } })))

/-- CLEAR SUSPECT: segment id 0 and an absent id are refused; a clear flag is left and marked already clear; a set flag
clears with INTEGRITY CLOSED, cause CLEARED, carrying the segment id and day. The mark is one flag octet of the reply,
log entry 9. -/
def Obligations.SuspectIsCleared : Prop :=
  ∀ (s : State) (tag : Tag) (payload : List Byte) (rest : List Directive) (id : Nat),
    s.Takes 0x18 tag payload rest → readNumber 4 payload = some id →
    (id = 0 → exec .clearSuspect s = .next (s.turnedDown rest tag .refusedRange))
    ∧ (id ≠ 0 → s.entry? id = none → exec .clearSuspect s = .next (s.turnedDown rest tag .notFound))
    ∧ (∀ e, id ≠ 0 → s.entry? id = some e → e.suspect = false →
        exec .clearSuspect s = .next ((s.took rest).replied tag .done false [1]))
    ∧ (∀ e, id ≠ 0 → s.entry? id = some e → e.suspect = true →
        exec .clearSuspect s = .next ((({ s.took rest with
            dir := s.dir.map fun y => if y.id = id then { y with suspect := false } else y } : State).recorded
          { code := .integrity, state := .closed, cause := some .cleared, source := none, day := some e.day, slot := none,
            segId := some id, target := none, figure := none, time := s.clock.reading }).replied tag .done false [0]))

/-! ### The directives that query the part -/

/-- READ EVENTS: an n outside 1 to 16 is refused; else up to n of the oldest events leave the queue, and with one removed
and the lost counter above 0, an EVENTS_LOST with the counter joins the tail unannounced and the counter is 0; the
reply carries the events removed and the number left. The 24 octets of an event, by offset: its code, state and cause number (its
place among the causes of its code and state), which fields are present, and each of them, zero where absent. -/
def Obligations.EventsAreRead : Prop :=
  (∀ (s : State) (tag : Tag) (payload : List Byte) (rest : List Directive) (n : Nat),
    s.Takes 0x1D tag payload rest → readNumber 4 payload = some n →
    (n = 0 ∨ 16 < n → exec .readEvents s = .next (s.turnedDown rest tag .refusedRange))
    ∧ (1 ≤ n → n ≤ 16 →
      let got := s.audit.events.take n
      let lost : Bool := decide (s.audit.events ≠ [] ∧ 0 < s.audit.lost)
      let left := s.audit.events.drop n ++ if lost then
        [{ code := .eventsLost, state := .point, cause := none, source := none, day := none, slot := none, segId := none,
           target := none, figure := some s.audit.lost, time := s.clock.reading }] else []
      exec .readEvents s = .next (({ s.took rest with audit := { s.audit with
          events := left, lost := if lost then 0 else s.audit.lost } } : State).replied tag .done false
        (be 1 got.length ++ be 1 left.length ++ got.flatMap AuditEvent.octets))))
  ∧ ∀ e : AuditEvent, e.source.all (· < 2 ^ 16) = true → e.day.all (· < 2 ^ 16) = true → e.slot.all (· < 2 ^ 8) = true →
    e.target.all (· < 2 ^ 8) = true → e.segId.all (· < 2 ^ 32) = true → e.figure.all (· < 2 ^ 32) = true →
    e.time.all (fun x => decide (x.day < 2 ^ 16) && decide (x.second < 2 ^ 32)) = true →
    let o := e.octets
    o.length = 24
    ∧ octetAt o 0 = (match e.code with
      | .gap => 1
      | .defect => 2
      | .conflict => 3
      | .lateFile => 4
      | .fileRefused => 5
      | .fileAborted => 6
      | .sequenceJump => 7
      | .integrity => 8
      | .stranded => 9
      | .eraseFailed => 10
      | .eventsLost => 11
      | .rebuilt => 12)
    ∧ octetAt o 1 = (match e.state with
      | .opened => 1
      | .closed => 2
      | .point => 3)
    ∧ (e.cause = none → octetAt o 2 = 0)
    ∧ (∀ code st causes, (code, st, causes) ∈ [(EventCode.gap, EventState.closed, [Cause.late, .waived]),
          (.defect, .opened, [.rejected, .count]), (.defect, .closed, [.waived]), (.conflict, .point, [.digest, .noDigest]),
          (.fileRefused, .point, [.refuse .notReady, .refuse .unknownSource, .refuse .slotRange, .refuse .future,
            .refuse .stale, .refuse .dayTableFull, .refuse .continuityFull]),
          (.fileAborted, .point, [.abort .superseded, .abort .aborted, .abort .stalled, .abort .corrupt, .abort .format,
            .abort .overrun, .abort .reset]),
          (.integrity, .opened, [.header, .run, .digest, .malformed]), (.integrity, .closed, [.reverified, .cleared]),
          (.eraseFailed, .point, [.error, .timeout])] →
        e.code = code → e.state = st → ∀ c ∈ causes, e.cause = some c → octetAt o 2 = causes.idxOf c + 1)
    ∧ octetAt o 3 < 128
    ∧ (∀ i present, (i, present) ∈ [(0, e.source.isSome), (1, e.day.isSome), (2, e.slot.isSome), (3, e.segId.isSome),
          (4, e.target.isSome), (5, e.figure.isSome), (6, e.time.isSome)] → (octetAt o 3).testBit i = present)
    ∧ fieldAt o 4 2 = e.source.getD 0 ∧ fieldAt o 6 2 = e.day.getD 0 ∧ octetAt o 8 = e.slot.getD 0
    ∧ octetAt o 9 = e.target.getD 0 ∧ fieldAt o 10 4 = e.segId.getD 0 ∧ fieldAt o 14 4 = e.figure.getD 0
    ∧ (e.time = none → slice o 18 6 = List.replicate 6 255)
    ∧ ∀ x, e.time = some x → fieldAt o 18 2 = x.day ∧ fieldAt o 20 4 = x.second

/-- The other queries answer with what they report, as it stands when they are taken, and change nothing else: READ
CLOCK, READ STATUS, READ SEGMENT, READ DAY, READ CONTINUITY, READ TARGET, READ HOLDS; READ GAP SUMMARY reports the
flagged sources in ascending order and clears every flag, READ LINK clears its counters on demand after the reply is
formed. How the octets of several replies are laid out is log entry 9: one count only before the list of READ GAP SUMMARY,
8 octets for a placement number, and the forms inside the octets of the status, of a target and of the holds. The exhausted mark, the run status, origin SCRUB,
the clock's day and second, the days of a segment and a hold and the flow state are log entry 44; the forms of READ CONTINUITY are
log entry 43. -/
def Obligations.QueriesReport : Prop :=
  ∀ (s : State) (tag : Tag) (payload : List Byte) (rest : List Directive),
    let told (figures : List Byte) : Host.Outcome State Fault Refusal := .next ((s.took rest).replied tag .done false figures)
    (s.Takes 0x1B tag [] rest → exec .readClock s = told
      (named (match s.clock.mode with
        | .notSet => 1
        | .running => 2
        | .holding => 3)
        ++ optNum 2 (s.clock.reading.map Time.day) ++ optNum 4 (s.clock.reading.map Time.second)
        ++ be 4 s.clock.remainder
        ++ flagOctet (decide (s.clock.reading = some { day := 65535, second := 86399 }))))
    ∧ (s.Takes 0x1C tag [] rest → exec .readStatus s = told s.statusOctets)
    ∧ (s.Takes 0x1E tag [] rest → exec .readGapSummary s = .next
        (({ s.took rest with audit := { s.audit with gaps := 0 } } : State).replied tag .done false
          (let flagged := (List.range 512).filter fun i => s.audit.gaps.getLsbD i
           be 2 flagged.length ++ flagged.flatMap (be 2))))
    ∧ (∀ id, s.Takes 0x1F tag payload rest → readNumber 4 payload = some id →
      exec .readSegment s = (if id = 0 then .next (s.turnedDown rest tag .refusedRange)
        else match s.entry? id with
          | none => .next (s.turnedDown rest tag .notFound)
          | some e => told (e.octets ++ if e.state = .opened then
              be 8 (((s.buffer? id).map Buffer.lastPlacement).getD 0) else [])))
    ∧ (∀ day, s.Takes 0x20 tag payload rest → readNumber 2 payload = some day →
      exec .readDay s = (match s.day? day with
        | some d => told (named (if d.state = .opened then 1 else 2) ++ be 4 d.deadline ++ be 4 d.live
            ++ be 4 d.inProgress ++ be 4 d.retired.length)
        | none => if s.isSettled day then told (named 3) else .next (s.turnedDown rest tag .notFound)))
    ∧ (∀ source day, s.Takes 0x21 tag payload rest → readReadContinuity payload = some (source, day) →
      exec .readContinuity s = (if 511 < source then .next (s.turnedDown rest tag .refusedRange)
        else match s.record? source day with
          | some r => told (r.octets ++ (s.source source).octets)
          | none => .next ((s.took rest).replied tag .notFound false
              ((((s.day? day).bind fun d => d.retired.find? (·.source = source)).map RetiredItem.octets).getD []))))
    ∧ (∀ number, s.Takes 0x22 tag payload rest → readNumber 1 payload = some number →
      (3 < number → exec .readTarget s = .next (s.turnedDown rest tag .refusedRange))
      ∧ ∀ t : TargetNo, t.val = number → exec .readTarget s = told (s.target t).octets)
    ∧ (s.Takes 0x23 tag [] rest → exec .readHolds s = told s.hold.octets)
    ∧ (∀ clear, s.Takes 0x24 tag payload rest → readReadLink payload = some clear →
      exec .readLink s = .next (({ s.took rest with port := { (s.took rest).port with
          counters := if clear then {} else s.port.counters } } : State).replied tag .done false
        (s.took rest).linkOctets))

/-- The Directive Decoder: a code outside 01h to 24h is answered UNKNOWN and counted; a payload that is not of the length its
code requires is answered REFUSED_RANGE and changes nothing, for each of the 36 codes; so is a flag or mark above 1 (log entry
28) of LOAD SOURCES, LOAD TYPE MAP, LOAD CLASSES, WAIVE, FLUSH, RETRIEVE or READ LINK. With a current directive, an empty
Directive Queue or no free reply place nothing is taken. The lengths of SET NOTICES (4), ADD HOLD (14) and RETRIEVE (7), the
items of 8 octets of LOAD CLASSES and the 3 + 7n of LOAD DICTIONARY rest on field widths that are the model's choice: log entry
44. -/
def Obligations.DecoderRefusals : Prop :=
  (∀ (s : State) (code : Nat) (tag : Tag) (payload : List Byte) (rest : List Directive), s.Takes code tag payload rest →
    (code = 0 ∨ 36 < code → exec .directiveUnknown s = .next
      (({ s.took rest with port := { (s.took rest).port with counters := { s.port.counters with
          unknownDirectives := min (s.port.counters.unknownDirectives + 1) 4294967295 } } } : State).replied
        tag .unknown false []))
    ∧ (code ≠ 0 → code ≤ 36 → exec .directiveUnknown s = .next s)
    ∧ (code = 0x01 → payload.length ≠ 6 → exec .setClock s = .next (s.turnedDown rest tag .refusedRange))
    ∧ (code = 0x02 → payload.length ≠ 2 + fieldAt payload 0 2 * 8 →
        exec .loadSources s = .next (s.turnedDown rest tag .refusedRange))
    ∧ (code = 0x05 → payload.length ≠ 3 + fieldAt payload 1 2 * 7 →
        exec .loadDictionary s = .next (s.turnedDown rest tag .refusedRange))
    ∧ (code = 0x06 → payload.length ≠ 18 → exec .loadTarget s = .next (s.turnedDown rest tag .refusedRange))
    ∧ (code = 0x0B → payload.length ≠ 6 → exec .setGuard s = .next (s.turnedDown rest tag .refusedRange))
    ∧ (code = 0x0C → payload.length ≠ 14 → exec .addHold s = .next (s.turnedDown rest tag .refusedRange))
    ∧ (code = 0x0F → payload ≠ [] → exec .startArchive s = .next (s.turnedDown rest tag .refusedRange))
    ∧ (code = 0x15 → payload.length ≠ 4 → exec .verify s = .next (s.turnedDown rest tag .refusedRange))
    ∧ (code = 0x19 → payload ≠ [] → exec .engineReset s = .next (s.turnedDown rest tag .refusedRange))
    ∧ (code = 0x1C → payload ≠ [] → exec .readStatus s = .next (s.turnedDown rest tag .refusedRange))
    ∧ (code = 0x03 → payload.length ≠ 2 + fieldAt payload 0 2 * 3 →
        exec .loadTypeMap s = .next (s.turnedDown rest tag .refusedRange))
    ∧ (code = 0x04 → payload.length ≠ 2 + fieldAt payload 0 2 * 8 →
        exec .loadClasses s = .next (s.turnedDown rest tag .refusedRange))
    ∧ (∀ c n i, (c, n, i) ∈ [(0x01, 6, Instr.setClock), (0x06, 18, .loadTarget), (0x07, 2, .setTarget),
          (0x08, 12, .setDayPolicy), (0x09, 14, .setSweep), (0x0A, 4, .setNotices), (0x0B, 6, .setGuard),
          (0x0C, 14, .addHold), (0x0D, 4, .dropHold), (0x0E, 2, .setProtectMode), (0x0F, 0, .startArchive),
          (0x10, 2, .closeDay), (0x11, 6, .waive), (0x12, 6, .flush), (0x13, 0, .sweepNow), (0x14, 0, .scrubNow),
          (0x15, 4, .verify), (0x16, 7, .retrieve), (0x17, 0, .retryCommits), (0x18, 4, .clearSuspect),
          (0x19, 0, .engineReset), (0x1A, 0, .intakeReset), (0x1B, 0, .readClock), (0x1C, 0, .readStatus),
          (0x1D, 4, .readEvents), (0x1E, 0, .readGapSummary), (0x1F, 4, .readSegment), (0x20, 2, .readDay),
          (0x21, 4, .readContinuity), (0x22, 1, .readTarget), (0x23, 0, .readHolds), (0x24, 1, .readLink)] →
        code = c → payload.length ≠ n → exec i s = .next (s.turnedDown rest tag .refusedRange))
    ∧ (let n : Nat := fieldAt payload 0 2
      ∀ c i (bad : Prop), (c, i, bad) ∈ [
          (0x02, Instr.loadSources, ∃ k, k < n ∧ (1 < octetAt payload (4 + 8 * k) ∨ 1 < octetAt payload (9 + 8 * k))),
          (0x03, .loadTypeMap, ∃ k, k < n ∧ 1 < octetAt payload (3 + 3 * k)),
          (0x04, .loadClasses, ∃ k, k < n ∧ 1 < octetAt payload (9 + 8 * k)), (0x11, .waive, 1 < octetAt payload 4),
          (0x12, .flush, 1 < octetAt payload 0 ∨ 1 < octetAt payload 2 ∨ 1 < octetAt payload 5),
          (0x16, .retrieve, 1 < octetAt payload 4), (0x24, .readLink, 1 < octetAt payload 0)] →
        code = c → bad → exec i s = .next (s.turnedDown rest tag .refusedRange)))
  ∧ ∀ s : State, (s.current ≠ none ∨ 16 ≤ s.port.replies.length + s.port.reserved.length ∨ s.port.directives = []) →
      ∀ c ∈ [Instr.directiveUnknown, .setClock, .loadSources, .loadTypeMap, .loadClasses, .loadDictionary, .loadTarget,
        .setTarget, .setDayPolicy, .setSweep, .setNotices, .setGuard, .addHold, .dropHold, .setProtectMode,
        .startArchive, .closeDay, .waive, .flush, .sweepNow, .scrubNow, .verify, .retrieve, .retryCommits, .clearSuspect,
        .engineReset, .intakeReset, .readClock, .readStatus, .readEvents, .readGapSummary, .readSegment, .readDay,
        .readContinuity, .readTarget, .readHolds, .readLink], exec c s = .next s

/-! ### Invariants -/

/-- The archive clock never goes back, and keeps its form: after any step the reading is at or after the one before,
within day 65,535 and second 86,399; it is absent exactly while NOT_SET; the remainder is at most 600, and above 0 only
while HOLDING. POWER_ON starts it anew. -/
def Obligations.ClockNeverGoesBack : Prop :=
  ∀ s t : State, s.clock.sound = true → s.clock.ranged = true → step s = .next t →
    t.clock.sound = true ∧ t.clock.ranged = true
    ∧ ∀ r, s.clock.reading = some r → s.pending.head? ≠ some .powerOn →
        ∃ r', t.clock.reading = some r' ∧ r.seconds ≤ r'.seconds

/-- After every step the Audit Event Queue holds at most 64 events, and the lost counter is above 0 only while it holds
64. -/
def Obligations.AuditQueueIsKept : Prop :=
  ∀ s t : State, s.audit.sound = true → step s = .next t → t.audit.sound = true

/-- The state after power-on meets the invariants of the clock, the Audit Event Queue and the suspend budget. -/
def Obligations.ResetMeetsTheInvariants : Prop :=
  State.reset.clock.sound = true ∧ State.reset.clock.ranged = true ∧ State.reset.audit.sound = true
  ∧ State.reset.suspendsSound = true

/-! ### Encodings -/

/-- Coding is undone by decoding: a valid record coded against a context and a dictionary copy decodes to itself, and
a run of them to its records, with the octets that follow left over. The image that a commit writes of an entry and its sealed
buffer (runs laid end to end: log entry 7) is read back, whatever fills the last unit behind it: each header field at its offset,
the 40 reserved octets zero, 64 dictionary places with filler 15, the header check; the walk gives every run with its records, and
a VERIFY's comparison of it with the entry is the match. -/
def Obligations.CodedRecordsDecode : Prop :=
  (∀ (x : Ctx) (dict : List (List Nat)) (c : CallRecord) (rest : List Byte),
    x.ok = true → dictOk dict = true → c.ok = true → decodeRecord x dict (codeRecord x dict c ++ rest) = some (c, rest))
  ∧ (∀ (dict : List (List Nat)) (cs : List CallRecord) (rest : List Byte),
    dictOk dict = true → (∀ c ∈ cs, c.ok = true) →
    decodeRecords dict cs.length 0 Ctx.reset (codeRun dict Ctx.reset cs ++ rest) = .ok (cs, rest))
  ∧ ∀ (e : SegEntry) (b : Buffer) (css : List (List CallRecord)) (fill : List Byte), e.Written b css →
    let img := segmentImage e b ++ fill
    let status (r : RunRec) : Nat := (if r.status = .firm then 1 else 2) + if r.continued then 128 else 0
    let reason : Nat := match e.sealReason with
      | some .full => 1
      | some .runs => 2
      | some .crowded => 3
      | some .dayClosed => 4
      | some .dictionary => 5
      | some .flush => 6
      | none => 0
    (segmentImage e b).length = 512 + e.payloadLen
    ∧ readHeader img =
      { segId := e.id, day := e.day, cls := e.cls.val, reason := reason, group := e.group, generation := e.generation
        prefixCount := b.dict.length, runCount := e.runs.length, payloadLen := e.payloadLen
        digest := (segmentDigest (css.map runDigest)).toNat, places := b.dict.map fun p => (p.length, p) }
    ∧ slice img 20 40 = List.replicate 40 0
    ∧ (∀ i, i < 64 → let p := (b.dict[i]?).getD []
        octetAt img (60 + 7 * i) = p.length ∧ ∀ k, k < 12 →
          (if k % 2 = 0 then octetAt img (61 + 7 * i + k / 2) / 16 else octetAt img (61 + 7 * i + k / 2) % 16)
            = (p[k]?).getD 15)
    ∧ SoundUnit img
    ∧ slice img 512 e.payloadLen = (e.runs.zip css).flatMap (fun x =>
        be 2 x.1.source ++ be 1 x.1.slot ++ be 1 (status x.1) ++ be 4 x.1.count ++ be 4 (runDigest x.2).toNat
          ++ be 4 x.1.firstSeq ++ codeRun b.dict Ctx.reset x.2)
    ∧ decodeImage img = .ok ((e.runs.zip css).map fun x =>
        { source := x.1.source, slot := x.1.slot, statusOctet := status x.1, count := x.1.count
          digest := (runDigest x.2).toNat, firstSeq := x.1.firstSeq, records := x.2, recomputed := runDigest x.2 })
    ∧ verifyImage e img = .matched

/-- The four tests of R1 on the 49 octets of a record, in their order: PRESENCE, START_RANGE, DIGITS, PAD, the first that
fails giving the cause; a record that passes all four is valid. The layout of R182: every field at its offset, the digits in
BCD, and the presence octet. The 49 octets of a valid record's fields pass the tests, have the reserved presence bits clear
and read back as the fields; 49 octets that pass the tests are the ones their fields fix. -/
def Obligations.CanonicalRecordsRoundTrip : Prop :=
  (∀ c : CallRecord, c.ok = true →
    (canonical c).length = 49 ∧ octetAt (canonical c) 1 < 8 ∧ validate (canonical c) = none ∧ readRecord (canonical c) = c)
  ∧ ∀ r : List Byte, r.length = 49 →
    let start : Int := if fieldAt r 6 4 < 2 ^ 31 then (fieldAt r 6 4 : Int) else (fieldAt r 6 4 : Int) - 2 ^ 32
    let digit (off i : Nat) : Nat := if i % 2 = 0 then octetAt r (off + i / 2) / 16 else octetAt r (off + i / 2) % 16
    let present (i : Nat) : Prop := (octetAt r 1).testBit i = true
    let presence : Prop := 8 ≤ octetAt r 1
    let range : Prop := start < -86400 ∨ 86399 < start
    let digits : Prop := 20 < octetAt r 14 ∨ 24 < octetAt r 25
      ∨ (∃ i, i < octetAt r 14 ∧ 9 < digit 15 i) ∨ ∃ i, i < octetAt r 25 ∧ 9 < digit 26 i
    let pad : Prop := (∃ i, octetAt r 14 ≤ i ∧ i < 20 ∧ digit 15 i ≠ 15)
      ∨ (∃ i, octetAt r 25 ≤ i ∧ i < 24 ∧ digit 26 i ≠ 15)
      ∨ (¬ present 0 ∧ ∃ i, 38 ≤ i ∧ i < 40 ∧ octetAt r i ≠ 0)
      ∨ (¬ present 1 ∧ ∃ i, 40 ≤ i ∧ i < 45 ∧ octetAt r i ≠ 0)
      ∨ (¬ present 2 ∧ ∃ i, 45 ≤ i ∧ i < 49 ∧ octetAt r i ≠ 0)
    (validate r = some .presence ↔ presence)
    ∧ (validate r = some .startRange ↔ ¬ presence ∧ range)
    ∧ (validate r = some .digits ↔ ¬ presence ∧ ¬ range ∧ digits)
    ∧ (validate r = some .pad ↔ ¬ presence ∧ ¬ range ∧ ¬ digits ∧ pad)
    ∧ (validate r = none ↔ ¬ presence ∧ ¬ range ∧ ¬ digits ∧ ¬ pad)
    ∧ (validate r = none → (readRecord r).ok = true ∧ canonical (readRecord r) = r)
    ∧ (readRecord r).typeCode = octetAt r 0 ∧ (readRecord r).seq = fieldAt r 2 4 ∧ (readRecord r).start = start
    ∧ (readRecord r).duration = fieldAt r 10 3 ∧ (readRecord r).cause = octetAt r 13
    ∧ (octetAt r 14 ≤ 20 → (readRecord r).calling = (List.range (octetAt r 14)).map (digit 15))
    ∧ (octetAt r 25 ≤ 24 → (readRecord r).called = (List.range (octetAt r 25)).map (digit 26))
    ∧ (readRecord r).route = (if (octetAt r 1).testBit 0 = true then some (fieldAt r 38 2) else none)
    ∧ (readRecord r).volume = (if (octetAt r 1).testBit 1 = true then some (fieldAt r 40 5) else none)
    ∧ (readRecord r).charge = (if (octetAt r 1).testBit 2 = true then some (fieldAt r 45 4) else none)

/-- Frames and parameters as R179 and R180 lay them out are read back: each kind of FILE frame, LINK_RESET and a
directive through the checks of an arriving frame, and the parameters of every directive that has some through its reader,
at every value of its modes, marks and flags. A frame the part sends (FLOW, REPLY, NOTICE, RECORDS) has its fields at their
offsets, reserved octets and an unused tag zero; its kind octet is a free value of the family (log entry 50). The order of SET NOTICES's parameters is log entry 9, and the 1 octet of its
promoted source and the 2 octets of ADD HOLD's days log entry 44. -/
def Obligations.FramesAndParametersRoundTrip : Prop :=
  (∀ (l : LaneNo) (source day slot seq declared code : Nat) (crc : Crc) (tag : Tag) (payload : List Byte),
    source < 65536 → day < 65536 → slot < 256 → seq < 65536 → declared < 2 ^ 32 → payload.length ≤ 8192 →
    1 ≤ code → code < 256 →
    frameFinding (frameOctets 1 1 l.val (be 2 source ++ be 2 day ++ be 1 slot ++ be 1 0 ++ be 2 seq))
      = .sound (.file l (.opening source day slot seq))
    ∧ frameFinding (frameOctets 1 2 l.val payload) = .sound (.file l (.data payload))
    ∧ frameFinding (frameOctets 1 3 l.val (be 4 declared ++ crcOctets crc)) = .sound (.file l (.closing declared crc))
    ∧ frameFinding (frameOctets 1 4 l.val []) = .sound (.file l .aborting)
    ∧ frameFinding (frameOctets 2 0 tag.toNat payload) = .sound .linkReset
    ∧ frameFinding (frameOctets 2 code tag.toNat payload)
      = .sound (.directive { code := code, tag := tag, payload := payload }))
  ∧ (∀ a b c : Nat, a < 2 ^ 32 → b < 2 ^ 32 → c < 2 ^ 32 →
    (a < 65536 → readSetClock (be 2 a ++ be 4 b) = some { day := a, second := b })
    ∧ readSetDayPolicy (be 4 a ++ be 4 b ++ be 4 c) = some { closeDelay := a, acceptWindow := b, laneTimeout := c }
    ∧ readSetSweep (be 1 3 ++ be 1 1 ++ be 4 a ++ be 4 b ++ be 4 c)
      = some { mode := .cyclic, alternate := true, interval := a, batch := b, scrubBatch := c }
    ∧ (a ≤ 4095 → readSetGuard (be 1 2 ++ be 4 a ++ be 1 1) = some { anchor := .oldest, span := a, complement := true })
    ∧ readNumber 4 (be 4 a) = some a ∧ (a < 65536 → readNumber 2 (be 2 a) = some a)
    ∧ (a < 65536 → b < 65536 → readReadContinuity (be 2 a ++ be 2 b) = some (a, b))
    ∧ (b < 65536 → readRetrieve (be 4 a ++ optNum 2 (some b)) = some (a, some b))
    ∧ readRetrieve (be 4 a ++ optNum 2 none) = some (a, none)
    ∧ (a < 65536 → b < 65536 → readWaive (be 2 a ++ be 2 b ++ optNum 1 none)
      = some { source := a, day := b, slot := none })
    ∧ readLoadTarget (be 1 3 ++ be 4 a ++ be 4 b ++ be 1 1 ++ be 4 c ++ be 4 a)
      = some { target := 3, extents := a, unitSize := b, gather := true, ackMs := c, eraseSecs := a })
  ∧ (∀ (a b c d n : Nat) (flag other : Bool),
    a < 2 ^ 32 → b < 2 ^ 32 → c < 2 ^ 32 → d < 2 ^ 32 → n < 256 →
    (∀ m, readSetSweep (named (match m with
          | .off => 1
          | .single => 2
          | .cyclic => 3) ++ flagOctet flag ++ be 4 a ++ be 4 b ++ be 4 c)
        = some { mode := m, alternate := flag, interval := a, batch := b, scrubBatch := c })
    ∧ (∀ m, a ≤ 4095 → readSetGuard (named (match m with
          | .newest => 1
          | .oldest => 2) ++ be 4 a ++ flagOctet flag) = some { anchor := m, span := a, complement := flag })
    ∧ readLoadTarget (be 1 n ++ be 4 a ++ be 4 b ++ flagOctet flag ++ be 4 c ++ be 4 d)
      = some { target := n, extents := a, unitSize := b, gather := flag, ackMs := c, eraseSecs := d }
    ∧ readSetTarget (be 1 n ++ named (if flag then 3 else 5)) = some (n, flag)
    ∧ (∀ m (promoted : Fin 8), readSetNotices (be 1 n ++ flagOctet flag ++ named (match m with
          | .fixed => 1
          | .promote => 2
          | .silent => 3) ++ be 1 promoted.val)
        = some { enables := n, master := flag, mode := m, promoted := promoted })
    ∧ (∀ m v, readSetProtectMode (named (match m with
          | .opened => 1
          | .line => 2
          | .pinned => 3) ++ named (match v with
          | .high => 1
          | .low => 2)) = some (m, v))
    ∧ (b < 65536 → c < 65536 → readWaive (be 2 b ++ be 2 c ++ optNum 1 (if flag then some n else none))
        = some { source := b, day := c, slot := if flag then some n else none })
    ∧ (b < 65536 → ∀ wait, readFlush (optNum 1 (if flag then some n else none)
          ++ optNum 2 (if other then some b else none) ++ flagOctet wait)
        = some { cls := if flag then some n else none, day := if other then some b else none, wait := wait })
    ∧ readReadLink (flagOctet flag) = some flag ∧ readNumber 1 (be 1 n) = some n)
  ∧ (∀ h : Hold, 1 ≤ h.id → h.id ≤ 65535 → h.firstDay ≤ h.lastDay → h.lastDay < 65536 → h.marked = false →
    (h.kind = .revocable ∧ h.release = none ∨ h.kind = .irrevocable ∧ ∃ d, h.release = some d ∧ h.lastDay ≤ d ∧ d < 65536) →
    readAddHold (be 4 h.id ++ be 2 h.firstDay ++ be 2 h.lastDay ++ be 2 h.classMask.toNat ++ named (match h.kind with
        | .revocable => 1
        | .irrevocable => 2) ++ optNum 2 h.release) = some h)
  ∧ (∀ items : List (Nat × Option Nat), items.length < 65536 → (∀ i ∈ items, i.1 < 256 ∧ ∀ c, i.2 = some c → c < 256) →
    readLoadTypeMap (listOctets (items.map fun i => be 1 i.1 ++ optNum 1 i.2)) = some items)
  ∧ (∀ items : List ClassItem, items.length < 65536 →
    (∀ i ∈ items, i.cls < 256 ∧ i.retention < 2 ^ 32 ∧ i.target < 256 ∧ i.group < 256) →
    readLoadClasses (listOctets (items.map fun i =>
      be 1 i.cls ++ be 4 i.retention ++ be 1 i.target ++ be 1 i.group ++ flagOctet i.enable)) = some items)
  ∧ (∀ items : List SourceItem, items.length < 65536 →
    (∀ i ∈ items, i.source < 65536 ∧ i.filesPerDay < 2 ^ 32) →
    readLoadSources (listOctets (items.map fun i =>
      be 2 i.source ++ flagOctet i.active ++ be 4 i.filesPerDay ++ flagOctet i.clearTracking)) = some items)
  ∧ (∀ (g : Nat) (ps : List (List Nat)), g < 256 → ps.length < 65536 →
    (∀ p ∈ ps, p.length ≤ 12 ∧ ∀ d ∈ p, d ≤ 15) →
    readLoadDictionary (be 1 g ++ listOctets (ps.map placeOctets))
      = some { group := g, prefixes := ps.map fun p => (p.length, p) })
  ∧ ∀ x : Sending,
    let o := x.octets
    let n : Nat := fieldAt o 4 2
    let framed (family tag len : Nat) : Prop := o.length = 12 + len ∧ n = len ∧ octetAt o 0 = family ∧ fieldAt o 2 2 = tag
      ∧ fieldAt o 6 2 = 0 ∧ fieldAt o (8 + len) 4 = (crc32 (o.take (8 + len))).toNat
      ∧ octetAt o 1 = (Config.returnKind family).toNat
    match x with
    | .flow f => framed 3 0 1 ∧ octetAt o 8 = if f = .go then 1 else 0
    | .reply r _ => r.figures.length < 65534 → framed 4 r.tag.toNat (2 + r.figures.length)
      ∧ octetAt o 8 = (match r.result with
        | .done => 0
        | .busy => 1
        | .refusedState => 2
        | .refusedRange => 3
        | .refusedProtect => 4
        | .notFound => 5
        | .tooLate => 6
        | .failed => 7
        | .unknown => 8)
      ∧ octetAt o 9 = (if r.clamped then 1 else 0) ∧ slice o 10 r.figures.length = r.figures
    | .notice src count time snap => snap.length < 65526 → count < 256 →
      time.all (fun t => decide (t.day < 2 ^ 16) && decide (t.second < 2 ^ 32)) = true →
      framed 5 0 (10 + snap.length) ∧ octetAt o 8 = src.val ∧ octetAt o 9 = count
      ∧ (time = none → slice o 10 6 = List.replicate 6 255)
      ∧ (∀ t, time = some t → fieldAt o 10 2 = t.day ∧ fieldAt o 12 4 = t.second)
      ∧ fieldAt o 16 2 = snap.length ∧ slice o 18 snap.length = snap
    | .records f _ => f.records.length ≤ 167 → (∀ r ∈ f.records, r.length = 49) → f.number < 2 ^ 32 → f.segId < 2 ^ 32 →
      f.run < 256 → f.source < 2 ^ 16 → f.slot < 256 →
      framed 6 f.tag.toNat (16 + 49 * f.records.length) ∧ fieldAt o 8 4 = f.number ∧ fieldAt o 12 4 = f.segId
      ∧ octetAt o 16 = f.run ∧ octetAt o 17 = (if f.final then 1 else 0) ∧ fieldAt o 18 2 = f.source ∧ octetAt o 20 = f.slot
      ∧ octetAt o 21 = 0 ∧ fieldAt o 22 2 = f.records.length
      ∧ ∀ i r, f.records[i]? = some r → slice o (24 + 49 * i) 49 = r

end
end

