-- ==== Sys2Proof/Laws/State.lean ====
section
/-! SUPPORT. One lemma for each field and each update of a block: what the update makes of the field. -/

namespace Sys2Proof.Machine

/-! ### `State.setEngine` -/

@[simp] theorem State.setEngine_pending (s : State) (x : EngineState) : (s.setEngine x).pending = s.pending := rfl
@[simp] theorem State.setEngine_engine (s : State) (x : EngineState) : (s.setEngine x).engine = x := rfl
@[simp] theorem State.setEngine_current (s : State) (x : EngineState) : (s.setEngine x).current = s.current := rfl
@[simp] theorem State.setEngine_clock (s : State) (x : EngineState) : (s.setEngine x).clock = s.clock := rfl
@[simp] theorem State.setEngine_port (s : State) (x : EngineState) : (s.setEngine x).port = s.port := rfl
@[simp] theorem State.setEngine_asm (s : State) (x : EngineState) : (s.setEngine x).asm = s.asm := rfl
@[simp] theorem State.setEngine_tables (s : State) (x : EngineState) : (s.setEngine x).tables = s.tables := rfl
@[simp] theorem State.setEngine_tracker (s : State) (x : EngineState) : (s.setEngine x).tracker = s.tracker := rfl
@[simp] theorem State.setEngine_builder (s : State) (x : EngineState) : (s.setEngine x).builder = s.builder := rfl
@[simp] theorem State.setEngine_dir (s : State) (x : EngineState) : (s.setEngine x).dir = s.dir := rfl
@[simp] theorem State.setEngine_commit (s : State) (x : EngineState) : (s.setEngine x).commit = s.commit := rfl
@[simp] theorem State.setEngine_targets (s : State) (x : EngineState) : (s.setEngine x).targets = s.targets := rfl
@[simp] theorem State.setEngine_expiry (s : State) (x : EngineState) : (s.setEngine x).expiry = s.expiry := rfl
@[simp] theorem State.setEngine_hold (s : State) (x : EngineState) : (s.setEngine x).hold = s.hold := rfl
@[simp] theorem State.setEngine_audit (s : State) (x : EngineState) : (s.setEngine x).audit = s.audit := rfl
@[simp] theorem State.setEngine_coder (s : State) (x : EngineState) : (s.setEngine x).coder = s.coder := rfl
@[simp] theorem State.setEngine_notices (s : State) (x : EngineState) : (s.setEngine x).notices = s.notices := rfl

/-! ### `State.setCurrent` -/

@[simp] theorem State.setCurrent_pending (s : State) (x : Option Directive) : (s.setCurrent x).pending = s.pending := rfl
@[simp] theorem State.setCurrent_engine (s : State) (x : Option Directive) : (s.setCurrent x).engine = s.engine := rfl
@[simp] theorem State.setCurrent_current (s : State) (x : Option Directive) : (s.setCurrent x).current = x := rfl
@[simp] theorem State.setCurrent_clock (s : State) (x : Option Directive) : (s.setCurrent x).clock = s.clock := rfl
@[simp] theorem State.setCurrent_port (s : State) (x : Option Directive) : (s.setCurrent x).port = s.port := rfl
@[simp] theorem State.setCurrent_asm (s : State) (x : Option Directive) : (s.setCurrent x).asm = s.asm := rfl
@[simp] theorem State.setCurrent_tables (s : State) (x : Option Directive) : (s.setCurrent x).tables = s.tables := rfl
@[simp] theorem State.setCurrent_tracker (s : State) (x : Option Directive) : (s.setCurrent x).tracker = s.tracker := rfl
@[simp] theorem State.setCurrent_builder (s : State) (x : Option Directive) : (s.setCurrent x).builder = s.builder := rfl
@[simp] theorem State.setCurrent_dir (s : State) (x : Option Directive) : (s.setCurrent x).dir = s.dir := rfl
@[simp] theorem State.setCurrent_commit (s : State) (x : Option Directive) : (s.setCurrent x).commit = s.commit := rfl
@[simp] theorem State.setCurrent_targets (s : State) (x : Option Directive) : (s.setCurrent x).targets = s.targets := rfl
@[simp] theorem State.setCurrent_expiry (s : State) (x : Option Directive) : (s.setCurrent x).expiry = s.expiry := rfl
@[simp] theorem State.setCurrent_hold (s : State) (x : Option Directive) : (s.setCurrent x).hold = s.hold := rfl
@[simp] theorem State.setCurrent_audit (s : State) (x : Option Directive) : (s.setCurrent x).audit = s.audit := rfl
@[simp] theorem State.setCurrent_coder (s : State) (x : Option Directive) : (s.setCurrent x).coder = s.coder := rfl
@[simp] theorem State.setCurrent_notices (s : State) (x : Option Directive) : (s.setCurrent x).notices = s.notices := rfl

/-! ### `State.onClock` -/

@[simp] theorem State.onClock_pending (s : State) (f : Clock → Clock) : (s.onClock f).pending = s.pending := rfl
@[simp] theorem State.onClock_engine (s : State) (f : Clock → Clock) : (s.onClock f).engine = s.engine := rfl
@[simp] theorem State.onClock_current (s : State) (f : Clock → Clock) : (s.onClock f).current = s.current := rfl
@[simp] theorem State.onClock_clock (s : State) (f : Clock → Clock) : (s.onClock f).clock = f s.clock := rfl
@[simp] theorem State.onClock_port (s : State) (f : Clock → Clock) : (s.onClock f).port = s.port := rfl
@[simp] theorem State.onClock_asm (s : State) (f : Clock → Clock) : (s.onClock f).asm = s.asm := rfl
@[simp] theorem State.onClock_tables (s : State) (f : Clock → Clock) : (s.onClock f).tables = s.tables := rfl
@[simp] theorem State.onClock_tracker (s : State) (f : Clock → Clock) : (s.onClock f).tracker = s.tracker := rfl
@[simp] theorem State.onClock_builder (s : State) (f : Clock → Clock) : (s.onClock f).builder = s.builder := rfl
@[simp] theorem State.onClock_dir (s : State) (f : Clock → Clock) : (s.onClock f).dir = s.dir := rfl
@[simp] theorem State.onClock_commit (s : State) (f : Clock → Clock) : (s.onClock f).commit = s.commit := rfl
@[simp] theorem State.onClock_targets (s : State) (f : Clock → Clock) : (s.onClock f).targets = s.targets := rfl
@[simp] theorem State.onClock_expiry (s : State) (f : Clock → Clock) : (s.onClock f).expiry = s.expiry := rfl
@[simp] theorem State.onClock_hold (s : State) (f : Clock → Clock) : (s.onClock f).hold = s.hold := rfl
@[simp] theorem State.onClock_audit (s : State) (f : Clock → Clock) : (s.onClock f).audit = s.audit := rfl
@[simp] theorem State.onClock_coder (s : State) (f : Clock → Clock) : (s.onClock f).coder = s.coder := rfl
@[simp] theorem State.onClock_notices (s : State) (f : Clock → Clock) : (s.onClock f).notices = s.notices := rfl

/-! ### `State.onPort` -/

@[simp] theorem State.onPort_pending (s : State) (f : Port → Port) : (s.onPort f).pending = s.pending := rfl
@[simp] theorem State.onPort_engine (s : State) (f : Port → Port) : (s.onPort f).engine = s.engine := rfl
@[simp] theorem State.onPort_current (s : State) (f : Port → Port) : (s.onPort f).current = s.current := rfl
@[simp] theorem State.onPort_clock (s : State) (f : Port → Port) : (s.onPort f).clock = s.clock := rfl
@[simp] theorem State.onPort_port (s : State) (f : Port → Port) : (s.onPort f).port = f s.port := rfl
@[simp] theorem State.onPort_asm (s : State) (f : Port → Port) : (s.onPort f).asm = s.asm := rfl
@[simp] theorem State.onPort_tables (s : State) (f : Port → Port) : (s.onPort f).tables = s.tables := rfl
@[simp] theorem State.onPort_tracker (s : State) (f : Port → Port) : (s.onPort f).tracker = s.tracker := rfl
@[simp] theorem State.onPort_builder (s : State) (f : Port → Port) : (s.onPort f).builder = s.builder := rfl
@[simp] theorem State.onPort_dir (s : State) (f : Port → Port) : (s.onPort f).dir = s.dir := rfl
@[simp] theorem State.onPort_commit (s : State) (f : Port → Port) : (s.onPort f).commit = s.commit := rfl
@[simp] theorem State.onPort_targets (s : State) (f : Port → Port) : (s.onPort f).targets = s.targets := rfl
@[simp] theorem State.onPort_expiry (s : State) (f : Port → Port) : (s.onPort f).expiry = s.expiry := rfl
@[simp] theorem State.onPort_hold (s : State) (f : Port → Port) : (s.onPort f).hold = s.hold := rfl
@[simp] theorem State.onPort_audit (s : State) (f : Port → Port) : (s.onPort f).audit = s.audit := rfl
@[simp] theorem State.onPort_coder (s : State) (f : Port → Port) : (s.onPort f).coder = s.coder := rfl
@[simp] theorem State.onPort_notices (s : State) (f : Port → Port) : (s.onPort f).notices = s.notices := rfl

/-! ### `State.onAsm` -/

@[simp] theorem State.onAsm_pending (s : State) (f : Assembler → Assembler) : (s.onAsm f).pending = s.pending := rfl
@[simp] theorem State.onAsm_engine (s : State) (f : Assembler → Assembler) : (s.onAsm f).engine = s.engine := rfl
@[simp] theorem State.onAsm_current (s : State) (f : Assembler → Assembler) : (s.onAsm f).current = s.current := rfl
@[simp] theorem State.onAsm_clock (s : State) (f : Assembler → Assembler) : (s.onAsm f).clock = s.clock := rfl
@[simp] theorem State.onAsm_port (s : State) (f : Assembler → Assembler) : (s.onAsm f).port = s.port := rfl
@[simp] theorem State.onAsm_asm (s : State) (f : Assembler → Assembler) : (s.onAsm f).asm = f s.asm := rfl
@[simp] theorem State.onAsm_tables (s : State) (f : Assembler → Assembler) : (s.onAsm f).tables = s.tables := rfl
@[simp] theorem State.onAsm_tracker (s : State) (f : Assembler → Assembler) : (s.onAsm f).tracker = s.tracker := rfl
@[simp] theorem State.onAsm_builder (s : State) (f : Assembler → Assembler) : (s.onAsm f).builder = s.builder := rfl
@[simp] theorem State.onAsm_dir (s : State) (f : Assembler → Assembler) : (s.onAsm f).dir = s.dir := rfl
@[simp] theorem State.onAsm_commit (s : State) (f : Assembler → Assembler) : (s.onAsm f).commit = s.commit := rfl
@[simp] theorem State.onAsm_targets (s : State) (f : Assembler → Assembler) : (s.onAsm f).targets = s.targets := rfl
@[simp] theorem State.onAsm_expiry (s : State) (f : Assembler → Assembler) : (s.onAsm f).expiry = s.expiry := rfl
@[simp] theorem State.onAsm_hold (s : State) (f : Assembler → Assembler) : (s.onAsm f).hold = s.hold := rfl
@[simp] theorem State.onAsm_audit (s : State) (f : Assembler → Assembler) : (s.onAsm f).audit = s.audit := rfl
@[simp] theorem State.onAsm_coder (s : State) (f : Assembler → Assembler) : (s.onAsm f).coder = s.coder := rfl
@[simp] theorem State.onAsm_notices (s : State) (f : Assembler → Assembler) : (s.onAsm f).notices = s.notices := rfl

/-! ### `State.onTables` -/

@[simp] theorem State.onTables_pending (s : State) (f : Tables → Tables) : (s.onTables f).pending = s.pending := rfl
@[simp] theorem State.onTables_engine (s : State) (f : Tables → Tables) : (s.onTables f).engine = s.engine := rfl
@[simp] theorem State.onTables_current (s : State) (f : Tables → Tables) : (s.onTables f).current = s.current := rfl
@[simp] theorem State.onTables_clock (s : State) (f : Tables → Tables) : (s.onTables f).clock = s.clock := rfl
@[simp] theorem State.onTables_port (s : State) (f : Tables → Tables) : (s.onTables f).port = s.port := rfl
@[simp] theorem State.onTables_asm (s : State) (f : Tables → Tables) : (s.onTables f).asm = s.asm := rfl
@[simp] theorem State.onTables_tables (s : State) (f : Tables → Tables) : (s.onTables f).tables = f s.tables := rfl
@[simp] theorem State.onTables_tracker (s : State) (f : Tables → Tables) : (s.onTables f).tracker = s.tracker := rfl
@[simp] theorem State.onTables_builder (s : State) (f : Tables → Tables) : (s.onTables f).builder = s.builder := rfl
@[simp] theorem State.onTables_dir (s : State) (f : Tables → Tables) : (s.onTables f).dir = s.dir := rfl
@[simp] theorem State.onTables_commit (s : State) (f : Tables → Tables) : (s.onTables f).commit = s.commit := rfl
@[simp] theorem State.onTables_targets (s : State) (f : Tables → Tables) : (s.onTables f).targets = s.targets := rfl
@[simp] theorem State.onTables_expiry (s : State) (f : Tables → Tables) : (s.onTables f).expiry = s.expiry := rfl
@[simp] theorem State.onTables_hold (s : State) (f : Tables → Tables) : (s.onTables f).hold = s.hold := rfl
@[simp] theorem State.onTables_audit (s : State) (f : Tables → Tables) : (s.onTables f).audit = s.audit := rfl
@[simp] theorem State.onTables_coder (s : State) (f : Tables → Tables) : (s.onTables f).coder = s.coder := rfl
@[simp] theorem State.onTables_notices (s : State) (f : Tables → Tables) : (s.onTables f).notices = s.notices := rfl

/-! ### `State.onTracker` -/

@[simp] theorem State.onTracker_pending (s : State) (f : Tracker → Tracker) : (s.onTracker f).pending = s.pending := rfl
@[simp] theorem State.onTracker_engine (s : State) (f : Tracker → Tracker) : (s.onTracker f).engine = s.engine := rfl
@[simp] theorem State.onTracker_current (s : State) (f : Tracker → Tracker) : (s.onTracker f).current = s.current := rfl
@[simp] theorem State.onTracker_clock (s : State) (f : Tracker → Tracker) : (s.onTracker f).clock = s.clock := rfl
@[simp] theorem State.onTracker_port (s : State) (f : Tracker → Tracker) : (s.onTracker f).port = s.port := rfl
@[simp] theorem State.onTracker_asm (s : State) (f : Tracker → Tracker) : (s.onTracker f).asm = s.asm := rfl
@[simp] theorem State.onTracker_tables (s : State) (f : Tracker → Tracker) : (s.onTracker f).tables = s.tables := rfl
@[simp] theorem State.onTracker_tracker (s : State) (f : Tracker → Tracker) : (s.onTracker f).tracker = f s.tracker := rfl
@[simp] theorem State.onTracker_builder (s : State) (f : Tracker → Tracker) : (s.onTracker f).builder = s.builder := rfl
@[simp] theorem State.onTracker_dir (s : State) (f : Tracker → Tracker) : (s.onTracker f).dir = s.dir := rfl
@[simp] theorem State.onTracker_commit (s : State) (f : Tracker → Tracker) : (s.onTracker f).commit = s.commit := rfl
@[simp] theorem State.onTracker_targets (s : State) (f : Tracker → Tracker) : (s.onTracker f).targets = s.targets := rfl
@[simp] theorem State.onTracker_expiry (s : State) (f : Tracker → Tracker) : (s.onTracker f).expiry = s.expiry := rfl
@[simp] theorem State.onTracker_hold (s : State) (f : Tracker → Tracker) : (s.onTracker f).hold = s.hold := rfl
@[simp] theorem State.onTracker_audit (s : State) (f : Tracker → Tracker) : (s.onTracker f).audit = s.audit := rfl
@[simp] theorem State.onTracker_coder (s : State) (f : Tracker → Tracker) : (s.onTracker f).coder = s.coder := rfl
@[simp] theorem State.onTracker_notices (s : State) (f : Tracker → Tracker) : (s.onTracker f).notices = s.notices := rfl

/-! ### `State.onBuilder` -/

@[simp] theorem State.onBuilder_pending (s : State) (f : Builder → Builder) : (s.onBuilder f).pending = s.pending := rfl
@[simp] theorem State.onBuilder_engine (s : State) (f : Builder → Builder) : (s.onBuilder f).engine = s.engine := rfl
@[simp] theorem State.onBuilder_current (s : State) (f : Builder → Builder) : (s.onBuilder f).current = s.current := rfl
@[simp] theorem State.onBuilder_clock (s : State) (f : Builder → Builder) : (s.onBuilder f).clock = s.clock := rfl
@[simp] theorem State.onBuilder_port (s : State) (f : Builder → Builder) : (s.onBuilder f).port = s.port := rfl
@[simp] theorem State.onBuilder_asm (s : State) (f : Builder → Builder) : (s.onBuilder f).asm = s.asm := rfl
@[simp] theorem State.onBuilder_tables (s : State) (f : Builder → Builder) : (s.onBuilder f).tables = s.tables := rfl
@[simp] theorem State.onBuilder_tracker (s : State) (f : Builder → Builder) : (s.onBuilder f).tracker = s.tracker := rfl
@[simp] theorem State.onBuilder_builder (s : State) (f : Builder → Builder) : (s.onBuilder f).builder = f s.builder := rfl
@[simp] theorem State.onBuilder_dir (s : State) (f : Builder → Builder) : (s.onBuilder f).dir = s.dir := rfl
@[simp] theorem State.onBuilder_commit (s : State) (f : Builder → Builder) : (s.onBuilder f).commit = s.commit := rfl
@[simp] theorem State.onBuilder_targets (s : State) (f : Builder → Builder) : (s.onBuilder f).targets = s.targets := rfl
@[simp] theorem State.onBuilder_expiry (s : State) (f : Builder → Builder) : (s.onBuilder f).expiry = s.expiry := rfl
@[simp] theorem State.onBuilder_hold (s : State) (f : Builder → Builder) : (s.onBuilder f).hold = s.hold := rfl
@[simp] theorem State.onBuilder_audit (s : State) (f : Builder → Builder) : (s.onBuilder f).audit = s.audit := rfl
@[simp] theorem State.onBuilder_coder (s : State) (f : Builder → Builder) : (s.onBuilder f).coder = s.coder := rfl
@[simp] theorem State.onBuilder_notices (s : State) (f : Builder → Builder) : (s.onBuilder f).notices = s.notices := rfl

/-! ### `State.onDir` -/

@[simp] theorem State.onDir_pending (s : State) (f : List SegEntry → List SegEntry) : (s.onDir f).pending = s.pending := rfl
@[simp] theorem State.onDir_engine (s : State) (f : List SegEntry → List SegEntry) : (s.onDir f).engine = s.engine := rfl
@[simp] theorem State.onDir_current (s : State) (f : List SegEntry → List SegEntry) : (s.onDir f).current = s.current := rfl
@[simp] theorem State.onDir_clock (s : State) (f : List SegEntry → List SegEntry) : (s.onDir f).clock = s.clock := rfl
@[simp] theorem State.onDir_port (s : State) (f : List SegEntry → List SegEntry) : (s.onDir f).port = s.port := rfl
@[simp] theorem State.onDir_asm (s : State) (f : List SegEntry → List SegEntry) : (s.onDir f).asm = s.asm := rfl
@[simp] theorem State.onDir_tables (s : State) (f : List SegEntry → List SegEntry) : (s.onDir f).tables = s.tables := rfl
@[simp] theorem State.onDir_tracker (s : State) (f : List SegEntry → List SegEntry) : (s.onDir f).tracker = s.tracker := rfl
@[simp] theorem State.onDir_builder (s : State) (f : List SegEntry → List SegEntry) : (s.onDir f).builder = s.builder := rfl
@[simp] theorem State.onDir_dir (s : State) (f : List SegEntry → List SegEntry) : (s.onDir f).dir = f s.dir := rfl
@[simp] theorem State.onDir_commit (s : State) (f : List SegEntry → List SegEntry) : (s.onDir f).commit = s.commit := rfl
@[simp] theorem State.onDir_targets (s : State) (f : List SegEntry → List SegEntry) : (s.onDir f).targets = s.targets := rfl
@[simp] theorem State.onDir_expiry (s : State) (f : List SegEntry → List SegEntry) : (s.onDir f).expiry = s.expiry := rfl
@[simp] theorem State.onDir_hold (s : State) (f : List SegEntry → List SegEntry) : (s.onDir f).hold = s.hold := rfl
@[simp] theorem State.onDir_audit (s : State) (f : List SegEntry → List SegEntry) : (s.onDir f).audit = s.audit := rfl
@[simp] theorem State.onDir_coder (s : State) (f : List SegEntry → List SegEntry) : (s.onDir f).coder = s.coder := rfl
@[simp] theorem State.onDir_notices (s : State) (f : List SegEntry → List SegEntry) : (s.onDir f).notices = s.notices := rfl

/-! ### `State.onCommit` -/

@[simp] theorem State.onCommit_pending (s : State) (f : CommitEngine → CommitEngine) : (s.onCommit f).pending = s.pending := rfl
@[simp] theorem State.onCommit_engine (s : State) (f : CommitEngine → CommitEngine) : (s.onCommit f).engine = s.engine := rfl
@[simp] theorem State.onCommit_current (s : State) (f : CommitEngine → CommitEngine) : (s.onCommit f).current = s.current := rfl
@[simp] theorem State.onCommit_clock (s : State) (f : CommitEngine → CommitEngine) : (s.onCommit f).clock = s.clock := rfl
@[simp] theorem State.onCommit_port (s : State) (f : CommitEngine → CommitEngine) : (s.onCommit f).port = s.port := rfl
@[simp] theorem State.onCommit_asm (s : State) (f : CommitEngine → CommitEngine) : (s.onCommit f).asm = s.asm := rfl
@[simp] theorem State.onCommit_tables (s : State) (f : CommitEngine → CommitEngine) : (s.onCommit f).tables = s.tables := rfl
@[simp] theorem State.onCommit_tracker (s : State) (f : CommitEngine → CommitEngine) : (s.onCommit f).tracker = s.tracker := rfl
@[simp] theorem State.onCommit_builder (s : State) (f : CommitEngine → CommitEngine) : (s.onCommit f).builder = s.builder := rfl
@[simp] theorem State.onCommit_dir (s : State) (f : CommitEngine → CommitEngine) : (s.onCommit f).dir = s.dir := rfl
@[simp] theorem State.onCommit_commit (s : State) (f : CommitEngine → CommitEngine) : (s.onCommit f).commit = f s.commit := rfl
@[simp] theorem State.onCommit_targets (s : State) (f : CommitEngine → CommitEngine) : (s.onCommit f).targets = s.targets := rfl
@[simp] theorem State.onCommit_expiry (s : State) (f : CommitEngine → CommitEngine) : (s.onCommit f).expiry = s.expiry := rfl
@[simp] theorem State.onCommit_hold (s : State) (f : CommitEngine → CommitEngine) : (s.onCommit f).hold = s.hold := rfl
@[simp] theorem State.onCommit_audit (s : State) (f : CommitEngine → CommitEngine) : (s.onCommit f).audit = s.audit := rfl
@[simp] theorem State.onCommit_coder (s : State) (f : CommitEngine → CommitEngine) : (s.onCommit f).coder = s.coder := rfl
@[simp] theorem State.onCommit_notices (s : State) (f : CommitEngine → CommitEngine) : (s.onCommit f).notices = s.notices := rfl

/-! ### `State.onTargets` -/

@[simp] theorem State.onTargets_pending (s : State) (f : Vector Target 4 → Vector Target 4) : (s.onTargets f).pending = s.pending := rfl
@[simp] theorem State.onTargets_engine (s : State) (f : Vector Target 4 → Vector Target 4) : (s.onTargets f).engine = s.engine := rfl
@[simp] theorem State.onTargets_current (s : State) (f : Vector Target 4 → Vector Target 4) : (s.onTargets f).current = s.current := rfl
@[simp] theorem State.onTargets_clock (s : State) (f : Vector Target 4 → Vector Target 4) : (s.onTargets f).clock = s.clock := rfl
@[simp] theorem State.onTargets_port (s : State) (f : Vector Target 4 → Vector Target 4) : (s.onTargets f).port = s.port := rfl
@[simp] theorem State.onTargets_asm (s : State) (f : Vector Target 4 → Vector Target 4) : (s.onTargets f).asm = s.asm := rfl
@[simp] theorem State.onTargets_tables (s : State) (f : Vector Target 4 → Vector Target 4) : (s.onTargets f).tables = s.tables := rfl
@[simp] theorem State.onTargets_tracker (s : State) (f : Vector Target 4 → Vector Target 4) : (s.onTargets f).tracker = s.tracker := rfl
@[simp] theorem State.onTargets_builder (s : State) (f : Vector Target 4 → Vector Target 4) : (s.onTargets f).builder = s.builder := rfl
@[simp] theorem State.onTargets_dir (s : State) (f : Vector Target 4 → Vector Target 4) : (s.onTargets f).dir = s.dir := rfl
@[simp] theorem State.onTargets_commit (s : State) (f : Vector Target 4 → Vector Target 4) : (s.onTargets f).commit = s.commit := rfl
@[simp] theorem State.onTargets_targets (s : State) (f : Vector Target 4 → Vector Target 4) : (s.onTargets f).targets = f s.targets := rfl
@[simp] theorem State.onTargets_expiry (s : State) (f : Vector Target 4 → Vector Target 4) : (s.onTargets f).expiry = s.expiry := rfl
@[simp] theorem State.onTargets_hold (s : State) (f : Vector Target 4 → Vector Target 4) : (s.onTargets f).hold = s.hold := rfl
@[simp] theorem State.onTargets_audit (s : State) (f : Vector Target 4 → Vector Target 4) : (s.onTargets f).audit = s.audit := rfl
@[simp] theorem State.onTargets_coder (s : State) (f : Vector Target 4 → Vector Target 4) : (s.onTargets f).coder = s.coder := rfl
@[simp] theorem State.onTargets_notices (s : State) (f : Vector Target 4 → Vector Target 4) : (s.onTargets f).notices = s.notices := rfl

/-! ### `State.onExpiry` -/

@[simp] theorem State.onExpiry_pending (s : State) (f : Expiry → Expiry) : (s.onExpiry f).pending = s.pending := rfl
@[simp] theorem State.onExpiry_engine (s : State) (f : Expiry → Expiry) : (s.onExpiry f).engine = s.engine := rfl
@[simp] theorem State.onExpiry_current (s : State) (f : Expiry → Expiry) : (s.onExpiry f).current = s.current := rfl
@[simp] theorem State.onExpiry_clock (s : State) (f : Expiry → Expiry) : (s.onExpiry f).clock = s.clock := rfl
@[simp] theorem State.onExpiry_port (s : State) (f : Expiry → Expiry) : (s.onExpiry f).port = s.port := rfl
@[simp] theorem State.onExpiry_asm (s : State) (f : Expiry → Expiry) : (s.onExpiry f).asm = s.asm := rfl
@[simp] theorem State.onExpiry_tables (s : State) (f : Expiry → Expiry) : (s.onExpiry f).tables = s.tables := rfl
@[simp] theorem State.onExpiry_tracker (s : State) (f : Expiry → Expiry) : (s.onExpiry f).tracker = s.tracker := rfl
@[simp] theorem State.onExpiry_builder (s : State) (f : Expiry → Expiry) : (s.onExpiry f).builder = s.builder := rfl
@[simp] theorem State.onExpiry_dir (s : State) (f : Expiry → Expiry) : (s.onExpiry f).dir = s.dir := rfl
@[simp] theorem State.onExpiry_commit (s : State) (f : Expiry → Expiry) : (s.onExpiry f).commit = s.commit := rfl
@[simp] theorem State.onExpiry_targets (s : State) (f : Expiry → Expiry) : (s.onExpiry f).targets = s.targets := rfl
@[simp] theorem State.onExpiry_expiry (s : State) (f : Expiry → Expiry) : (s.onExpiry f).expiry = f s.expiry := rfl
@[simp] theorem State.onExpiry_hold (s : State) (f : Expiry → Expiry) : (s.onExpiry f).hold = s.hold := rfl
@[simp] theorem State.onExpiry_audit (s : State) (f : Expiry → Expiry) : (s.onExpiry f).audit = s.audit := rfl
@[simp] theorem State.onExpiry_coder (s : State) (f : Expiry → Expiry) : (s.onExpiry f).coder = s.coder := rfl
@[simp] theorem State.onExpiry_notices (s : State) (f : Expiry → Expiry) : (s.onExpiry f).notices = s.notices := rfl

/-! ### `State.onHold` -/

@[simp] theorem State.onHold_pending (s : State) (f : HoldStore → HoldStore) : (s.onHold f).pending = s.pending := rfl
@[simp] theorem State.onHold_engine (s : State) (f : HoldStore → HoldStore) : (s.onHold f).engine = s.engine := rfl
@[simp] theorem State.onHold_current (s : State) (f : HoldStore → HoldStore) : (s.onHold f).current = s.current := rfl
@[simp] theorem State.onHold_clock (s : State) (f : HoldStore → HoldStore) : (s.onHold f).clock = s.clock := rfl
@[simp] theorem State.onHold_port (s : State) (f : HoldStore → HoldStore) : (s.onHold f).port = s.port := rfl
@[simp] theorem State.onHold_asm (s : State) (f : HoldStore → HoldStore) : (s.onHold f).asm = s.asm := rfl
@[simp] theorem State.onHold_tables (s : State) (f : HoldStore → HoldStore) : (s.onHold f).tables = s.tables := rfl
@[simp] theorem State.onHold_tracker (s : State) (f : HoldStore → HoldStore) : (s.onHold f).tracker = s.tracker := rfl
@[simp] theorem State.onHold_builder (s : State) (f : HoldStore → HoldStore) : (s.onHold f).builder = s.builder := rfl
@[simp] theorem State.onHold_dir (s : State) (f : HoldStore → HoldStore) : (s.onHold f).dir = s.dir := rfl
@[simp] theorem State.onHold_commit (s : State) (f : HoldStore → HoldStore) : (s.onHold f).commit = s.commit := rfl
@[simp] theorem State.onHold_targets (s : State) (f : HoldStore → HoldStore) : (s.onHold f).targets = s.targets := rfl
@[simp] theorem State.onHold_expiry (s : State) (f : HoldStore → HoldStore) : (s.onHold f).expiry = s.expiry := rfl
@[simp] theorem State.onHold_hold (s : State) (f : HoldStore → HoldStore) : (s.onHold f).hold = f s.hold := rfl
@[simp] theorem State.onHold_audit (s : State) (f : HoldStore → HoldStore) : (s.onHold f).audit = s.audit := rfl
@[simp] theorem State.onHold_coder (s : State) (f : HoldStore → HoldStore) : (s.onHold f).coder = s.coder := rfl
@[simp] theorem State.onHold_notices (s : State) (f : HoldStore → HoldStore) : (s.onHold f).notices = s.notices := rfl

/-! ### `State.onAudit` -/

@[simp] theorem State.onAudit_pending (s : State) (f : Audit → Audit) : (s.onAudit f).pending = s.pending := rfl
@[simp] theorem State.onAudit_engine (s : State) (f : Audit → Audit) : (s.onAudit f).engine = s.engine := rfl
@[simp] theorem State.onAudit_current (s : State) (f : Audit → Audit) : (s.onAudit f).current = s.current := rfl
@[simp] theorem State.onAudit_clock (s : State) (f : Audit → Audit) : (s.onAudit f).clock = s.clock := rfl
@[simp] theorem State.onAudit_port (s : State) (f : Audit → Audit) : (s.onAudit f).port = s.port := rfl
@[simp] theorem State.onAudit_asm (s : State) (f : Audit → Audit) : (s.onAudit f).asm = s.asm := rfl
@[simp] theorem State.onAudit_tables (s : State) (f : Audit → Audit) : (s.onAudit f).tables = s.tables := rfl
@[simp] theorem State.onAudit_tracker (s : State) (f : Audit → Audit) : (s.onAudit f).tracker = s.tracker := rfl
@[simp] theorem State.onAudit_builder (s : State) (f : Audit → Audit) : (s.onAudit f).builder = s.builder := rfl
@[simp] theorem State.onAudit_dir (s : State) (f : Audit → Audit) : (s.onAudit f).dir = s.dir := rfl
@[simp] theorem State.onAudit_commit (s : State) (f : Audit → Audit) : (s.onAudit f).commit = s.commit := rfl
@[simp] theorem State.onAudit_targets (s : State) (f : Audit → Audit) : (s.onAudit f).targets = s.targets := rfl
@[simp] theorem State.onAudit_expiry (s : State) (f : Audit → Audit) : (s.onAudit f).expiry = s.expiry := rfl
@[simp] theorem State.onAudit_hold (s : State) (f : Audit → Audit) : (s.onAudit f).hold = s.hold := rfl
@[simp] theorem State.onAudit_audit (s : State) (f : Audit → Audit) : (s.onAudit f).audit = f s.audit := rfl
@[simp] theorem State.onAudit_coder (s : State) (f : Audit → Audit) : (s.onAudit f).coder = s.coder := rfl
@[simp] theorem State.onAudit_notices (s : State) (f : Audit → Audit) : (s.onAudit f).notices = s.notices := rfl

/-! ### `State.onCoder` -/

@[simp] theorem State.onCoder_pending (s : State) (f : List CoderJob → List CoderJob) : (s.onCoder f).pending = s.pending := rfl
@[simp] theorem State.onCoder_engine (s : State) (f : List CoderJob → List CoderJob) : (s.onCoder f).engine = s.engine := rfl
@[simp] theorem State.onCoder_current (s : State) (f : List CoderJob → List CoderJob) : (s.onCoder f).current = s.current := rfl
@[simp] theorem State.onCoder_clock (s : State) (f : List CoderJob → List CoderJob) : (s.onCoder f).clock = s.clock := rfl
@[simp] theorem State.onCoder_port (s : State) (f : List CoderJob → List CoderJob) : (s.onCoder f).port = s.port := rfl
@[simp] theorem State.onCoder_asm (s : State) (f : List CoderJob → List CoderJob) : (s.onCoder f).asm = s.asm := rfl
@[simp] theorem State.onCoder_tables (s : State) (f : List CoderJob → List CoderJob) : (s.onCoder f).tables = s.tables := rfl
@[simp] theorem State.onCoder_tracker (s : State) (f : List CoderJob → List CoderJob) : (s.onCoder f).tracker = s.tracker := rfl
@[simp] theorem State.onCoder_builder (s : State) (f : List CoderJob → List CoderJob) : (s.onCoder f).builder = s.builder := rfl
@[simp] theorem State.onCoder_dir (s : State) (f : List CoderJob → List CoderJob) : (s.onCoder f).dir = s.dir := rfl
@[simp] theorem State.onCoder_commit (s : State) (f : List CoderJob → List CoderJob) : (s.onCoder f).commit = s.commit := rfl
@[simp] theorem State.onCoder_targets (s : State) (f : List CoderJob → List CoderJob) : (s.onCoder f).targets = s.targets := rfl
@[simp] theorem State.onCoder_expiry (s : State) (f : List CoderJob → List CoderJob) : (s.onCoder f).expiry = s.expiry := rfl
@[simp] theorem State.onCoder_hold (s : State) (f : List CoderJob → List CoderJob) : (s.onCoder f).hold = s.hold := rfl
@[simp] theorem State.onCoder_audit (s : State) (f : List CoderJob → List CoderJob) : (s.onCoder f).audit = s.audit := rfl
@[simp] theorem State.onCoder_coder (s : State) (f : List CoderJob → List CoderJob) : (s.onCoder f).coder = f s.coder := rfl
@[simp] theorem State.onCoder_notices (s : State) (f : List CoderJob → List CoderJob) : (s.onCoder f).notices = s.notices := rfl

/-! ### `State.onNotices` -/

@[simp] theorem State.onNotices_pending (s : State) (f : Notices → Notices) : (s.onNotices f).pending = s.pending := rfl
@[simp] theorem State.onNotices_engine (s : State) (f : Notices → Notices) : (s.onNotices f).engine = s.engine := rfl
@[simp] theorem State.onNotices_current (s : State) (f : Notices → Notices) : (s.onNotices f).current = s.current := rfl
@[simp] theorem State.onNotices_clock (s : State) (f : Notices → Notices) : (s.onNotices f).clock = s.clock := rfl
@[simp] theorem State.onNotices_port (s : State) (f : Notices → Notices) : (s.onNotices f).port = s.port := rfl
@[simp] theorem State.onNotices_asm (s : State) (f : Notices → Notices) : (s.onNotices f).asm = s.asm := rfl
@[simp] theorem State.onNotices_tables (s : State) (f : Notices → Notices) : (s.onNotices f).tables = s.tables := rfl
@[simp] theorem State.onNotices_tracker (s : State) (f : Notices → Notices) : (s.onNotices f).tracker = s.tracker := rfl
@[simp] theorem State.onNotices_builder (s : State) (f : Notices → Notices) : (s.onNotices f).builder = s.builder := rfl
@[simp] theorem State.onNotices_dir (s : State) (f : Notices → Notices) : (s.onNotices f).dir = s.dir := rfl
@[simp] theorem State.onNotices_commit (s : State) (f : Notices → Notices) : (s.onNotices f).commit = s.commit := rfl
@[simp] theorem State.onNotices_targets (s : State) (f : Notices → Notices) : (s.onNotices f).targets = s.targets := rfl
@[simp] theorem State.onNotices_expiry (s : State) (f : Notices → Notices) : (s.onNotices f).expiry = s.expiry := rfl
@[simp] theorem State.onNotices_hold (s : State) (f : Notices → Notices) : (s.onNotices f).hold = s.hold := rfl
@[simp] theorem State.onNotices_audit (s : State) (f : Notices → Notices) : (s.onNotices f).audit = s.audit := rfl
@[simp] theorem State.onNotices_coder (s : State) (f : Notices → Notices) : (s.onNotices f).coder = s.coder := rfl
@[simp] theorem State.onNotices_notices (s : State) (f : Notices → Notices) : (s.onNotices f).notices = f s.notices := rfl

/-! ### The queue of commands -/

@[simp] theorem State.withPending_pending (s : State) (q : List Instr) : (s.withPending q).pending = q := rfl
@[simp] theorem State.withPending_engine (s : State) (q : List Instr) : (s.withPending q).engine = s.engine := rfl
@[simp] theorem State.withPending_current (s : State) (q : List Instr) : (s.withPending q).current = s.current := rfl
@[simp] theorem State.withPending_clock (s : State) (q : List Instr) : (s.withPending q).clock = s.clock := rfl
@[simp] theorem State.withPending_port (s : State) (q : List Instr) : (s.withPending q).port = s.port := rfl
@[simp] theorem State.withPending_asm (s : State) (q : List Instr) : (s.withPending q).asm = s.asm := rfl
@[simp] theorem State.withPending_tables (s : State) (q : List Instr) : (s.withPending q).tables = s.tables := rfl
@[simp] theorem State.withPending_tracker (s : State) (q : List Instr) : (s.withPending q).tracker = s.tracker := rfl
@[simp] theorem State.withPending_builder (s : State) (q : List Instr) : (s.withPending q).builder = s.builder := rfl
@[simp] theorem State.withPending_dir (s : State) (q : List Instr) : (s.withPending q).dir = s.dir := rfl
@[simp] theorem State.withPending_commit (s : State) (q : List Instr) : (s.withPending q).commit = s.commit := rfl
@[simp] theorem State.withPending_targets (s : State) (q : List Instr) : (s.withPending q).targets = s.targets := rfl
@[simp] theorem State.withPending_expiry (s : State) (q : List Instr) : (s.withPending q).expiry = s.expiry := rfl
@[simp] theorem State.withPending_hold (s : State) (q : List Instr) : (s.withPending q).hold = s.hold := rfl
@[simp] theorem State.withPending_audit (s : State) (q : List Instr) : (s.withPending q).audit = s.audit := rfl
@[simp] theorem State.withPending_coder (s : State) (q : List Instr) : (s.withPending q).coder = s.coder := rfl
@[simp] theorem State.withPending_notices (s : State) (q : List Instr) : (s.withPending q).notices = s.notices := rfl

end Sys2Proof.Machine
end

