-- ==== Sys2Proof/Laws/Still.lean ====
section
/-! SUPPORT. What the part's own operations leave alone: the queue of commands, the current directive, the clock, the
loaded tables and the Hold Store. One lemma for each shared operation; a proof cites it and does not unfold the
operation. -/

namespace Sys2Proof.Machine

/-- The fields no operation of the intake, store, audit and expiry blocks changes. -/
def State.still (s : State) : List Instr × Option Directive × Clock × Tables × HoldStore :=
  (s.pending, s.current, s.clock, s.tables, s.hold)

/-- Equal still parts are equal field by field. -/
theorem State.still_eq {s t : State} (h : t.still = s.still) :
    t.pending = s.pending ∧ t.current = s.current ∧ t.clock = s.clock ∧ t.tables = s.tables ∧ t.hold = s.hold := by
  simpa [State.still] using h

/-! ### Updates of one block -/

@[simp] theorem State.setEngine_still (s : State) (x) : (s.setEngine x).still = s.still := rfl
@[simp] theorem State.onPort_still (s : State) (f) : (s.onPort f).still = s.still := rfl
@[simp] theorem State.onAsm_still (s : State) (f) : (s.onAsm f).still = s.still := rfl
@[simp] theorem State.onTracker_still (s : State) (f) : (s.onTracker f).still = s.still := rfl
@[simp] theorem State.onBuilder_still (s : State) (f) : (s.onBuilder f).still = s.still := rfl
@[simp] theorem State.onDir_still (s : State) (f) : (s.onDir f).still = s.still := rfl
@[simp] theorem State.onCommit_still (s : State) (f) : (s.onCommit f).still = s.still := rfl
@[simp] theorem State.onTargets_still (s : State) (f) : (s.onTargets f).still = s.still := rfl
@[simp] theorem State.onExpiry_still (s : State) (f) : (s.onExpiry f).still = s.still := rfl
@[simp] theorem State.onAudit_still (s : State) (f) : (s.onAudit f).still = s.still := rfl
@[simp] theorem State.onCoder_still (s : State) (f) : (s.onCoder f).still = s.still := rfl
@[simp] theorem State.onNotices_still (s : State) (f) : (s.onNotices f).still = s.still := rfl

/-! ### A fold of operations that keep the still part -/

theorem State.foldl_still {α : Type} (f : State → α → State) (h : ∀ s a, (f s a).still = s.still) (l : List α)
    (s : State) : (l.foldl f s).still = s.still := by
  induction l generalizing s with
  | nil => rfl
  | cons a l ih => rw [List.foldl_cons, ih, h]

/-! ### Ops -/

@[simp] theorem State.onLane_still (s : State) (l f) : (s.onLane l f).still = s.still := rfl
@[simp] theorem State.onTarget_still (s : State) (t f) : (s.onTarget t f).still = s.still := rfl
@[simp] theorem State.onEntry_still (s : State) (i f) : (s.onEntry i f).still = s.still := rfl
@[simp] theorem State.onBuffer_still (s : State) (i f) : (s.onBuffer i f).still = s.still := rfl
@[simp] theorem State.freeBuffer_still (s : State) (i) : (s.freeBuffer i).still = s.still := rfl
@[simp] theorem State.onSource_still (s : State) (n f) : (s.onSource n f).still = s.still := rfl
@[simp] theorem State.onRecord_still (s : State) (a b f) : (s.onRecord a b f).still = s.still := rfl
@[simp] theorem State.onDay_still (s : State) (d f) : (s.onDay d f).still = s.still := rfl
@[simp] theorem State.onSlot_still (s : State) (a b c f) : (s.onSlot a b c f).still = s.still := rfl
@[simp] theorem State.notify_still (s : State) (n x) : (s.notify n x).still = s.still := rfl
@[simp] theorem State.raise_still (s : State) (e) : (s.raise e).still = s.still := rfl
@[simp] theorem State.raiseAll_still (s : State) (es) : (s.raiseAll es).still = s.still :=
  State.foldl_still _ State.raise_still es s
@[simp] theorem State.putReply_still (s : State) (r) : (s.putReply r).still = s.still := rfl
@[simp] theorem State.answer_still (s : State) (a b c) : (s.answer a b c).still = s.still := rfl
@[simp] theorem State.reserve_still (s : State) (a) : (s.reserve a).still = s.still := rfl
@[simp] theorem State.complete_still (s : State) (r) : (s.complete r).still = s.still := rfl
@[simp] theorem State.completeWith_still (s : State) (a b c) : (s.completeWith a b c).still = s.still := rfl

/-! ### Flags -/

@[simp] theorem State.checkFlow_still (s : State) : (s.checkFlow).still = s.still := by
  unfold State.checkFlow; simp only; split <;> simp
@[simp] theorem State.queueFlow_still (s : State) : (s.queueFlow).still = s.still := rfl
@[simp] theorem State.settleFlag_still (s : State) (d) : (s.settleFlag d).still = s.still := rfl

/-! ### Segment Builder -/

@[simp] theorem State.flushEnd_still (s : State) (i k) : (s.flushEnd i k).still = s.still := by
  unfold State.flushEnd; simp only; (repeat' split) <;> simp
@[simp] theorem State.unindex_still (s : State) (i) : (s.unindex i).still = s.still := rfl
@[simp] theorem State.sealSegment_still (s : State) (r i) : (s.sealSegment r i).still = s.still := rfl
@[simp] theorem State.sealAll_still (s : State) (r l) : (s.sealAll r l).still = s.still :=
  State.foldl_still _ (fun s i => State.sealSegment_still s r i) l s
@[simp] theorem State.discardSegment_still (s : State) (i) : (s.discardSegment i).still = s.still := by
  simp [State.discardSegment]
@[simp] theorem State.testSegment_still (s : State) (i) : (s.testSegment i).still = s.still := by
  unfold State.testSegment; (repeat' split) <;> simp
@[simp] theorem State.resolveIn_still (s : State) (l st i) : (s.resolveIn l st i).still = s.still := by
  unfold State.resolveIn; split <;> simp
@[simp] theorem State.resolveRuns_still (s : State) (l st) : (s.resolveRuns l st).still = s.still :=
  State.foldl_still _ (fun s i => State.resolveIn_still s l st i) _ s
@[simp] theorem State.crowdedSeal_still (s : State) : (s.crowdedSeal).still = s.still := by
  unfold State.crowdedSeal; (repeat' split) <;> simp
@[simp] theorem State.openSegment_still (s : State) (c d i) : (s.openSegment c d i).still = s.still := by
  simp [State.openSegment]
@[simp] theorem State.appendRecord_still (s : State) (o e b c) : (s.appendRecord o e b c).still = s.still := rfl

/-- Whatever an append does, it keeps the still part. -/
theorem State.tryAppend_still (s : State) (o i) (t : State) (h : s.tryAppend o i = .inl t) : t.still = s.still := by
  unfold State.tryAppend at h
  split at h
  · simp only at h
    split at h
    · simp only [Sum.inl.injEq] at h; subst h; simp
    · simp at h
  · simp only [Sum.inl.injEq] at h; subst h; rfl

/-- The state a placement ends in. -/
def Placement.state : Placement → State
  | .placed s => s
  | .stalled s _ _ => s

theorem State.openFor_still (s : State) (o) : (s.openFor o).state.still = s.still := by
  unfold State.openFor
  split
  · rfl
  · split
    · rfl
    · simp only
      split
      · simp [Placement.state]
      · split
        · next h => simp [Placement.state, State.tryAppend_still _ _ _ _ h]
        · simp [Placement.state]

theorem State.place_still (s : State) (o) : (s.place o).state.still = s.still := by
  unfold State.place
  split
  · exact s.openFor_still o
  · split
    · next h => simp [Placement.state, State.tryAppend_still _ _ _ _ h]
    · rw [State.openFor_still]; simp

theorem State.placed_still {s t : State} {o} (h : s.place o = .placed t) : t.still = s.still := by
  have := s.place_still o; rwa [h] at this

theorem State.stalled_still {s t : State} {o c a} (h : s.place o = .stalled t c a) : t.still = s.still := by
  have := s.place_still o; rwa [h] at this

/-! ### Continuity Tracker -/

@[simp] theorem State.testRetirement_still (s : State) (d) : (s.testRetirement d).still = s.still := by
  unfold State.testRetirement; (repeat' split) <;> simp
@[simp] theorem State.testSettlement_still (s : State) (d) : (s.testSettlement d).still = s.still := by
  unfold State.testSettlement; (repeat' split) <;> simp
@[simp] theorem State.fileEnded_still (s : State) (d) : (s.fileEnded d).still = s.still := by simp [State.fileEnded]
@[simp] theorem State.checkSequence_still (s : State) (f) : (s.checkSequence f).still = s.still := by
  unfold State.checkSequence; simp only; (repeat' split) <;> simp
@[simp] theorem State.ensureDay_still (s : State) (d) : (s.ensureDay d).still = s.still := by
  unfold State.ensureDay; split <;> simp
@[simp] theorem State.addRecord_still (s : State) (r) : (s.addRecord r).still = s.still := rfl
@[simp] theorem State.addLateRecord_still (s : State) (f n) : (s.addLateRecord f n).still = s.still := by
  simp [State.addLateRecord]
@[simp] theorem State.restoreRecord_still (s : State) (f i) : (s.restoreRecord f i).still = s.still := rfl
@[simp] theorem State.ensureRecord_still (s : State) (f) : (s.ensureRecord f).still = s.still := by
  unfold State.ensureRecord; simp only; (repeat' split) <;> simp
@[simp] theorem State.enterFile_still (s : State) (l f r) : (s.enterFile l f r).still = s.still := by
  unfold State.enterFile; split <;> simp
@[simp] theorem State.openOutcome_still (s : State) (l f r) : (s.openOutcome l f r).still = s.still := by
  unfold State.openOutcome; split <;> simp
@[simp] theorem State.closeNormal_still (s : State) (o) : (s.closeNormal o).still = s.still := by
  simp [State.closeNormal]
@[simp] theorem State.closeLate_still (s : State) (o) : (s.closeLate o).still = s.still := by simp [State.closeLate]
@[simp] theorem State.closeDuplicate_still (s : State) (o) : (s.closeDuplicate o).still = s.still := by
  simp [State.closeDuplicate]
@[simp] theorem State.closeConflict_still (s : State) (o c) : (s.closeConflict o c).still = s.still := by
  simp [State.closeConflict]
@[simp] theorem State.closeSuspect_still (s : State) (o) : (s.closeSuspect o).still = s.still := by
  unfold State.closeSuspect; simp only; split <;> simp
@[simp] theorem State.closeOutcome_still (s : State) (o r) : (s.closeOutcome o r).still = s.still := by
  unfold State.closeOutcome; split <;> simp
@[simp] theorem State.abortNormal_still (s : State) (f) : (s.abortNormal f).still = s.still := by
  unfold State.abortNormal; simp only; split <;> simp
@[simp] theorem State.abortOutcome_still (s : State) (f r) : (s.abortOutcome f r).still = s.still := by
  unfold State.abortOutcome; split <;> simp
@[simp] theorem State.onRecordsOf_still (s : State) (d f) : (s.onRecordsOf d f).still = s.still := rfl
@[simp] theorem State.closeDaySteps_still (s : State) (d) : (s.closeDaySteps d).still = s.still := by
  simp [State.closeDaySteps]
@[simp] theorem State.closeDay_still (s : State) (d) : (s.closeDay d).still = s.still := by simp [State.closeDay]

/-! ### File Assembler -/

@[simp] theorem State.startTimer_still (s : State) (l) : (s.startTimer l).still = s.still := by
  unfold State.startTimer; split <;> simp
@[simp] theorem State.stopTimer_still (s : State) (l) : (s.stopTimer l).still = s.still := rfl
@[simp] theorem State.abortFile_still (s : State) (l c) : (s.abortFile l c).still = s.still := by
  unfold State.abortFile; split <;> simp
@[simp] theorem State.popFrame_still (s : State) : s.popFrame.still = s.still := rfl
@[simp] theorem State.acceptFile_still (s : State) (l f) : (s.acceptFile l f).still = s.still := by
  simp [State.acceptFile]
@[simp] theorem State.refuseFile_still (s : State) (l f a c) : (s.refuseFile l f a c).still = s.still := by
  simp [State.refuseFile]
@[simp] theorem State.openFile_still (s : State) (l f a) : (s.openFile l f a).still = s.still := by
  unfold State.openFile; simp only; split <;> simp
@[simp] theorem State.rejectRecord_still (s : State) (l c) : (s.rejectRecord l c).still = s.still := rfl
@[simp] theorem State.countAppended_still (s : State) (l) : (s.countAppended l).still = s.still := rfl
theorem State.goOn_still (l : LaneNo) (rest : List (List Byte)) (more : State → State)
    (h : ∀ s, (more s).still = s.still) (s : State) : (State.goOn l rest more s).still = s.still := by
  unfold State.goOn
  split
  · exact h s
  · split
    · rfl
    · exact h s
@[simp] theorem State.takeRecords_still (l : LaneNo) (rs : List (List Byte)) (s : State) :
    (State.takeRecords l rs s).still = s.still := by
  induction rs generalizing s with
  | nil => simp [State.takeRecords]
  | cons r rest ih =>
    simp only [State.takeRecords]
    split
    · rw [State.goOn_still _ _ _ ih]; simp
    · split
      · next h => rw [State.goOn_still _ _ _ ih, State.countAppended_still, State.placed_still h]; simp
      · next h => rw [State.onAsm_still, State.stalled_still h]; simp
@[simp] theorem State.countStray_still (s : State) : s.countStray.still = s.still := rfl
@[simp] theorem State.countDiscarded_still (s : State) : s.countDiscarded.still = s.still := rfl
@[simp] theorem State.dataFrame_still (s : State) (l p) : (s.dataFrame l p).still = s.still := by
  unfold State.dataFrame; (repeat' split) <;> simp
@[simp] theorem State.closeFrame_still (s : State) (l d c a) : (s.closeFrame l d c a).still = s.still := by
  unfold State.closeFrame; (repeat' split) <;> simp
@[simp] theorem State.abortFrame_still (s : State) (l) : (s.abortFrame l).still = s.still := by
  unfold State.abortFrame; split <;> simp
@[simp] theorem takeFileOpen_still (s : State) : (takeFileOpen s).still = s.still := by
  unfold takeFileOpen; split <;> simp
@[simp] theorem takeFileData_still (s : State) : (takeFileData s).still = s.still := by
  unfold takeFileData; split <;> simp
@[simp] theorem takeFileClose_still (s : State) : (takeFileClose s).still = s.still := by
  unfold takeFileClose; split <;> simp
@[simp] theorem takeFileAbort_still (s : State) : (takeFileAbort s).still = s.still := by
  unfold takeFileAbort; split <;> simp
@[simp] theorem State.takeMark_still (s : State) (l) : (s.takeMark l).still = s.still := by
  unfold State.takeMark; simp only; split <;> simp
@[simp] theorem overrunMarkTaken_still (s : State) (l) : (overrunMarkTaken l s).still = s.still := by
  unfold overrunMarkTaken; split <;> simp
@[simp] theorem stallEnd_still (s : State) : (stallEnd s).still = s.still := by
  unfold stallEnd
  split
  · rfl
  · split
    · split
      · next h => rw [State.goOn_still _ _ _ (State.takeRecords_still _ _)]; simp [State.placed_still h]
      · next h => simp [State.stalled_still h]
    · rfl
@[simp] theorem laneIdleTimerExpiry_still (s : State) (l) : (laneIdleTimerExpiry l s).still = s.still := by
  unfold laneIdleTimerExpiry; split <;> simp

/-! ### Audit Unit -/

@[simp] theorem State.applyMatch_still (s : State) (e) : (s.applyMatch e).still = s.still := by
  unfold State.applyMatch; simp only; split <;> simp
@[simp] theorem State.applyMismatch_still (s : State) (e c r) : (s.applyMismatch e c r).still = s.still := by
  unfold State.applyMismatch; simp only; split <;> simp
@[simp] theorem State.applyVerify_still (s : State) (e k) : (s.applyVerify e k).still = s.still := by
  unfold State.applyVerify; split <;> simp
@[simp] theorem State.pin_still (s : State) (i) : (s.pin i).still = s.still := rfl
@[simp] theorem State.dequeueRequest_still (s : State) : s.dequeueRequest.still = s.still := by
  unfold State.dequeueRequest; split <;> simp
@[simp] theorem State.replyRequest_still (s : State) (r k p) : (s.replyRequest r k p).still = s.still := by
  unfold State.replyRequest; split <;> simp
@[simp] theorem State.applyEnding_still (s : State) (r k) : (s.applyEnding r k).still = s.still := by
  unfold State.applyEnding; split <;> simp
@[simp] theorem State.finishRequest_still (s : State) (k) : (s.finishRequest k).still = s.still := by
  unfold State.finishRequest; split <;> simp
@[simp] theorem State.offerRetrieval_still (s : State) (r d) : (s.offerRetrieval r d).still = s.still := rfl
@[simp] theorem State.applyDecode_still (s : State) (r e) : (s.applyDecode r e).still = s.still := by
  unfold State.applyDecode; (repeat' split) <;> simp
@[simp] theorem State.decodeResult_still (s : State) : s.decodeResult.still = s.still := by
  unfold State.decodeResult; (repeat' split) <;> simp
@[simp] theorem State.toCoder_still (s : State) : s.toCoder.still = s.still := rfl
@[simp] theorem State.imageRead_still (s : State) : s.imageRead.still = s.still := by
  unfold State.imageRead; (repeat' split) <;> simp
@[simp] theorem State.queueRequest_still (s : State) (r) : (s.queueRequest r).still = s.still := rfl
@[simp] theorem State.queueScrubs_still (s : State) (n) : (s.queueScrubs n).still = s.still :=
  State.foldl_still _ (fun s _ => State.queueRequest_still s _) _ s

/-! ### Store Link Controllers and Commit Engine -/

@[simp] theorem State.notifyTarget_still (s : State) (t) : (s.notifyTarget t).still = s.still := rfl
@[simp] theorem State.returnStranded_still (s : State) : s.returnStranded.still = s.still := rfl
@[simp] theorem State.enterOnline_still (s : State) (t) : (s.enterOnline t).still = s.still := by
  unfold State.enterOnline; simp only; split <;> simp
@[simp] theorem State.withdrawCommit_still (s : State) (t) : (s.withdrawCommit t).still = s.still := by
  unfold State.withdrawCommit; split <;> simp
@[simp] theorem State.goOffline_still (s : State) (t) : (s.goOffline t).still = s.still := by
  unfold State.goOffline; simp only; (repeat' split) <;> simp
@[simp] theorem State.faultUp_still (s : State) (t) : (s.faultUp t).still = s.still := by
  unfold State.faultUp; simp only; (repeat' split) <;> simp
@[simp] theorem State.faultClear_still (s : State) (t) : (s.faultClear t).still = s.still := by
  unfold State.faultClear; split <;> simp
@[simp] theorem State.pokeErase_still (s : State) (t) : (s.pokeErase t).still = s.still := rfl
@[simp] theorem State.beginCommit_still (s : State) (c t x) : (s.beginCommit c t x).still = s.still := rfl
@[simp] theorem State.waitForTarget_still (s : State) : s.waitForTarget.still = s.still := by
  unfold State.waitForTarget; split <;> simp
@[simp] theorem commitBegin_still (s : State) : (commitBegin s).still = s.still := by
  unfold commitBegin; (repeat' split) <;> simp
@[simp] theorem State.closeStranded_still (s : State) (c) : (s.closeStranded c).still = s.still := by
  unfold State.closeStranded; split <;> simp
@[simp] theorem State.writeSuccess_still (s : State) (t x) : (s.writeSuccess t x).still = s.still := by
  unfold State.writeSuccess; simp only; split <;> simp
@[simp] theorem State.strand_still (s : State) (i t) : (s.strand i t).still = s.still := by simp [State.strand]
@[simp] theorem State.countAttempt_still (s : State) (c t) : (s.countAttempt c t).still = s.still := by
  unfold State.countAttempt; simp only; split <;> simp
@[simp] theorem State.writeFailure_still (s : State) (t x) : (s.writeFailure t x).still = s.still := by
  unfold State.writeFailure; simp only; split <;> simp
@[simp] theorem State.readComplete_still (s : State) (t) : (s.readComplete t).still = s.still := by
  simp [State.readComplete]
@[simp] theorem State.readFail_still (s : State) (t c) : (s.readFail t c).still = s.still := by
  unfold State.readFail; simp only; split <;> simp
@[simp] theorem State.beginWrite_still (s : State) (t) : (s.beginWrite t).still = s.still := by
  unfold State.beginWrite; (repeat' split) <;> simp
@[simp] theorem State.beginRead_still (s : State) (t j) : (s.beginRead t j).still = s.still := by
  unfold State.beginRead; split <;> simp
@[simp] theorem arbiterBegin_still (s : State) (t) : (arbiterBegin t s).still = s.still := by
  unfold arbiterBegin; simp only; (repeat' split) <;> simp
@[simp] theorem State.removeErased_still (s : State) (t e x) : (s.removeErased t e x).still = s.still := rfl
@[simp] theorem State.eraseCompletes_still (s : State) (t) : (s.eraseCompletes t).still = s.still := by
  unfold State.eraseCompletes; split <;> simp
@[simp] theorem State.eraseFails_still (s : State) (t c) : (s.eraseFails t c).still = s.still := by
  unfold State.eraseFails; split <;> simp

/-! ### Scans, the rebuild and the Record Coder's commands -/

@[simp] theorem State.scanFinish_still (s : State) (t c) : (s.scanFinish t c).still = s.still := by
  unfold State.scanFinish; simp only; split <;> simp
@[simp] theorem State.rebuildTables_still (s : State) (ts) : (s.rebuildTables ts).still = s.still := by
  simp only [State.rebuildTables, State.onTracker_still, State.onBuilder_still]
  exact State.foldl_still _ (fun s t => by simp) ts s
@[simp] theorem State.rebuildEnd_still (s : State) : s.rebuildEnd.still = s.still := by
  unfold State.rebuildEnd; simp only; split <;> simp
@[simp] theorem State.scanNext_still (s : State) (t) : (s.scanNext t).still = s.still := by
  unfold State.scanNext; simp only; (repeat' split) <;> simp
@[simp] theorem State.scanToCoder_still (s : State) (t) : (s.scanToCoder t).still = s.still := rfl
@[simp] theorem State.scanUnitZero_still (s : State) (t c x d) : (s.scanUnitZero t c x d).still = s.still := by
  unfold State.scanUnitZero; simp only; (repeat' split) <;> simp
@[simp] theorem State.scanAccept_still (s : State) (t x d) : (s.scanAccept t x d).still = s.still := by
  unfold State.scanAccept; simp only; (repeat' split) <;> simp
@[simp] theorem State.makeEntry_still (s : State) (t e x) : (s.makeEntry t e x).still = s.still := rfl
@[simp] theorem State.rebuildEntry_still (s : State) (t e x) : (s.rebuildEntry t e x).still = s.still := by
  unfold State.rebuildEntry; (repeat' split) <;> simp
@[simp] theorem State.runningEntry_still (s : State) (t e x) : (s.runningEntry t e x).still = s.still := by
  unfold State.runningEntry; simp only; (repeat' split) <;> simp
@[simp] theorem State.scanWalked_still (s : State) (t) : (s.scanWalked t).still = s.still := by
  unfold State.scanWalked; simp only; (repeat' split) <;> simp
@[simp] theorem decodeActivate_still (s : State) : (decodeActivate s).still = s.still := by
  unfold decodeActivate; (repeat' split) <;> simp
@[simp] theorem decodeComplete_still (s : State) : (decodeComplete s).still = s.still := by
  unfold decodeComplete; split <;> simp

/-! ### Answers and timers of the targets -/

@[simp] theorem State.unexpectedAnswer_still (s : State) (t) : (s.unexpectedAnswer t).still = s.still := rfl
@[simp] theorem State.lateAnswer_still (s : State) (t) : (s.lateAnswer t).still = s.still := by
  unfold State.lateAnswer; split <;> simp
theorem State.answered_still (s : State) (t a) (u : State) (h : u.still = s.still) :
    (s.answered t a u).still = s.still := by
  unfold State.answered; split <;> simp [h]
@[simp] theorem State.nextBeat_still (s : State) (t x) : (s.nextBeat t x).still = s.still := rfl
@[simp] theorem State.readBeat_still (s : State) (t x d) : (s.readBeat t x d).still = s.still := by
  unfold State.readBeat; simp only; (repeat' split) <;> simp
@[simp] theorem State.writeBeat_still (s : State) (t x) : (s.writeBeat t x).still = s.still := by
  unfold State.writeBeat; split <;> simp
@[simp] theorem State.acceptBeat_still (s : State) (t d) : (s.acceptBeat t d).still = s.still := by
  unfold State.acceptBeat; (repeat' split) <;> simp
@[simp] theorem State.failBeat_still (s : State) (t x c) : (s.failBeat t x c).still = s.still := by
  unfold State.failBeat; split <;> simp
@[simp] theorem State.errorBeat_still (s : State) (t) : (s.errorBeat t).still = s.still := by
  unfold State.errorBeat; split <;> simp
@[simp] theorem beatAccept_still (s : State) (t a d) : (beatAccept t a d s).still = s.still :=
  s.answered_still t a _ (by simp)
@[simp] theorem beatError_still (s : State) (t a) : (beatError t a s).still = s.still := s.answered_still t a _ (by simp)
@[simp] theorem State.countExpired_still (s : State) (t) : (s.countExpired t).still = s.still := rfl
@[simp] theorem ackTimerExpiry_still (s : State) (t k) : (ackTimerExpiry t k s).still = s.still := by
  unfold ackTimerExpiry; (repeat' split) <;> simp
@[simp] theorem eraseTimerExpiry_still (s : State) (t) : (eraseTimerExpiry t s).still = s.still := by
  unfold eraseTimerExpiry; split <;> simp
@[simp] theorem eraseDone_still (s : State) (t a) : (eraseDone t a s).still = s.still :=
  s.answered_still t a _ (by split <;> simp)
@[simp] theorem eraseError_still (s : State) (t a) : (eraseError t a s).still = s.still :=
  s.answered_still t a _ (by split <;> simp)
@[simp] theorem State.takeSuspended_still (s : State) (t) : (s.takeSuspended t).still = s.still := by
  unfold State.takeSuspended; (repeat' split) <;> simp
@[simp] theorem targetSuspended_still (s : State) (t a) : (targetSuspended t a s).still = s.still :=
  s.answered_still t a _ (by simp)
@[simp] theorem State.takeResumed_still (s : State) (t) : (s.takeResumed t).still = s.still := by
  unfold State.takeResumed; (repeat' split) <;> simp
@[simp] theorem targetResumed_still (s : State) (t a) : (targetResumed t a s).still = s.still :=
  s.answered_still t a _ (by simp)
@[simp] theorem State.tick_still (s : State) : s.tick.still = s.still := rfl

/-! ### Expiry Engine -/

@[simp] theorem State.endPass_still (s : State) (p k a n) : (s.endPass p k a n).still = s.still := rfl
@[simp] theorem State.startSweep_still (s : State) (o) : (s.startSweep o).still = s.still := by
  unfold State.startSweep; split <;> simp
@[simp] theorem State.startScrub_still (s : State) (o) : (s.startScrub o).still = s.still := by simp [State.startScrub]
@[simp] theorem State.startPass_still (s : State) (k o) : (s.startPass k o).still = s.still := by
  unfold State.startPass; split <;> simp
@[simp] theorem sweepTimerMatch_still (s : State) : (sweepTimerMatch s).still = s.still := by
  unfold sweepTimerMatch; (repeat' split) <;> simp
@[simp] theorem State.expire_still (s : State) (e t x) : (s.expire e t x).1.still = s.still := by
  unfold State.expire; simp only; split <;> simp
theorem State.examine_still {s t : State} {p e c} (h : s.examine p e = .counted t c) : t.still = s.still := by
  unfold State.examine at h
  (repeat' split at h) <;> simp_all
  all_goals rw [← h.1]; simp
@[simp] theorem State.afterExamination_still (s : State) (p i w c) : (s.afterExamination p i w c).still = s.still := by
  unfold State.afterExamination; simp only; (repeat' split) <;> simp
@[simp] theorem sweepExamination_still (s : State) : (sweepExamination s).still = s.still := by
  unfold sweepExamination
  (repeat' split) <;> simp
  next h => exact State.examine_still h

/-! ### Intake link -/

@[simp] theorem State.onCounters_still (s : State) (f) : (s.onCounters f).still = s.still := rfl
@[simp] theorem State.overrunFrame_still (s : State) (l) : (s.overrunFrame l).still = s.still := rfl
@[simp] theorem State.fileArrives_still (s : State) (l b) : (s.fileArrives l b).still = s.still := by
  unfold State.fileArrives; simp only; split <;> simp
@[simp] theorem State.directiveArrives_still (s : State) (d) : (s.directiveArrives d).still = s.still := by
  unfold State.directiveArrives; (repeat' split) <;> simp
@[simp] theorem State.abortAll_still (s : State) : s.abortAll.still = s.still :=
  State.foldl_still _ (fun s l => State.abortFile_still s l _) _ s
@[simp] theorem State.resetLanes_still (s : State) : s.resetLanes.still = s.still := by simp [State.resetLanes]
@[simp] theorem State.cutOff_still (s : State) : s.cutOff.still = s.still := by
  unfold State.cutOff; simp only; split <;> simp
@[simp] theorem State.intakeReset_still (s : State) : s.intakeReset.still = s.still := by simp [State.intakeReset]
@[simp] theorem State.routeArrival_still (s : State) (a) : (s.routeArrival a).still = s.still := by
  unfold State.routeArrival; simp only; split <;> simp
@[simp] theorem frameArrival_still (s : State) (o) : (frameArrival o s).still = s.still := by
  unfold frameArrival; (repeat' split) <;> simp
@[simp] theorem linkReset_still (s : State) : (linkReset s).still = s.still := by unfold linkReset; split <;> simp
@[simp] theorem linkLoss_still (s : State) : (linkLoss s).still = s.still := by unfold linkLoss; split <;> simp
@[simp] theorem linkUp_still (s : State) : (linkUp s).still = s.still := rfl
@[simp] theorem State.beginNotice_still (s : State) (n) : (s.beginNotice n).still = s.still := rfl
@[simp] theorem State.beginRecords_still (s : State) : s.beginRecords.still = s.still := by
  unfold State.beginRecords; split <;> simp
@[simp] theorem State.beginAfterFlow_still (s : State) : s.beginAfterFlow.still = s.still := by
  unfold State.beginAfterFlow; (repeat' split) <;> simp
@[simp] theorem returnFrameBegin_still (s : State) : (returnFrameBegin s).still = s.still := by
  unfold returnFrameBegin; (repeat' split) <;> simp
@[simp] theorem State.recordsSent_still (s : State) : s.recordsSent.still = s.still := by
  unfold State.recordsSent; simp only; split <;> simp
@[simp] theorem returnFrameSent_still (s : State) : (returnFrameSent s).still = s.still := by
  unfold returnFrameSent; simp only; (repeat' split) <;> simp

end Sys2Proof.Machine
end

