-- ==== Sys2Proof/Laws/Ops.lean ====
section
/-! SUPPORT. What the shared operations do, said once for each: raising an event, making a notice source pending,
replying, taking a directive, and the table updates by key. -/

namespace Sys2Proof.Machine

/-! ### Tables -/

@[simp] theorem vget_vset_same {α : Type} {n : Nat} (v : Vector α n) (i : Fin n) (x : α) : vget (vset v i x) i = x := by
  simp [vget, vset]

theorem vget_vset {α : Type} {n : Nat} (v : Vector α n) (i j : Fin n) (x : α) :
    vget (vset v i x) j = if j = i then x else vget v j := by
  by_cases h : j = i
  · subst h; simp
  · have : ¬ i.val = j.val := fun e => h (Fin.ext e.symm)
    simp [vget, vset, h, this]

@[simp] theorem vset_vset_same {α : Type} {n : Nat} (v : Vector α n) (i : Fin n) (x y : α) :
    vset (vset v i x) i y = vset v i y := by
  simp [vset]

@[simp] theorem State.target_onTarget_same (s : State) (t f) : (s.onTarget t f).target t = f (s.target t) := by
  simp [State.target, State.onTarget]

theorem State.target_onTarget (s : State) (t u f) :
    (s.onTarget t f).target u = if u = t then f (s.target t) else s.target u := by
  simp [State.target, State.onTarget, vget_vset]

@[simp] theorem State.lane_onLane_same (s : State) (l f) : (s.onLane l f).lane l = f (s.lane l) := by
  simp [State.lane, State.onLane]

theorem State.lane_onLane (s : State) (l m f) :
    (s.onLane l f).lane m = if m = l then f (s.lane l) else s.lane m := by
  simp [State.lane, State.onLane, vget_vset]

/-! ### Events and notices -/

/-- Raising an event does what `recorded` says. -/
theorem State.raise_eq (s : State) (e : AuditEvent) : s.raise e = s.recorded e := by
  unfold State.raise State.recorded State.notify Audit.offer Audit.snapshot AuditEvent.marksGap
  by_cases h : s.audit.events.length < 64 <;>
    by_cases g : e.code = .conflict ∨ (e.state = .opened ∧ (e.code = .gap ∨ e.code = .defect))
  all_goals
    have g' : (((e.code = .gap ∧ e.state = .opened) ∨ (e.code = .defect ∧ e.state = .opened)) ∨ e.code = .conflict)
        ↔ (e.code = .conflict ∨ (e.state = .opened ∧ (e.code = .gap ∨ e.code = .defect))) := by tauto
    simp [State.onAudit, State.onNotices, NoticeSource.pend, satAdd, h, g, g', setGap, noticeAudit]

/-- Making a source pending does what `pended` says. -/
theorem State.notify_eq (s : State) (n : Fin 8) (x : List Byte) : s.notify n x = s.pended n x := rfl

/-- Raising keeps the Audit Event Queue's rule (R143). -/
theorem Audit.offer_sound (a : Audit) (e : AuditEvent) (h : a.sound) : (a.offer e).sound := by
  grind [Audit.sound, Audit.offer, satAdd]

theorem State.raise_sound (s : State) (e : AuditEvent) (h : s.audit.sound) : (s.raise e).audit.sound :=
  Audit.offer_sound _ _ h

theorem State.raiseAll_sound (s : State) (es : List AuditEvent) (h : s.audit.sound) : (s.raiseAll es).audit.sound := by
  unfold State.raiseAll
  induction es generalizing s with
  | nil => exact h
  | cons e t ih => exact ih _ (s.raise_sound e h)

/-! ### Replies and directives -/

theorem State.answer_eq (s : State) (tag r figs) : s.answer tag r figs = s.replied tag r false figs := rfl

theorem State.completeWith_eq (s : State) (tag r figs) : s.completeWith tag r figs = s.settledWith tag r false figs := rfl

/-- Taking the head of the Directive Queue. -/
theorem State.onDirective_of_takes {s : State} {code tag payload rest} (h : s.Takes code tag payload rest)
    (p : Nat → Bool) (hp : p code = true) (work : Directive → State → State) :
    s.onDirective p work =
      (work { code := code, tag := tag, payload := payload }
        (s.takeDirective { code := code, tag := tag, payload := payload })).setCurrent none := by
  obtain ⟨hc, hr, hd⟩ := h
  have hf : s.decoderFree = true := by
    simp [State.decoderFree, hc, Port.freePlaces, Config.replyPlaces]; omega
  simp [State.onDirective, hd, hf, hp]

/-- A directive whose payload is read. -/
theorem State.directive_of_takes {α : Type} {s : State} {code tag payload rest} (h : s.Takes code tag payload rest)
    {read : List Byte → Option α} {a : α} (hr : read payload = some a) (work : Tag → α → State → State) :
    s.directive code read work =
      (work tag a (s.takeDirective { code := code, tag := tag, payload := payload })).setCurrent none := by
  unfold State.directive
  rw [State.onDirective_of_takes h _ (by simp)]
  simp [hr]

/-- A directive whose payload cannot be read is answered REFUSED_RANGE. -/
theorem State.directive_unreadable {α : Type} {s : State} {code tag payload rest} (h : s.Takes code tag payload rest)
    {read : List Byte → Option α} (hr : read payload = none) (work : Tag → α → State → State) :
    s.directive code read work = s.turnedDown rest tag .refusedRange := by
  unfold State.directive
  rw [State.onDirective_of_takes h _ (by simp)]
  obtain ⟨hc, -, hd⟩ := h
  simp [hr, State.takeDirective, State.answer, State.putReply, State.onPort, State.setCurrent, State.turnedDown,
    State.took, State.replied, hd, ← hc]

/-- A directive taken and turned down with a result code alone. -/
theorem State.take_refuse {s : State} {code tag payload rest} (h : s.Takes code tag payload rest) (r : Result) :
    ((s.takeDirective { code := code, tag := tag, payload := payload }).refuse tag r).setCurrent none
      = s.turnedDown rest tag r := by
  obtain ⟨hc, -, hd⟩ := h
  simp [State.refuse, State.takeDirective, State.answer, State.putReply, State.onPort, State.setCurrent,
    State.turnedDown, State.took, State.replied, hd, ← hc]

/-! ### The Directory -/

theorem mem_insertEntry (e x : SegEntry) (d : List SegEntry) : x ∈ insertEntry e d ↔ x = e ∨ x ∈ d := by
  induction d with
  | nil => simp [insertEntry]
  | cons y t ih => unfold insertEntry; split <;> simp [ih]; tauto

theorem mem_removeEntry (id : Nat) (x : SegEntry) (d : List SegEntry) : x ∈ removeEntry id d ↔ x ∈ d ∧ x.id ≠ id := by
  simp [removeEntry]

theorem mem_updateEntry (id : Nat) (f : SegEntry → SegEntry) (x : SegEntry) (d : List SegEntry) :
    x ∈ updateEntry id f d ↔ ∃ e ∈ d, x = if e.id = id then f e else e := by
  simp [updateEntry, eq_comm]

theorem length_updateEntry (id : Nat) (f : SegEntry → SegEntry) (d : List SegEntry) :
    (updateEntry id f d).length = d.length := by
  simp [updateEntry]

end Sys2Proof.Machine
end

