-- ==== Sys2Proof/WellFormed.lean ====
section
/-! DEFINITION. Well-formed commands: operands that the part's inputs can carry. -/

namespace Sys2Proof

/-- The octets of an arriving frame: header, at most 65,535 octets of payload by its length field, frame check (R180). -/
abbrev maxFrame : Nat := 65547

/-- One unit of data, or none (R84, R92). -/
def unitData (data : List Byte) : Bool :=
  data.length = 0 || data.length = 4096 || data.length = 16384 || data.length = 65536

/-- A command is well formed. -/
def Instr.wf : Instr → Bool
  | .frameArrival octets => octets.length ≤ maxFrame
  | .closeDeadlineReached day => day ≤ 65535
  | .beatAccept _ _ data => unitData data
  | .powerOn | .resetInput | .linkLoss | .linkUp | .protectLineChange _ | .linkReset => true
  | .takeFileOpen | .takeFileData | .takeFileClose | .takeFileAbort | .overrunMarkTaken _ | .stallEnd => true
  | .laneIdleTimerExpiry _ | .clockSecond | .holdRemainderEnd | .sweepTimerMatch | .sweepExamination => true
  | .commitBegin | .arbiterBegin _ | .beatError _ _ | .ackTimerExpiry _ _ | .eraseDone _ _ | .eraseError _ _ => true
  | .suspended _ _ | .resumed _ _ | .eraseTimerExpiry _ | .decodeActivate | .decodeComplete => true
  | .returnFrameBegin | .returnFrameSent | .holdProgramEnd _ | .directiveUnknown => true
  | .setClock | .loadSources | .loadTypeMap | .loadClasses | .loadDictionary | .loadTarget | .setTarget => true
  | .setDayPolicy | .setSweep | .setNotices | .setGuard | .addHold | .dropHold | .setProtectMode => true
  | .startArchive | .closeDay | .waive | .flush | .sweepNow | .scrubNow | .verify | .retrieve | .retryCommits => true
  | .clearSuspect | .engineReset | .intakeReset | .readClock | .readStatus | .readEvents | .readGapSummary => true
  | .readSegment | .readDay | .readContinuity | .readTarget | .readHolds | .readLink => true

end Sys2Proof
end

