-- ==== Sys2Proof/Tests/Slice0.lean ====
section
/-! SUPPORT. The model's own tests: the checks of WellFormed refuse ill-formed commands, the spec's worked numbers come
out, and every statement's hypotheses are met by a concrete state and operands. -/

namespace Sys2Proof.Machine

-- One test at a time: kernel evaluations of many tests at once need a thread, and a stack, for each.
set_option Elab.async false

/-! ### Well-formed commands -/

theorem test_wf_frame_too_long : (Instr.frameArrival (List.replicate 65548 0)).wf = false := by
  simp only [Instr.wf, List.length_replicate]; decide

theorem test_wf_frame_longest : (Instr.frameArrival (List.replicate 65547 0)).wf = true := by
  simp only [Instr.wf, List.length_replicate]; decide

theorem test_wf_day_out_of_range : (Instr.closeDeadlineReached 65536).wf = false := by decide

theorem test_wf_day_last : (Instr.closeDeadlineReached 65535).wf = true := by decide

theorem test_wf_beat_not_a_unit : (Instr.beatAccept 0 .live [1]).wf = false := by decide

theorem test_wf_beat_without_data : (Instr.beatAccept 0 .live []).wf = true := by decide

/-- No row of the table has bits. -/
theorem test_no_word_spells_a_command : decodeTableWord 0 0 = none ∧ decodeTableWord 16 0xFFFF = none := by decide

/-! ### Digests (R55) -/

/-- R55's check value: the digest of the nine octets "123456789". -/
theorem test_digest_check_value :
    crc32 [0x31, 0x32, 0x33, 0x34, 0x35, 0x36, 0x37, 0x38, 0x39] = 0xCBF43926#32 := by decide +kernel

/-- R57: the digest of no octets. -/
theorem test_digest_of_nothing : crc32 [] = 0#32 := by decide

/-! ### Coding (03, sections 3.3 and 3.5) -/

/-- The context of section 3.5. -/
def ctx35 : Ctx := { type := 3, seq := 1000, start := 36000, cause := 16, calling := [4,9,1,5,1,2,3,4,5,6,7,8,9] }

/-- The dictionary copy of section 3.5: "49" at index 5, "4989" at index 12. -/
def dict35 : List (List Nat) :=
  [[1], [2], [3], [5], [6], [4,9], [7], [8], [9], [1,1], [1,2], [1,3], [4,9,8,9]]

/-- The record of section 3.5. -/
def rec35 : CallRecord :=
  { typeCode := 3, seq := 1001, start := 36045, duration := 905, cause := 16,
    calling := [4,9,1,5,1,2,3,4,5,6,7,1,2], called := [4,9,8,9,5,5,5,1,2,3], route := none, volume := none,
    charge := some 12 }

/-- Section 3.5: 13 octets, the fields as its table and the examples of section 3.3 give them. -/
theorem test_coding_mid_run :
    codeRecord ctx35 dict35 rec35
      = [0x27, 0x5A, 0x89, 0x07, 0xE9, 0x01, 0x12, 0xCB, 0x02, 0x55, 0x51, 0x23, 0x0C] := by decide

/-- Section 3.5: the same record begins a continuation run in 24 octets. -/
theorem test_coding_continuation : (codeRecord Ctx.reset dict35 rec35).length = 24 := by decide

/-- Section 3.9: the 13 octets decode to the record. -/
theorem test_decoding_mid_run :
    decodeRecord ctx35 dict35 [0x27, 0x5A, 0x89, 0x07, 0xE9, 0x01, 0x12, 0xCB, 0x02, 0x55, 0x51, 0x23, 0x0C]
      = some (rec35, []) := by decide

/-- Section 3.9: the malformed calling codes 310 and 295, and called codes 1,650, 349 and 1,000. -/
theorem test_malformed_codes :
    getCalling ctx35.calling (varint 310 ++ List.replicate 9 0x11) = none
    ∧ getCalling ctx35.calling (varint 295 ++ List.replicate 9 0x11) = none
    ∧ getCalled dict35 (varint 1650 ++ List.replicate 12 0x11) = none
    ∧ getCalled dict35 (varint 349 ++ List.replicate 12 0x11) = none
    ∧ getCalled dict35 (varint 1000 ++ List.replicate 12 0x11) = none := by decide

/-- Section 3.9: digit octets 1Ah and 3Fh. -/
theorem test_digit_octets : getDigits 2 [0x1A] = none ∧ getDigits 1 [0x3F] = some ([3], []) := by decide

/-- R53: zigzag, and the steps of the sequence at the edges of its range (R49). -/
theorem test_zigzag :
    [0, -1, 1, -2, 2].map zigzag = [0, 1, 2, 3, 4] ∧ seqStep 0 3000000000 = -1294967296
    ∧ zigzag (seqStep 0 3000000000) = 2589934591 := by decide

/-! ### Small states -/

/-- A configured target of 32 extents, ONLINE and empty. -/
def aTarget : Target :=
  { Target.reset with configured := true, extents := some 32, unitSize := some 4096, gather := some false,
                      state := .online, map := some (List.replicate 32 .free) }

/-- An active source that sends 2 files a day. -/
def aSource : SourceEntry := { active := true, filesPerDay := 2, expected := some 9, duplicates := 0, conflicts := 0 }

/-- A running part on day 100 at 01:00: source 5 active with 2 files a day, type 3 in class 0, target 0 ONLINE. -/
def ready : State :=
  { State.reset with
    engine := .running
    clock := { mode := .running, reading := some { day := 100, second := 3600 }, remainder := 0 }
    port := { Port.reset with flow := .go, flowSlot := none, link := .up }
    tables := { typeMap := vset Tables.reset.typeMap 3 (some 0)
                classes := vset Tables.reset.classes 0 ({ retention := 10, target := 0, group := 0, enable := true })
                dict := vset Tables.reset.dict 0 ({ prefixes := dict35, generation := 1 }) }
    tracker := { Tracker.reset with sources := vset Tracker.reset.sources 5 aSource }
    targets := vset State.reset.targets 0 aTarget }

/-- One directive with tag 7 waits. -/
def State.asked (s : State) (code : Nat) (payload : List Byte) : State :=
  { s with port := { s.port with directives := [{ code := code, tag := 7, payload := payload }] } }

/-- The running part with one directive waiting. -/
def ask (code : Nat) (payload : List Byte) : State := ready.asked code payload

theorem asked_takes (s : State) (code : Nat) (payload : List Byte)
    (h : s.current = none ∧ s.port.replies.length + s.port.reserved.length < 16) :
    (s.asked code payload).Takes code 7 payload [] := ⟨h.1, h.2, rfl⟩

theorem ask_takes (code : Nat) (payload : List Byte) : (ask code payload).Takes code 7 payload [] :=
  asked_takes ready code payload (by decide +kernel)

/-- One file frame on lane 2 stands in the Intake FIFO. -/
def State.fed (s : State) (body : FileBody) : State :=
  { s with port := { s.port with fifo := [{ lane := 2, body := body, arrival := some { day := 100, second := 3599 } }] } }

theorem fed_takes (s : State) (body : FileBody) (h : s.asm.hand = none ∧ ∀ m, (s.lane m).overrun ≠ some 0) :
    (s.fed body).TakesFrame 2 body (some { day := 100, second := 3599 }) [] := ⟨h.1, h.2, rfl⟩

/-- The file of the tests: source 5, day 100, slot 0, sequence 9. -/
def aFile : FileInfo := { source := 5, day := 100, slot := 0, seq := 9 }

/-- A lane that receives the file. -/
def aLane : Lane := { Lane.reset with state := .receiving, file := some aFile }

/-- The running part with the file open on lane 2. -/
def receiving : State := ready.withLane 2 aLane

/-- The file's record and day. -/
def aSlot : Slot := { state := .inProgress, holder := some 2, prior := some .missing, facts := none, gapOpen := false }
def emptySlot : Slot := { state := .missing, holder := none, prior := none, facts := none, gapOpen := false }
def aRecord : ContRecord :=
  { source := 5, day := 100, expected := 2, slots := [aSlot, emptySlot], state := .collecting, archived := 0,
    rejected := 0, duplicates := 0, conflicts := 0, suspects := 0 }
def aDay : DayEntry := { day := 100, state := .opened, deadline := 145680, live := 1, inProgress := 1, retired := [] }

/-- The record and day tables hold what is given. -/
def State.tracked (s : State) (rs : List ContRecord) (ds : List DayEntry) : State :=
  { s with tracker := { s.tracker with records := rs, days := ds } }

/-- A FIRM run of the file, and one of the file open on lane 2. -/
def firmRun : RunRec :=
  { source := 5, slot := 0, status := .firm, continued := false, count := 1, digest := some 0, firstSeq := 1001,
    lane := none }
def openRun : RunRec := { firmRun with status := .provisional, digest := none, lane := some 2 }

/-- A segment of class 0 and day 100. -/
def aSegment (id : Nat) (st : SegState) (place : Option (TargetNo × Nat)) (runs : List RunRec) : SegEntry :=
  { id := id, cls := 0, day := 100, state := st, group := 0, generation := 1, place := place, payloadLen := 40,
    recordCount := 1, runs := runs, segDigest := some 0, sealReason := some .flush, attempts := 0, verifyCount := 0,
    lastVerified := none, suspect := false, pins := 0 }

/-- Its buffer. -/
def aBuffer (id : Nat) : Buffer :=
  { segId := id, dict := dict35,
    runs := [{ coded := List.replicate 24 0, ctx := some Ctx.reset, reg := some 0 }], lastPlacement := 1 }

/-- The Directory and the buffers hold what is given. -/
def State.stocked (s : State) (es : List SegEntry) (bs : List Buffer) : State :=
  { s with dir := es, builder := { s.builder with buffers := bs, nextId := some 9 } }

/-- A frame as R180 lays it out. -/
def aFrame (family kind l : Nat) (payload : List Byte) : List Byte :=
  let body := be 1 family ++ be 1 kind ++ be 2 l ++ be 2 payload.length ++ be 2 0 ++ payload
  body ++ crcOctets (crc32 body)

/-! ### Witnesses: the machine as a whole, resets and inputs -/

theorem witness_StepRunsTheFrontCommand : State.reset.pending = [] := by decide +kernel

/-- Each owner of the clock, the non-volatile memory, the tables and the Hold Store changes it somewhere. -/
theorem witness_EveryCommandTakesANextState :
    (∃ t, exec .clockSecond ready = .next t ∧ t.clock ≠ ready.clock)
    ∧ (let s : State := { ready with hold := { ready.hold with
         unit := some (.mode 7 .opened .high), mode := .line } }
       ∃ t, exec (.holdProgramEnd true) s = .next t ∧ t.hold.nv ≠ s.hold.nv ∧ t.hold ≠ s.hold)
    ∧ (∃ t, exec .loadTypeMap (ask 0x03 (be 2 1 ++ [4, 0, 0])) = .next t
        ∧ t.tables ≠ (ask 0x03 (be 2 1 ++ [4, 0, 0])).tables) :=
  ⟨⟨_, rfl, by decide +kernel⟩, ⟨_, rfl, by decide +kernel⟩, ⟨_, rfl, by decide +kernel⟩⟩

theorem witness_PowerOnLinkUpAndProtectLine : Level.high ≠ State.reset.hold.line := by decide

theorem witness_EngineResetEffect :
    (ask 0x19 []).Takes 0x19 7 [] [] ∧ ({ ready with engine := .rebuilding } : State).engine = .rebuilding
    ∧ (ready.engine = .running ∧ ready.builder.buffers.length ≤ 26)
    ∧ 30 ≤ (ready.stocked [] (List.replicate 30 (aBuffer 1))).builder.buffers.length
    ∧ ready.hold.holds = [] ∧ (∀ oldest, ready.hold.guard.covers 100 oldest 100 = false) :=
  ⟨ask_takes _ _, by decide +kernel, by decide +kernel, by decide +kernel, by decide +kernel, fun _ => rfl⟩

theorem witness_IntakeResetEffect :
    ready.port.link = .up ∧ State.reset.port.link = .lost ∧ (ask 0x1A []).Takes 0x1A 7 [] [] :=
  ⟨by decide +kernel, by decide +kernel, ask_takes _ _⟩

/-! ### Witnesses: the intake link -/

/-- R102, R135: the engine reset walks over an issued GROUP of which a hold covers one member: its filler is FREE, the covered
segment STORED again, the others stand as single entries in its place, and the entry behind it and another target stay.
R166: an intake reset leaves a notice that waits pending. -/
theorem test_reset_splits_a_group :
    let h : Hold := { id := 1, firstDay := 100, lastDay := 100, classMask := 1, kind := .irrevocable, release := none,
                      marked := false }
    let e (id day : Nat) : SegEntry := { aSegment id .expiring (some (0, id)) [firmRun] with day := day }
    let s : State := { (ready.stocked [e 4 99, e 5 100, e 6 99, aSegment 7 .expiring (some (0, 7)) [firmRun]] []).withTarget 0
        { aTarget with
          map := some (List.replicate 32 .erasing), queue := [.group 1 [(4, 4), (5, 5), (6, 6)] [8], .single 7 7]
          erase := some { state := .running, suspends := 0, timer := 3, timeout := 10 }, faults := 2 } with
      hold := { ready.hold with holds := [h] } }
    (∃ t, exec .resetInput s = .next t ∧ (t.target 0).queue = [.single 4 4, .single 6 6, .single 7 7]
      ∧ t.dir.map SegEntry.state = [.expiring, .stored, .expiring, .expiring]
      ∧ [4, 5, 6, 7, 8].map (t.target 0).extent? = [.written, .written, .written, .erasing, .free].map some
      ∧ (t.target 0).faults = 2 ∧ t.target 1 = s.target 1)
    ∧ ∃ t, exec .linkReset (ready.pended 3 [1]) = .next t ∧ (vget t.notices.sources 3).flag = true :=
  ⟨⟨_, rfl, by decide +kernel⟩, ⟨_, rfl, by decide +kernel⟩⟩

/-- Frames cut short, one whose check differs, one of an unknown family, FILE_ABORTs on lanes 7 and 8 with and without a
payload, the kinds next to those of files, and LINK_RESET. -/
theorem witness_FileFrameArrival :
    State.reset.port.link = .lost ∧ ready.port.link = .up
    ∧ frameFinding [1, 4, 0, 0, 0, 1, 0, 0] = .lengthFault
    ∧ frameFinding [1, 4, 0, 0, 0, 0, 0, 0, 0, 0, 0, 0] = .checkFailure
    ∧ frameFinding (aFrame 7 1 0 []) = .unknownKind ∧ frameFinding (aFrame 1 4 8 []) = .unknownKind
    ∧ frameFinding (aFrame 1 4 7 []) = .sound (.file 7 .aborting) ∧ frameFinding [] = .lengthFault
    ∧ frameFinding (aFrame 1 4 7 [0]) = .lengthFault ∧ frameFinding (aFrame 1 4 8 [0]) = .unknownKind
    ∧ frameFinding (aFrame 1 0 7 []) = .unknownKind ∧ frameFinding (aFrame 1 5 7 []) = .unknownKind
    ∧ frameFinding (aFrame 2 0 0 []) = .sound .linkReset := by decide +kernel

/-- A FILE_OPEN's fields (R180), bit by bit: source 5, day 100, slot 0, sequence 9 on lane 2. -/
theorem test_file_open_frame :
    frameFinding (aFrame 1 1 2 [0, 5, 0, 100, 0, 0, 0, 9]) = .sound (.file 2 (.opening 5 100 0 9)) := by decide +kernel

theorem witness_DirectiveArrival :
    ready.port.link = .up
    ∧ frameFinding (aFrame 2 0x1C 7 []) = .sound (.directive { code := 0x1C, tag := 7, payload := [] }) := by
  decide +kernel

theorem witness_ReturnFrameOrder :
    let noisy : NoticeSource := { flag := true, snapshot := [], time := none, count := 1, enable := true }
    let n : Notices := { sources := Vector.replicate 8 noisy, master := true, mode := .promote, promoted := 3 }
    let quiet : State := { ready with port := { ready.port with flowSlot := none } }
    State.reset.port.link = .lost
    ∧ (ready.port.link = .up ∧ ready.port.sending = none
      ∧ ({ ready with port := { ready.port with flowSlot := some .go } } : State).port.flowSlot = some .go)
    ∧ quiet.port.flowSlot = none ∧ quiet.port.replies = [] ∧ quiet.notices.choose = none ∧ quiet.audit.output = []
    ∧ n.choose = some 3 ∧ ({ n with mode := .fixed } : Notices).choose = some 0
    ∧ ({ n with mode := .silent } : Notices).choose = none
    ∧ ({ n with sources := Vector.replicate 8 { noisy with flag := false } } : Notices).choose = none := by
  decide +kernel

/-- Every kind of return frame can be the one being sent. -/
theorem witness_ReturnFrameSent :
    let r : Reply := { tag := 7, result := .done, clamped := false, figures := [] }
    let g : RecordsFrame :=
      { tag := 7, number := 0, segId := 1, run := 0, final := true, source := 5, slot := 0, records := [] }
    let sends (f : Sending) : State := { ready with
      port := { ready.port with sending := some f }
      audit := { ready.audit with
        output := [g], requests := [{ kind := .retrieve, segId := 1, origin := some 7, filter := none }] } }
    (sends (.flow .go)).port.sending = some (.flow .go)
    ∧ (sends (.reply r true)).port.sending = some (.reply r true)
    ∧ (sends (.records g true)).port.sending = some (.records g true)
    ∧ (sends (.records g true)).audit.output.tail = [] ∧ (sends (.records g true)).audit.requests.length = 1
    ∧ ({ (sends (.records g true)).audit with output := [g, g] } : Audit).output.tail ≠ [] := by
  decide +kernel

/-! ### Witnesses: the File Assembler -/

/-- The checks of R8 as the statement lists them. -/
def checksOf (s : State) (f : FileInfo) : Option RefuseCause :=
  let entry := vgetD s.tracker.sources f.source SourceEntry.reset
  let expected : Nat := match s.record? f.source f.day with
    | some r => r.expected
    | none => match (s.day? f.day).bind (fun d => d.retired.find? (·.source = f.source)) with
      | some i => i.expected
      | none => entry.filesPerDay
  if s.engine ≠ .running ∨ s.builder.nextId = none then some RefuseCause.notReady
  else if entry.active = false then some .unknownSource
  else if expected ≤ f.slot then some .slotRange
  else if s.now.day + 1 < f.day then some .future
  else if f.day + s.tracker.policy.acceptWindow < s.now.day ∧ s.isSettled f.day = false then some .stale
  else if s.isSettled f.day = false ∧ s.day? f.day = none ∧ 64 ≤ s.tracker.days.length then some .dayTableFull
  else if s.isSettled f.day = false ∧ s.record? f.source f.day = none ∧ 4096 ≤ s.tracker.records.length then
    some .continuityFull
  else none

/-- Each check of R8 is the first to fail somewhere, and just before its bound none fails. -/
theorem witness_FileRefused :
    (ready.fed (.opening 5 100 0 9)).TakesFrame 2 (.opening 5 100 0 9) (some { day := 100, second := 3599 }) []
    ∧ (ready.lane 2).state = .idle
    ∧ checksOf State.reset aFile = some .notReady
    ∧ checksOf ready { aFile with source := 6 } = some .unknownSource
    ∧ checksOf ready { aFile with slot := 2 } = some .slotRange
    ∧ checksOf ready { aFile with day := 102 } = some .future
    ∧ checksOf ready { aFile with day := 64 } = some .stale
    ∧ checksOf (ready.tracked [] (List.replicate 64 { aDay with day := 99 })) aFile = some .dayTableFull
    ∧ checksOf (ready.tracked (List.replicate 4096 { aRecord with day := 99 }) [aDay]) aFile = some .continuityFull
    ∧ checksOf ready { aFile with day := 101, slot := 1 } = none ∧ checksOf ready { aFile with day := 65 } = none :=
  ⟨fed_takes _ _ (by decide +kernel), by decide +kernel⟩

/-- The four routings, and an open outcome on a MISSING slot at sequence 65,535 and on a WAIVED one. -/
theorem witness_FileAccepted :
    let settled : State := { ready with tracker := { ready.tracker with settled := BitVec.twoPow 65536 100 } }
    let withSlot (x : Slot) : State := ready.tracked [{ aRecord with slots := [x, emptySlot] }] [aDay]
    let noTracking : State := { withSlot emptySlot with tracker := { (withSlot emptySlot).tracker with
      sources := vset ready.tracker.sources 5 ({ aSource with expected := none }) } }
    (ready.fed (.opening 5 100 0 9)).TakesFrame 2 (.opening 5 100 0 9) (some { day := 100, second := 3599 }) []
    ∧ ready.refusal aFile = none ∧ settled.refusal aFile = none ∧ settled.isSettled 100 = true
    ∧ (∀ st : SlotState, st ∈ [.missing, .inProgress, .received, .defective, .waived] →
        (withSlot { emptySlot with state := st }).refusal aFile = none)
    ∧ (withSlot emptySlot).isSettled 100 = false ∧ (withSlot emptySlot).day? 100 = some aDay
    ∧ ((withSlot emptySlot).record? 5 100).map ContRecord.slots = some [emptySlot, emptySlot]
    ∧ ((withSlot emptySlot).source 5).expected = some 9
    ∧ (noTracking.source 5).expected = none ∧ noTracking.refusal { aFile with seq := 65535 } = none
    ∧ (ready.isSettled 100 = false ∧ ready.record? 5 100 = none ∧ ready.day? 100 = none)
    ∧ ((ready.tracked [] [{ aDay with state := .closed, live := 0 }]).refusal aFile = none
      ∧ (ready.tracked [] [{ aDay with state := .closed, live := 0 }]).record? 5 100 = none) :=
  ⟨fed_takes _ _ (by decide +kernel), by decide +kernel⟩

theorem witness_StrayAndDiscardedFrames :
    let discarding : State := ready.withLane 2 { Lane.reset with state := .discarding }
    (∀ b : FileBody, b ∈ [.data [], .closing 0 0, .aborting] → (ready.fed b).TakesFrame 2 b
        (some { day := 100, second := 3599 }) [] ∧ (discarding.fed b).TakesFrame 2 b
        (some { day := 100, second := 3599 }) [])
    ∧ (ready.lane 2).state = .idle ∧ (discarding.lane 2).state = .discarding
    ∧ (let s := ready.withLane 2 { Lane.reset with overrun := some 0 }
       s.asm.hand = none ∧ (s.lane 2).overrun = some 0 ∧ (s.lane 2).state = .idle)
    ∧ (let s := ready.withLane 2 { Lane.reset with overrun := some 0, state := .discarding }
       s.asm.hand = none ∧ (s.lane 2).overrun = some 0 ∧ (s.lane 2).state = .discarding)
    ∧ (ready.withLane 2 { Lane.reset with overrun := some 1 }).asm.hand = none
    ∧ ((ready.withLane 2 { Lane.reset with overrun := some 1 }).lane 2).overrun ≠ some 0
    ∧ (ask 0x1C []).Takes 0x1C 7 [] [] :=
  ⟨fun _ _ => ⟨fed_takes _ _ (by decide +kernel), fed_takes _ _ (by decide +kernel)⟩, by decide +kernel, by decide +kernel,
    by decide +kernel, by decide +kernel, by decide +kernel, by decide +kernel, ask_takes _ _⟩

/-- The record of section 3.5 in its 49 canonical octets. -/
def octets35 : List Byte := canonical rec35

theorem test_canonical_record : octets35.length = 49 ∧ validate octets35 = none ∧ readRecord octets35 = rec35 := by
  decide +kernel

/-- A record that waits in a stall. -/
def aHand (c : StallCause) : Hand :=
  { lane := 2, record := octets35, cls := 0, turnedAway := false, rest := [], cause := c }

/-- Frames of 1 and of 167 records, a record held in a stall, and a record that fails each test of R1. -/
theorem witness_NoRecordIsLost :
    (∀ p : List Byte, (receiving.fed (.data p)).TakesFrame 2 (.data p) (some { day := 100, second := 3599 }) [])
    ∧ (receiving.lane 2).state = .receiving
    ∧ (octets35 ≠ [] ∧ octets35.length % 49 = 0 ∧ octets35.length ≤ 8183)
    ∧ (List.replicate 8183 (0 : Byte)).length % 49 = 0
    ∧ (aHand .buffer).lane = 2 ∧ (aHand .between).cause = .between
    ∧ (ask 0x04 []).loadDue = true ∧ receiving.loadDue = false
    ∧ validate (octets35.set 1 8) = some .presence ∧ validate (octets35.set 6 0x7F) = some .startRange
    ∧ validate (octets35.set 14 21) = some .digits ∧ validate (octets35.set 24 0) = some .pad
    ∧ (octets35.set 1 8).length = 49 :=
  ⟨fun _ => fed_takes _ _ (by decide +kernel), by decide +kernel⟩

/-- R5: while a LOAD TYPE MAP waits, a frame of two records is taken in two steps, the load between them. -/
theorem test_load_between_two_records :
    let s : State := (receiving.fed (.data (octets35 ++ octets35))).asked 0x03 (be 2 1 ++ [3, 0, 1])
    ∃ t u, exec .takeFileData s = .next t ∧ exec .loadTypeMap t = .next u
      ∧ t.asm.hand.map Hand.cause = some .between ∧ (t.lane 2).appended = 1 ∧ t.dir.map SegEntry.cls = [0]
      ∧ vgetD u.tables.typeMap 3 none = some 1 ∧ u.loadDue = false := ⟨_, _, rfl, rfl, by decide +kernel⟩

/-- The rest of that frame is taken then, under the table as loaded: class 1 is not enabled, so the record has class 14. -/
theorem test_frame_goes_on :
    let s : State := { receiving with asm := { receiving.asm with hand := some (aHand .between) }
                                      tables := { receiving.tables with typeMap := vset Tables.reset.typeMap 3 (some 1) } }
    ∃ t, exec .takeFileData s = .next t ∧ t.asm.hand = none ∧ (t.lane 2).appended = 1 ∧ t.dir.map SegEntry.cls = [14] :=
  ⟨_, rfl, by decide +kernel⟩

/-- R7: a count of 2^32 − 1 records stays there. -/
theorem test_lane_counts_saturate :
    let s : State := receiving.withLane 2 { aLane with rejected := 4294967295 }
    ∃ t, exec .takeFileData (s.fed (.data (octets35.set 1 8))) = .next t ∧ (t.lane 2).rejected = 4294967295 :=
  ⟨_, rfl, by decide +kernel⟩

/-- A segment that the record's 24 octets fill to the last. -/
theorem witness_RecordAppended :
    let e : SegEntry := { aSegment 4 .opened none [openRun] with payloadLen := 1048064 - 24 }
    let s : State := receiving.stocked [e] [aBuffer 4]
    let s : State := { s with builder := { s.builder with openIndex := [{ cls := 0, day := 100, segId := 4 }] } }
    (s.fed (.data octets35)).TakesFrame 2 (.data octets35) (some { day := 100, second := 3599 }) []
    ∧ (s.lane 2).state = .receiving ∧ (s.lane 2).file = some aFile ∧ octets35.length = 49
    ∧ validate octets35 = none ∧ s.classOf 2 (octetAt octets35 0) = 0
    ∧ s.builder.openIndex.find? (fun y => y.cls = 0 ∧ y.day = 100) = some { cls := 0, day := 100, segId := 4 }
    ∧ s.entry? 4 = some e ∧ s.buffer? 4 = some (aBuffer 4)
    ∧ e.runs.findIdx? (fun y => y.lane = some 2) = some 0
    ∧ ((aBuffer 4).runs[0]?).bind BufRun.ctx = some Ctx.reset
    ∧ e.payloadLen + (codeRecord Ctx.reset dict35 (readRecord octets35)).length = 1048064 :=
  ⟨fed_takes _ _ (by decide +kernel), by decide +kernel⟩

/-- A segment with no run of the file and room for one, one with 32 runs, and one that 24 octets overfill by one; a
suspect lane and a type without class. -/
theorem witness_RecordAppended_elsewhere :
    let at? (rs : List RunRec) := rs.findIdx? (fun y => y.lane = some 2)
    let s (e : SegEntry) : State := receiving.stocked [e] [aBuffer 4]
    let full : SegEntry := { aSegment 4 .opened none [openRun] with payloadLen := 1048064 - 23 }
    let many : SegEntry := aSegment 4 .opened none (List.replicate 32 firmRun)
    at? [firmRun] = none ∧ 40 + 16 + (codeRecord Ctx.reset dict35 (readRecord octets35)).length ≤ 1048064
    ∧ at? many.runs = none ∧ 32 ≤ many.runs.length ∧ many.state = .opened
    ∧ 1048064 < full.payloadLen + (codeRecord Ctx.reset dict35 (readRecord octets35)).length
    ∧ (s full).countState .opened ≤ 24 ∧ (s full).canOpen 0 octets35 9 ∧ (s many).canOpen 0 octets35 9
    ∧ (receiving.withLane 2 { aLane with state := .suspect }).classOf 2 3 = 15 ∧ receiving.classOf 2 4 = 14 := by
  unfold State.canOpen
  decide +kernel

/-- A stall with 31 buffers in use and 23 segments OPEN, for either cause. -/
theorem witness_StallEndOpensASegment :
    let es := (List.range 23).map fun i => aSegment (i + 100) .opened none [firmRun]
    let s : State := receiving.stocked es ((List.range 31).map fun i => aBuffer (i + 100))
    (∀ c, ({ s with asm := { s.asm with hand := some (aHand c) } } : State).asm.hand = some (aHand c))
    ∧ (aHand .buffer).rest = [] ∧ (s.lane 2).file = some aFile ∧ s.builder.nextId = some 9 ∧ s.entry? 9 = none
    ∧ s.buffer? 9 = none ∧ s.builder.buffers.length < 32 ∧ s.dir.length < 4194304 ∧ s.countState .opened < 24
    ∧ s.builder.openIndex.find? (fun y => y.cls = 0 ∧ y.day = 100) = none
    ∧ 16 + (codeRecord Ctx.reset dict35 (readRecord octets35)).length ≤ 1048064 :=
  ⟨fun _ => rfl, by decide +kernel⟩

/-- The Directory can be full. -/
theorem witness_StallEndOpensASegment_full (n : Nat) (e : SegEntry) (h : 4194304 ≤ n) :
    4194304 ≤ (receiving.stocked (List.replicate n e) []).dir.length := Nat.le_trans h (List.length_replicate ..).ge

/-- 24 segments OPEN, the first placed in longest ago; and a record from its frame with room, with no id left and with 32
buffers in use. -/
theorem witness_StallEndOpensASegment_crowded :
    let bs := (List.range 24).map fun i => { aBuffer (i + 100) with lastPlacement := i }
    let es := (List.range 24).map fun i => aSegment (i + 100) .opened none [firmRun]
    let s : State := receiving.stocked es bs
    s.canOpen 0 octets35 9 ∧ 24 ≤ s.countState .opened ∧ { aBuffer 100 with lastPlacement := 0 } ∈ s.builder.buffers
    ∧ aSegment 100 .opened none [firmRun] ∈ s.dir
    ∧ (∀ b ∈ s.builder.buffers, b.segId = 100 ∨ 0 < b.lastPlacement)
    ∧ receiving.classOf 2 (octetAt octets35 0) = 0 ∧ receiving.countState .opened < 24
    ∧ receiving.builder.openIndex.find? (fun y => y.cls = 0 ∧ y.day = 100) = none ∧ receiving.canOpen 0 octets35 1
    ∧ ({ receiving with builder := { receiving.builder with nextId := none } } : State).builder.nextId = none
    ∧ (receiving.stocked [] (List.replicate 32 (aBuffer 4))).builder.buffers.length = 32 := by
  unfold State.canOpen
  decide +kernel

/-- R67, R68: a record from its frame finds 24 segments OPEN: the one placed in longest ago is sealed CROWDED, and a new one
opens; with every buffer in use the seal is made, and the record stalls. R78: the buffer that makes 30 turns GO to PAUSE. -/
theorem test_crowded_by_a_frame :
    let es := (List.range 24).map fun i => aSegment (i + 100) .opened none [firmRun]
    let s (n : Nat) : State := (receiving.stocked es ((List.range n).map fun i => { aBuffer (i + 100) with lastPlacement := (i + 20) % 24 })).fed
      (.data octets35)
    let sealed (t : State) : List Nat := (t.dir.filter fun e => e.sealReason = some .crowded).map SegEntry.id
    (∃ t, exec .takeFileData (s 29) = .next t ∧ sealed t = [104] ∧ t.countState .opened = 24 ∧ (t.lane 2).appended = 1
      ∧ (t.port.flow, t.port.flowSlot) = (.pause, some .pause))
    ∧ (∃ t, exec .takeFileData (s 28) = .next t ∧ (t.port.flow, t.port.flowSlot) = (.go, none))
    ∧ ∃ t, exec .takeFileData (s 32) = .next t ∧ sealed t = [104] ∧ t.countState .opened = 23
      ∧ t.asm.hand.map Hand.cause = some .buffer := ⟨⟨_, rfl, by decide +kernel⟩, ⟨_, rfl, by decide +kernel⟩, _, rfl, by decide +kernel⟩

/-- A file that closes with and without defect, in a slot MISSING, WAIVED or with a gap open before. -/
theorem witness_FileClosed :
    let s : State := receiving.tracked [aRecord] [aDay]
    (∀ n crc, (s.fed (.closing n crc)).TakesFrame 2 (.closing n crc) (some { day := 100, second := 3599 }) [])
    ∧ (s.lane 2).state = .receiving ∧ (s.lane 2).file = some aFile ∧ (s.lane 2).reason = none
    ∧ 0#32 = ~~~ (s.lane 2).digest ∧ s.record? 5 100 = some aRecord ∧ aRecord.slots[0]? = some aSlot
    ∧ s.day? 100 = some aDay ∧ aDay.state = .opened
    ∧ (receiving.tracked [{ aRecord with slots := [{ aSlot with prior := some .waived }] }] [aDay]).record? 5 100
        = some { aRecord with slots := [{ aSlot with prior := some .waived }] } :=
  ⟨fun _ _ => fed_takes _ _ (by decide +kernel), by decide +kernel⟩

/-- A suspect file of each reason; its digest is 0, which a RECEIVED slot stores (a duplicate), or one that stores another
(a conflict). -/
theorem witness_FileClosed_suspect :
    let lane (why : Routing) : Lane := { aLane with state := .suspect, reason := some why }
    let s (why : Routing) (crc : Crc) : State := (ready.withLane 2 (lane why)).tracked
      [{ aRecord with suspects := 1, slots := [
        { emptySlot with state := .received, facts := some { digest := crc, seq := 8, arrival := none } }] }]
      [{ aDay with state := .closed }]
    (∀ why ∈ [Routing.occupied, .inProgress, .settled], ((s why 0).lane 2).state = .suspect
      ∧ ((s why 0).lane 2).file = some aFile ∧ ((s why 0).lane 2).reason = some why
      ∧ 0#32 = ~~~ ((s why 0).lane 2).digest)
    ∧ (∀ why n, ((s why 0).fed (.closing n 0)).TakesFrame 2 (.closing n 0) (some { day := 100, second := 3599 }) [])
    ∧ (s .occupied 0).isDuplicate aFile 0 = true ∧ (s .occupied 1).isDuplicate aFile 0 = false :=
  ⟨by decide +kernel, fun why _ => fed_takes _ _ (by cases why <;> decide +kernel), by decide +kernel, by decide +kernel⟩

/-- A duplicate in a CLOSED day: counted, its runs VOID, and the day, all RECEIVED, settles. -/
theorem test_duplicate_settles :
    let s : State := (ready.withLane 2 { aLane with state := .suspect, reason := some .occupied }).tracked
      [{ aRecord with suspects := 1, expected := 1, slots := [
        { emptySlot with state := .received, facts := some { digest := 0, seq := 8, arrival := none } }] }]
      [{ aDay with state := .closed }]
    ∃ t, exec .takeFileClose (s.fed (.closing 0 0)) = .next t ∧ (t.source 5).duplicates = 1 ∧ t.tracker.records = []
      ∧ t.isSettled 100 = true ∧ t.audit.events = [] := ⟨_, rfl, by decide +kernel⟩

theorem witness_EndOfFileResolvesRuns :
    let s : State := (receiving.tracked [aRecord] [aDay]).stocked [aSegment 4 .held none [firmRun, openRun]] [aBuffer 4]
    (∃ t, exec .takeFileClose (s.fed (.closing 0 0)) = .next t)
    ∧ (∃ t, exec .takeFileAbort (s.fed .aborting) = .next t ∧ t.dir ≠ [])
    ∧ (s.fed (.closing 0 0)).TakesFrame 2 (.closing 0 0) (some { day := 100, second := 3599 }) []
    ∧ (s.fed .aborting).TakesFrame 2 .aborting (some { day := 100, second := 3599 }) []
    ∧ (s.lane 2).state = .receiving ∧ (s.lane 2).file = some aFile ∧ (s.lane 2).reason = none
    ∧ 0#32 = ~~~ (s.lane 2).digest :=
  ⟨⟨_, rfl⟩, ⟨_, rfl, by decide +kernel⟩, fed_takes _ _ (by decide +kernel), fed_takes _ _ (by decide +kernel),
    by decide +kernel⟩

/-- R74, R76: an abort that makes every run VOID discards the HELD segment, and the waiting FLUSH counts it and is answered. -/
theorem test_all_void_is_discarded :
    let s : State := (receiving.tracked [aRecord] [aDay]).stocked [aSegment 4 .held none [openRun]] [aBuffer 4]
    let s : State := { s with
      builder := { s.builder with flush := some { tag := 1, awaited := [4], count := 1, stored := 0, stranded := 0, discarded := 0 } }
      commit := { s.commit with queue := [{ segId := 4, strandedBefore := false }] } }
    ∃ t, exec .takeFileAbort (s.fed .aborting) = .next t ∧ t.dir = [] ∧ t.builder.buffers = [] ∧ t.commit.queue = []
      ∧ t.builder.flush = none ∧ t.port.replies.map Reply.figures = [be 4 1 ++ be 4 0 ++ be 4 0 ++ be 4 1] :=
  ⟨_, rfl, by decide +kernel⟩

/-- R71, R75: a close in a CLOSED day: the HELD segment becomes SEALED in its place, the OPEN one is sealed DAY_CLOSED. -/
theorem test_resolved_segments_are_sealed :
    let s : State := (receiving.tracked [aRecord] [{ aDay with state := .closed }]).stocked
      [aSegment 4 .held none [firmRun, openRun], { aSegment 5 .opened none [openRun] with sealReason := none }]
      [aBuffer 4, aBuffer 5]
    let s : State := { s with commit := { s.commit with
      queue := [{ segId := 4, strandedBefore := false }, { segId := 3, strandedBefore := false }] } }
    ∃ t, exec .takeFileClose (s.fed (.closing 2 0)) = .next t
      ∧ t.dir.map (fun e => (e.state, e.sealReason, e.recordCount))
          = [(.sealed, some .flush, 2), (.sealed, some .dayClosed, 2)]
      ∧ t.commit.queue.map CommitEntry.segId = [4, 3, 5] := ⟨_, rfl, by decide +kernel⟩

/-- The five commands that abort a file: payloads empty, not of whole records and of 168 records, a differing digest,
a timer at its expiry time, and a mark that is due. -/
theorem witness_FileAborted :
    (∀ b : FileBody, (receiving.fed b).TakesFrame 2 b (some { day := 100, second := 3599 }) [])
    ∧ (receiving.lane 2).state = .receiving ∧ (receiving.lane 2).file = some aFile
    ∧ ((receiving.withLane 2 { aLane with state := .suspect }).lane 2).state = .suspect
    ∧ (List.replicate 50 (0 : Byte)).length % 49 ≠ 0 ∧ 8183 < (List.replicate 8232 (0 : Byte)).length
    ∧ 1#32 ≠ ~~~ (receiving.lane 2).digest
    ∧ (let s := receiving.withLane 2 { aLane with timer := some 8643600 }
       (s.lane 2).timer = some 8643600 ∧ s.clock.reading = some { day := 100, second := 3600 }
       ∧ s.clock.mode = .running ∧ 8643600 ≤ 100 * 86400 + 3600)
    ∧ ((receiving.withLane 2 { aLane with overrun := some 0 }).lane 2).overrun = some 0 :=
  ⟨fun _ => fed_takes _ _ (by decide +kernel), by decide +kernel⟩

/-- An overrun mark set by a full Intake FIFO stands at its tail. -/
theorem test_overrun_mark :
    let full : State := { ready with port := { ready.port with
      fifo := List.replicate 64 { lane := 1, body := .aborting, arrival := none } } }
    ∃ t, exec (.frameArrival (aFrame 1 4 7 [])) full = .next t ∧ (t.lane 7).overrun = some 64
      ∧ t.port.fifo.length = 64 ∧ t.port.counters.overruns = 1 := ⟨_, rfl, by decide +kernel⟩

/-- R18: the idle timer starts as the FILE_OPEN is finished, 300 seconds on. -/
theorem test_lane_timer_starts :
    ∃ t, exec .takeFileOpen (ready.fed (.opening 5 100 0 9)) = .next t ∧ (t.lane 2).timer = some 8643900 :=
  ⟨_, rfl, by decide +kernel⟩

/-! ### Witnesses: the archive clock and the days -/

/-- The running part with another clock. -/
def clocked (mode : ClockMode) (reading : Option Time) (remainder : Nat) : State :=
  { ready with clock := { mode := mode, reading := reading, remainder := remainder } }

theorem witness_SecondOfTheArchiveClock :
    State.reset.clock.mode = .notSet
    ∧ (clocked .holding (some { day := 100, second := 3600 }) 600).clock.mode = .holding
    ∧ (clocked .holding (some { day := 100, second := 3600 }) 1).clock.remainder ≤ 1
    ∧ ready.clock.mode = .running
    ∧ (clocked .running (some { day := 65535, second := 86399 }) 0).clock.reading
        = some { day := 65535, second := 86399 }
    ∧ (clocked .running (some { day := 65535, second := 86398 }) 0).clock.reading
        = some { day := 65535, second := 86398 }
    ∧ (clocked .running (some { day := 65534, second := 86399 }) 0).clock.reading
        = some { day := 65534, second := 86399 } := by decide +kernel

/-- The second before midnight, and the one that makes an archive minute. -/
theorem test_clock_second :
    (∃ t, exec .clockSecond (clocked .running (some { day := 99, second := 86399 }) 0) = .next t
      ∧ t.clock.reading = some { day := 100, second := 0 })
    ∧ ∃ t, exec .clockSecond { clocked .running (some { day := 99, second := 59 }) 0 with
        expiry := { Expiry.reset with mode := .cyclic } } = .next t ∧ t.expiry.count = 1 :=
  ⟨⟨_, rfl, by decide +kernel⟩, ⟨_, rfl, by decide +kernel⟩⟩

/-- R139: an IRREVOCABLE hold released by day 99 lapses as day 100 begins: its removal is programmed at once on an idle
unit, and pending behind a busy one. -/
theorem test_hold_lapses_at_rollover :
    let s (u : Option HoldOp) : State := { clocked .running (some { day := 99, second := 86399 }) 0 with
      hold := { ready.hold with
        holds := [{ id := 1, firstDay := 90, lastDay := 91, classMask := 1, kind := .irrevocable, release := some 99,
                    marked := false }], unit := u } }
    (∃ t, exec .clockSecond (s none) = .next t ∧ t.hold.holds = [] ∧ t.hold.unit ≠ none ∧ t.hold.lapsePending = [])
    ∧ ∃ t, exec .clockSecond (s (some (.drop 7 9))) = .next t ∧ t.hold.holds = [] ∧ t.hold.unit = some (.drop 7 9)
      ∧ t.hold.lapsePending = [[1]] := ⟨⟨_, rfl, by decide +kernel⟩, ⟨_, rfl, by decide +kernel⟩⟩

/-- Second 86,400; back by 1, 600 and 601 seconds; the same reading; a first setting. -/
theorem witness_SetClockEffect :
    (∀ payload, (ask 0x01 payload).Takes 0x01 7 payload [])
    ∧ (∀ t ∈ [({ day := 100, second := 86400 } : Time), ⟨100, 3599⟩, ⟨100, 3000⟩, ⟨100, 2999⟩, ⟨100, 3600⟩, ⟨100, 86399⟩],
        readSetClock (be 2 t.day ++ be 4 t.second) = some t)
    ∧ ready.clock.reading = some { day := 100, second := 3600 }
    ∧ (State.reset.asked 0x01 (be 2 100 ++ be 4 0)).Takes 0x01 7 (be 2 100 ++ be 4 0) []
    ∧ State.reset.clock.reading = none
    ∧ (∀ now, ready.clock.reading = some now → now.seconds ≤ ({ day := 100, second := 3600 } : Time).seconds) :=
  ⟨fun _ => ask_takes _ _, by decide +kernel, by decide +kernel, asked_takes _ _ _ (by decide +kernel), by decide +kernel,
    fun _ h => by cases h; decide⟩

/-- A forward setting past a lane timer and a day's deadline: one lane STALLED and one day closed. -/
theorem test_clock_forward :
    let s : State := ((receiving.withLane 2 { aLane with timer := some 8643700 }).tracked [aRecord]
      [{ aDay with deadline := 144065 }]).asked 0x01 (be 2 100 ++ be 4 3900)
    ∃ t, exec .setClock s = .next t ∧ t.port.replies.map Reply.figures = [be 2 100 ++ be 4 3900 ++ be 4 1 ++ be 4 1]
      ∧ (t.lane 2).state = .discarding ∧ (t.day? 100).map DayEntry.state = some .closed := ⟨_, rfl, by decide +kernel⟩

/-- A deadline just reached, one a minute on, a CLOSED day, a settled day and a day without entry. -/
theorem witness_DayCloses :
    let withDay (d : DayEntry) : State := (ask 0x10 (be 2 100)).tracked [aRecord] [d]
    let settled : State := { ask 0x10 (be 2 100) with
      tracker := { ready.tracker with settled := BitVec.twoPow 65536 100 } }
    ready.clock.mode = .running ∧ ready.clock.reading = some { day := 100, second := 3600 }
    ∧ (withDay { aDay with deadline := 144060 }).day? 100 = some { aDay with deadline := 144060 }
    ∧ ({ day := 100, second := 3600 } : Time).minute = 144060
    ∧ (withDay { aDay with state := .closed }).day? 100 = some { aDay with state := .closed }
    ∧ readNumber 2 (be 2 100) = some 100 ∧ (ask 0x10 (be 2 100)).day? 100 = none
    ∧ (ask 0x10 (be 2 100)).isSettled 100 = false ∧ settled.day? 100 = none ∧ settled.isSettled 100 = true
    ∧ (withDay aDay).current = none ∧ (withDay aDay).port.directives = (ask 0x10 (be 2 100)).port.directives := by
  decide +kernel

theorem witness_DayCloses_takes : (ask 0x10 (be 2 100)).Takes 0x10 7 (be 2 100) [] := ask_takes _ _

theorem witness_SettlementIsForGood :
    ∃ t, exec .clockSecond { ready with tracker := { ready.tracker with settled := BitVec.twoPow 65536 65535 } } = .next t
      ∧ Instr.clockSecond ≠ .powerOn ∧ t.isSettled 65535 = true := ⟨_, rfl, by decide +kernel⟩

/-- A day whose files are all WAIVED settles as it closes. -/
theorem test_day_settles :
    let waived : Slot := { emptySlot with state := .waived }
    let s : State := ready.tracked [{ aRecord with slots := [waived, waived] }]
      [{ aDay with deadline := 144060, inProgress := 0 }]
    ∃ t, exec (.closeDeadlineReached 100) s = .next t ∧ t.isSettled 100 = true ∧ t.tracker.days = [] :=
  ⟨_, rfl, by decide +kernel⟩

/-! ### Witnesses: the Expiry Engine -/

/-- A target scanned in RUNNING: unit 0 of the last extent but one, and an image that waits for the Record Coder. -/
def scanning (first extent : Nat) (buf : List Byte) : State :=
  let x : Xfer := { kind := .scan, extent := extent, first := first, beats := 1, unitSize := 4096, gather := false,
                    beat := 0, ackMs := 20, image := [], cut := false }
  { ready.withTarget 0 { aTarget with
      state := .scanning, map := some (List.replicate 32 .bad), xfer := some x
      scan := some { rebuild := false, extent := extent, buf := buf, made := [], reply := none } } with
    coder := [.scan 0] }

/-- A pass that has examined nothing yet. -/
def aPass : Pass :=
  { kind := .sweep, origin := .timer, startId := 1, wrapped := false, batch := 4096, oldest := some 100,
    skipped := false, counts := {} }

/-- The running part with a sweep timer just below or at its interval. -/
def swept (count : Nat) : State :=
  { ready.stocked [aSegment 4 .stored (some (0, 3)) [firmRun]] [] with
    expiry := { Expiry.reset with mode := .single, count := count } }

theorem witness_SweepTimerMatch :
    ready.expiry.mode = .off ∧ (swept 59).expiry.count < (swept 59).expiry.interval
    ∧ (swept 60).expiry.mode ≠ .off ∧ (swept 60).expiry.interval ≤ (swept 60).expiry.count
    ∧ ({ swept 60 with engine := .rebuilding } : State).engine ≠ .running
    ∧ ({ swept 60 with expiry := { (swept 60).expiry with pass := some aPass } } : State).expiry.pass = some aPass
    ∧ (swept 60).engine = .running ∧ (swept 60).expiry.pass = none
    ∧ ¬ ((swept 60).expiry.mode = .cyclic ∧ (swept 60).expiry.alternate = true ∧ (swept 60).expiry.nextKind = .scrub)
    ∧ ((swept 60).dir.find? (fun y => (swept 60).expiry.cursor ≤ y.id)).or (swept 60).dir.head?
        = some (aSegment 4 .stored (some (0, 3)) [firmRun])
    ∧ ({ swept 60 with dir := [] } : State).dir = []
    ∧ (let x : Expiry := { (swept 60).expiry with mode := .cyclic, alternate := true, nextKind := .scrub }
       x.mode = .cyclic ∧ x.alternate = true ∧ x.nextKind = .scrub) := by decide +kernel

theorem witness_PassesOnDemand :
    (ask 0x13 []).Takes 0x13 7 [] [] ∧ (ask 0x14 []).Takes 0x14 7 [] []
    ∧ (State.reset.asked 0x13 []).Takes 0x13 7 [] [] ∧ State.reset.engine ≠ .running
    ∧ ready.engine = .running ∧ ready.expiry.pass = none ∧ ready.dir = []
    ∧ (swept 0).dir.head? = some (aSegment 4 .stored (some (0, 3)) [firmRun]) :=
  ⟨ask_takes _ _, ask_takes _ _, asked_takes _ _ _ (by decide +kernel), by decide +kernel⟩

/-- R154: of three candidates and a scrub batch of 2, the one never verified comes first, then the lower of two of day 90;
both are pinned, and the summary counts 2. -/
theorem test_scrub_order :
    let seg (id : Nat) (verified : Option Nat) : SegEntry :=
      { aSegment id .stored (some (0, id)) [firmRun] with lastVerified := verified }
    let s : State := { ask 0x14 [] with
      dir := [seg 4 (some 90), seg 5 (some 90), seg 6 none], expiry := { Expiry.reset with scrubBatch := 2 } }
    ∃ t, exec .scrubNow s = .next t ∧ t.audit.requests.map Request.segId = [6, 4]
      ∧ t.dir.map SegEntry.pins = [1, 0, 1] ∧ t.expiry.last.map Summary.queued = some 2 :=
  ⟨_, rfl, by decide +kernel⟩

/-- The running part on a day, with a STORED segment of day 100 and retention 10, settled, and a pass at it. -/
def examined (today : Nat) (queue : List EraseEntry) : State :=
  { swept 0 with
    clock := { mode := .running, reading := some { day := today, second := 0 }, remainder := 0 }
    tracker := { ready.tracker with settled := BitVec.twoPow 65536 100 }
    expiry := { Expiry.reset with pass := some aPass }
    targets := vset ready.targets 0 ({ aTarget with map := some (List.replicate 32 .written), queue := queue }) }

/-- A walk that ends for each cause and one that wraps; an entry passed over; one kept on day 109, the last of its
retention, EXPIRING on day 110; a full queue; and a group that coalesces and one that does not. -/
theorem witness_SweepExaminesAnEntry :
    let e := aSegment 4 .stored (some (0, 3)) [firmRun]
    let s := examined 110 []
    let wrapped : State := { s with expiry := { s.expiry with cursor := 5 } }
    (∀ today, (examined today []).expiry.pass = some aPass) ∧ State.reset.expiry.pass = none
    ∧ s.walkStops aPass = none
    ∧ ({ s with dir := [] } : State).walkStops aPass = some .empty
    ∧ s.walkStops { aPass with wrapped := true } = some .round
    ∧ wrapped.walkStops { aPass with startId := 5 } = none ∧ wrapped.dir.find? (fun y => 5 ≤ y.id) = none
    ∧ (s.dir.find? (fun y => s.expiry.cursor ≤ y.id)).or s.dir.head? = some e
    ∧ (aSegment 4 .held none [openRun]).state ≠ .stored ∧ ((scanning 0 0 []).target 0).state = .scanning
    ∧ e.state = .stored ∧ e.place = some (0, 3) ∧ (s.target 0).state ≠ .scanning ∧ (∃ r ∈ e.runs, r.status = .firm)
    ∧ ((vget s.tables.classes 0).retention = 10 ∧ (examined 109 []).now.day < 100 + 10 ∧ ¬ s.now.day < 100 + 10)
    ∧ s.isSettled 100 = true ∧ e.suspect = false ∧ e.pins = 0 ∧ s.hold.guard.covers 110 (some 100) 100 = false
    ∧ s.hold.holds = [] ∧ (s.target 0).queue.length < 64
    ∧ 64 ≤ ((examined 110 (List.replicate 64 (EraseEntry.single 31 99))).target 0).queue.length := by
  refine ⟨fun _ => rfl, by decide +kernel⟩

/-- R123: with every other extent of its group FREE an entry coalesces into a GROUP; in a group all WRITTEN it does not. An
unissued SINGLE of the group joins the GROUP at its place, and the entries of other groups keep theirs. -/
theorem test_coalescing :
    let s := examined 110 []
    let alone : State := s.withTarget 0 { aTarget with map := some ((List.replicate 32 .free).set 3 .written) }
    let among : State := s.withTarget 0 { aTarget with
      map := some (((List.replicate 32 ExtentState.free).set 3 .written).set 5 .written)
      queue := [.single 20 9, .single 5 7, .single 21 8] }
    (∃ t, exec .sweepExamination s = .next t ∧ (t.target 0).queue = [.single 3 4])
    ∧ (∃ t, exec .sweepExamination alone = .next t
      ∧ (t.target 0).queue = [.group 0 [(3, 4)] ((List.range 16).filter (· ≠ 3))])
    ∧ ∃ t, exec .sweepExamination among = .next t ∧ (t.target 0).queue = [.single 20 9,
        .group 0 [(3, 4), (5, 7)] ((List.range 16).filter fun y => y ≠ 3 && y ≠ 5), .single 21 8] :=
  ⟨⟨_, rfl, by decide +kernel⟩, ⟨_, rfl, by decide +kernel⟩, ⟨_, rfl, by decide +kernel⟩⟩

/-- R122: at a full Erase Queue the cursor stands on the entry, though the walk came to it over a gap in the ids. -/
theorem test_queue_full_keeps_the_cursor_on_the_entry :
    ∃ t, exec .sweepExamination (examined 110 (List.replicate 64 (EraseEntry.single 31 99))) = .next t
      ∧ t.expiry.cursor = 4 ∧ t.expiry.last.map Summary.cursor = some 4 ∧ t.expiry.pass = none :=
  ⟨_, rfl, by decide +kernel⟩

/-- An absent summary stands for as many octets as a sweep pass's has. -/
theorem test_summary_width :
    let m : Summary := { kind := .sweep, origin := .timer, stop := some .empty, stopTarget := none, counts := {}, queued := 0,
                         skipped := false, cursor := 1, erased := 0, failed := 0 }
    m.octets.length = summaryWidth ∧ (summaryOctets none).length = (summaryOctets (some m)).length := by decide +kernel

/-- The bounds of a window of 3 days before day 110, and of one of 3 days from the oldest. -/
theorem test_guard_window :
    let g : Guard := { anchor := .newest, span := 3, complement := false }
    let o : Guard := { anchor := .oldest, span := 3, complement := true }
    [107, 108, 110, 111].map (g.covers 110 none) = [false, true, true, false]
    ∧ [99, 100, 102, 103].map (o.covers 110 (some 100)) = [true, false, false, true] := by decide +kernel

/-- The window's clauses have guards that meet them. -/
theorem witness_SweepExaminesAnEntry_windows :
    (∃ g : Guard, g.span = 0) ∧ (∃ g : Guard, g.span ≠ 0 ∧ g.anchor = .newest)
    ∧ ∃ g : Guard, g.span ≠ 0 ∧ g.anchor = .oldest :=
  ⟨⟨{ anchor := .newest, span := 0, complement := false }, rfl⟩,
    ⟨{ anchor := .newest, span := 1, complement := false }, by decide⟩,
    ⟨{ anchor := .oldest, span := 4095, complement := true }, by decide⟩⟩

theorem witness_OnlyEligibleSegmentsExpire :
    ∃ t, exec .sweepExamination (examined 110 []) = .next t ∧ ∃ e' ∈ t.dir, e'.state = .expiring :=
  ⟨_, rfl, by decide +kernel⟩

/-! ### Witnesses: the commit path -/

/-- A SEALED segment queued for its commit. -/
def queued (k : Target) : State :=
  { (ready.stocked [aSegment 4 .sealed none [firmRun]] [aBuffer 4]).withTarget 0 k with
    commit := { queue := [{ segId := 4, strandedBefore := true }], current := none, waited := false } }

theorem witness_CommitBegins :
    let s := queued aTarget
    let c : CommitEntry := { segId := 4, strandedBefore := true }
    let first (s : State) := s.commit.queue.find? fun c => (s.entry? c.segId).any fun e => e.state = .sealed
    first ready = none ∧ s.commit.current = none ∧ first s = some c
    ∧ s.entry? 4 = some (aSegment 4 .sealed none [firmRun])
    ∧ (s.target 0).canTake ∧ (vget s.tables.classes 0).target = 0
    ∧ (s.target 0).map = some (List.replicate 32 .free) ∧ (List.replicate 32 ExtentState.free)[0]? = some .free
    ∧ (∀ t, ¬ ((queued { aTarget with map := some (List.replicate 32 .written) }).target t).canTake) := by
  have h : ∀ t, ((queued { aTarget with map := some (List.replicate 32 .written) }).target t).map
      = some (List.replicate 32 .written)
      ∨ ((queued { aTarget with map := some (List.replicate 32 .written) }).target t).map = none := by decide +kernel
  refine ⟨by decide +kernel, by decide +kernel, by decide +kernel, by decide +kernel,
    ⟨by decide +kernel, _, rfl, by decide +kernel⟩, by decide +kernel, by decide +kernel, by decide +kernel, ?_⟩
  rintro t ⟨-, m, hm, hf⟩
  rcases h t with h | h <;> rw [h] at hm
  · cases hm; exact absurd hf (by decide)
  · cases hm

/-- A write of the current commit that waits, and one under way at its last beat. -/
def committing (waits : Bool) (attempts beat : Nat) : State :=
  let s := ready.stocked [{ aSegment 4 .committing (some (0, 0)) [firmRun] with attempts := attempts }] [aBuffer 4]
  let x : Xfer := { kind := .write, extent := 0, first := 0, beats := 2, unitSize := 4096, gather := false, beat := beat,
                    ackMs := 20, image := [], cut := false }
  { s.withTarget 0 { aTarget with waitWrite := waits, xfer := if waits then none else some x } with
    commit := { queue := [], current := some { segId := 4, strandedBefore := true }, waited := false } }

theorem witness_ArbiterOrder :
    let s := committing true 0 0
    let reads : Target := { aTarget with waitRead := some { extent := 3, payloadLen := 40 } }
    let erases : Target := { aTarget with queue := [.group 0 [(0, 4)] [1]] }
    (s.target 0).xfer = none ∧ (s.target 0).state = .online ∧ (s.target 0).erase = none
    ∧ (s.target 0).waitWrite = true ∧ s.commit.current = some { segId := 4, strandedBefore := true }
    ∧ s.entry? 4 = some (aSegment 4 .committing (some (0, 0)) [firmRun]) ∧ s.buffer? 4 = some (aBuffer 4)
    ∧ (s.target 0).unitSize = some 4096 ∧ (s.target 0).gather = some false
    ∧ reads.waitWrite = false ∧ reads.waitRead = some { extent := 3, payloadLen := 40 }
    ∧ erases.waitWrite = false ∧ erases.waitRead = none ∧ erases.erase = none ∧ erases.queue ≠ []
    ∧ (∀ k ∈ [reads, erases], (ready.withTarget 0 k).target 0 = k) ∧ aTarget.queue = []
    ∧ ((committing false 0 0).target 0).xfer ≠ none := by decide +kernel

/-- A read of the active request's image, at a beat of 2. -/
def reading (beat : Nat) : State :=
  let s := ready.stocked [aSegment 4 .stored (some (0, 3)) [firmRun]] []
  let x : Xfer := { kind := .read, extent := 3, first := 0, beats := 2, unitSize := 4096, gather := false, beat := beat,
                    ackMs := 20, image := [], cut := false }
  { s.withTarget 0 { aTarget with xfer := some x } with
    audit := { s.audit with
      requests := [{ kind := .verify, segId := 4, origin := some 7, filter := none }], active := some (.reading 0) } }

theorem witness_BeatsOfATransfer :
    ((committing false 0 0).target 0).xfer.map (fun x => (x.kind, x.beat + 1, x.beats)) = some (.write, 1, 2)
    ∧ ((reading 0).target 0).xfer.map (fun x => (x.kind, x.cut, x.unitSize, x.beat + 1)) = some (.read, false, 4096, 1)
    ∧ ((reading 1).target 0).xfer.map (fun x => (x.kind, x.beat + 1, x.beats)) = some (.read, 2, 2)
    ∧ (List.replicate 4096 (0 : Byte)).length = 4096
    ∧ (reading 1).audit.requests = [{ kind := .verify, segId := 4, origin := some 7, filter := none }]
    ∧ ((reading 1).target 0).state = .online ∧ ((reading 1).target 0).erase = none := by decide +kernel

/-- R95, R91: a read that fails is answered READ_FAIL ERROR; one cut off as its target went OFFLINE, READ_FAIL OFFLINE. -/
theorem test_read_fails :
    let off : Target := ((reading 0).wentOffline 0).target 0
    off.xfer.map Xfer.cut = some true
    ∧ (∃ t, exec (.beatError 0 .live) (reading 0) = .next t ∧ t.port.replies.map Reply.figures = [[4, 1]]
      ∧ (t.target 0).readFails = 1 ∧ (t.target 0).faults = 1)
    ∧ ∃ t, exec (.ackTimerExpiry 0 .beat) ((reading 0).wentOffline 0) = .next t
      ∧ t.port.replies.map Reply.figures = [[4, 3]] ∧ (t.target 0).readFails = 0 :=
  ⟨by decide +kernel, ⟨_, rfl, by decide +kernel⟩, ⟨_, rfl, by decide +kernel⟩⟩

theorem witness_WriteSucceeds :
    let s := committing false 0 1
    (s.target 0).xfer.map (fun x => (x.kind, x.beats, x.beat + 1)) = some (.write, 2, 2)
    ∧ s.commit.current = some { segId := 4, strandedBefore := true }
    ∧ s.entry? 4 = some (aSegment 4 .committing (some (0, 0)) [firmRun]) ∧ (s.target 0).state = .online := by
  decide +kernel

/-- The state with target 0 in another state after one fault, and a STRANDED segment 5. -/
def State.amid (s : State) (st : TargetState) : State :=
  { s.withTarget 0 { s.target 0 with state := st, faults := 1 } with dir := s.dir ++ [aSegment 5 .stranded none [firmRun]] }

/-- What a success that takes the target ONLINE returns. -/
def State.returned (t : State) : Bool :=
  (t.target 0).state = .online && (t.target 0).faults = 0 && (t.entry? 5).map SegEntry.state = some .sealed
    && t.commit.queue = [{ segId := 5, strandedBefore := true }]

/-- A FLUSH waits for segment 4. -/
def State.awaited (s : State) : State :=
  { s with builder := { s.builder with
      flush := some { tag := 1, awaited := [4], count := 1, stored := 0, stranded := 0, discarded := 0 } } }

/-- R86, R101: the last beat of a write and of a read take a DEGRADED target ONLINE and return the STRANDED segment; an
OFFLINE target stays as it is. R72: the write's end is counted by the waiting FLUSH, which is answered. -/
theorem test_success_returns_the_stranded :
    (∃ t, exec (.beatAccept 0 .live []) ((committing false 0 1).amid .degraded).awaited = .next t ∧ t.returned = true
      ∧ t.builder.flush = none ∧ t.port.replies.map Reply.figures = [be 4 1 ++ be 4 1 ++ be 4 0 ++ be 4 0])
    ∧ (∃ t, exec (.beatAccept 0 .live (List.replicate 4096 0)) ((reading 1).amid .degraded) = .next t ∧ t.returned = true)
    ∧ ∃ t, exec (.beatAccept 0 .live []) ((committing false 0 1).amid .offline) = .next t
      ∧ ((t.target 0).state, (t.target 0).faults) = (.offline, 1) ∧ t.dir.map SegEntry.state = [.stored, .stranded] :=
  ⟨⟨_, rfl, by decide +kernel⟩, ⟨_, rfl, by decide +kernel⟩, ⟨_, rfl, by decide +kernel⟩⟩

/-- R72, R100: a waiting FLUSH counts the segment stranded at its third failure, and is answered. -/
theorem test_flush_counts_a_stranded :
    ∃ t, exec (.beatError 0 .live) (committing false 2 0).awaited = .next t ∧ t.builder.flush = none
      ∧ t.port.replies.map Reply.figures = [be 4 1 ++ be 4 0 ++ be 4 1 ++ be 4 0] := ⟨_, rfl, by decide +kernel⟩

/-- A write that may try again, and one at its third failure. -/
theorem witness_WriteFails :
    (∀ n ∈ [0, 1, 2], ((committing false n 0).target 0).xfer.map Xfer.kind = some .write
      ∧ (committing false n 0).commit.current = some { segId := 4, strandedBefore := true }
      ∧ ((committing false n 0).entry? 4).map SegEntry.attempts = some n
      ∧ ((committing false n 0).target 0).state = .online ∧ ((committing false n 0).target 0).faults < 2)
    ∧ ((committing false 0 0).withTarget 0 { aTarget with faults := 1, state := .degraded }).target 0
        = { aTarget with faults := 1, state := .degraded } := by decide +kernel

/-- A write that fails at the third fault, its first or its third attempt: the target goes OFFLINE; and one whose target is
OFFLINE before. -/
theorem witness_WriteFails_offline :
    ∀ n ∈ [0, 2],
      let s := (committing false n 0).withTarget 0 { (committing false n 0).target 0 with faults := 2, state := .degraded }
      (s.target 0).xfer.map Xfer.kind = some .write ∧ s.commit.current = some { segId := 4, strandedBefore := true }
      ∧ (s.entry? 4).map SegEntry.attempts = some n ∧ (s.target 0).state ≠ .offline ∧ 2 ≤ (s.target 0).faults
      ∧ (s.target 0).waitWrite = false ∧ ((s.amid .offline).target 0).state = .offline
      ∧ ((s.amid .offline).target 0).waitWrite = false := by decide +kernel

theorem witness_StrandedSegmentsReturn :
    (ask 0x17 []).Takes 0x17 7 [] [] ∧ (ask 0x07 [0, 3]).Takes 0x07 7 [0, 3] [] ∧ readSetTarget [0, 3] = some (0, true)
    ∧ ((ready.withTarget 0 { aTarget with state := .degraded }).target 0).state = .degraded
    ∧ ((ready.withTarget 0 { aTarget with state := .offline }).target 0).state = .offline :=
  ⟨ask_takes _ _, ask_takes _ _, by decide +kernel⟩

theorem witness_AnswersOutOfPlace :
    (aTarget.xfer = none ∧ aTarget.erase = none) ∧ aTarget.expired = 0 := by decide +kernel

/-! ### Witnesses: erases -/

/-- An issued erase of one segment. -/
def erasing (st : EraseState) (suspends timer : Nat) : Target :=
  { aTarget with
    map := some (List.replicate 32 .erasing), queue := [.single 3 4]
    erase := some { state := st, suspends := suspends, timer := timer, timeout := 10 } }

theorem witness_EraseCompletes :
    ((ready.withTarget 0 (erasing .running 0 3)).target 0).erase ≠ none
    ∧ (erasing .running 0 3).queue = [.single 3 4] ∧ (erasing .running 0 3).state ≠ .degraded := by decide +kernel

/-- R86, R101: an erase done on a DEGRADED target takes it ONLINE and returns the STRANDED segment. -/
theorem test_erase_done_returns_the_stranded :
    ∃ t, exec (.eraseDone 0 .live) ((ready.withTarget 0 (erasing .running 0 3)).amid .degraded) = .next t
      ∧ t.returned = true ∧ (t.target 0).queue = [] ∧ (t.target 0).extent? 3 = some .free := ⟨_, rfl, by decide +kernel⟩

/-- A timer at its timeout and one below it, a request unanswered, and an OFFLINE target. -/
theorem witness_EraseFails :
    (erasing .running 0 10).erase.map (fun y => (y.state, y.timer, y.timeout)) = some (.running, 10, 10)
    ∧ (erasing .running 0 9).erase.map (fun y => (y.state, y.timer, y.timeout)) = some (.running, 9, 10)
    ∧ (erasing .suspended 0 9).erase.map (fun y => y.state) = some .suspended
    ∧ (erasing .suspendRequested 0 9).erase.map (fun y => y.state) = some .suspendRequested
    ∧ (erasing .running 0 10).queue = [.single 3 4] ∧ (erasing .running 0 10).faults < 2
    ∧ ({ erasing .running 0 10 with state := .offline } : Target).state = .offline := by decide +kernel

/-- Each state of the slot, with and without a transfer that waits, at 7 and 8 suspensions. -/
theorem witness_SuspendAndResume :
    (∀ st : EraseState, (erasing st 7 0).erase.map (fun y => (y.state, y.suspends)) = some (st, 7)
      ∧ (erasing st 8 0).erase.map (fun y => (y.state, y.suspends)) = some (st, 8))
    ∧ (erasing .suspendRequested 0 0).waitWrite = false ∧ (erasing .suspendRequested 0 0).waitRead = none
    ∧ ({ erasing .suspendRequested 0 0 with waitWrite := true } : Target).waitWrite = true
    ∧ (erasing .suspendRequested 0 0).state ≠ .offline := by
  refine ⟨fun st => by cases st <;> decide, by decide +kernel⟩

theorem witness_SuspendBudgetIsKept :
    let s : State := { ready.withTarget 0 { erasing .suspendRequested 7 0 with waitWrite := true } with
      pending := [.suspended 0 .live] }
    s.suspendsSound = true ∧ ∃ t, step s = .next t ∧ (t.target 0).suspensions = 1 := ⟨by decide +kernel, _, rfl, by decide +kernel⟩

/-! ### Witnesses: verification and retrieval -/

/-- A STORED segment of one run of one record, and its buffer's part. -/
def storedRun : RunRec := { firmRun with digest := some (crc32 octets35) }
def stored : SegEntry :=
  { aSegment 4 .stored (some (0, 3)) [storedRun] with segDigest := some (segmentDigest [crc32 octets35]) }
def storedBuffer : Buffer :=
  { segId := 4, dict := dict35, runs := [{ coded := codeRecord Ctx.reset dict35 rec35, ctx := none, reg := none }],
    lastPlacement := 1 }

/-- The image of the segment. -/
def image35 : List Byte := segmentImage stored storedBuffer

/-- A request of a kind, its image waiting for the Record Coder. -/
def decoding (kind : RequestKind) (e : SegEntry) (img : List Byte) : State :=
  let s := ready.stocked [e] []
  { s with
    coder := [.request]
    audit := { s.audit with
      requests := [{ kind := kind, segId := 4, origin := some 7, filter := none }]
      active := some .decoding, readBuffer := img } }

theorem decoded_of_ok {img : List Byte} (h : (decodeImage img).toBool = true) : ∃ ds, decodeImage img = .ok ds := by
  cases hd : decodeImage img with
  | error f => rw [hd] at h; cases h
  | ok ds => exact ⟨ds, rfl⟩

/-- The image of a segment walks to its record. -/
theorem test_image_walks :
    (match decodeImage image35 with
      | .ok ds => ds.map fun d => (d.source, d.count, d.records)
      | .error _ => []) = [(5, 1, [rec35])] := by decide +kernel

/-- A VERIFY of origin SCRUB. -/
def aRequest : Request := { kind := .verify, segId := 4, origin := none, filter := none }

/-- Each answer of R147, a request taken, and each end of an activation. -/
theorem witness_DecodeRequests :
    let s := ready.stocked [stored] []
    (∀ payload, (ask 0x15 payload).Takes 0x15 7 payload [] ∧ (ask 0x16 payload).Takes 0x16 7 payload [])
    ∧ readNumber 4 (be 4 4) = some 4 ∧ readRetrieve (be 4 4 ++ optNum 2 (some 511)) = some (4, some 511)
    ∧ s.requestRefusal 4 none = none ∧ s.requestRefusal 4 (some 511) = none
    ∧ s.requestRefusal 4 (some 512) = some .refusedRange ∧ s.requestRefusal 0 none = some .refusedRange
    ∧ State.reset.requestRefusal 4 none = some .refusedState ∧ s.requestRefusal 5 none = some .notFound
    ∧ (ready.stocked [{ stored with state := .expiring }] []).requestRefusal 4 none = some .tooLate
    ∧ (ready.stocked [{ stored with state := .held }] []).requestRefusal 4 none = some .refusedState
    ∧ ({ s with audit := { s.audit with requests := List.replicate 8 aRequest } } : State).requestRefusal 4 none
        = some .busy
    ∧ ready.audit.requests = [] ∧ ready.audit.active = none
    ∧ s.entry? 4 = some stored ∧ stored.place = some (0, 3) ∧ (s.target 0).state = .online
    ∧ ((s.withTarget 0 { aTarget with state := .offline }).target 0).state = .offline
    ∧ ((s.withTarget 0 { aTarget with state := .scanning }).target 0).state = .scanning ∧ aRequest.origin = none := by
  refine ⟨fun _ => ⟨ask_takes _ _, ask_takes _ _⟩, by decide +kernel⟩

/-- R148, R155: the activation of a scrub of an entry gone or EXPIRING, or on a target OFFLINE, has no reply and counts a scrub
read fail. -/
theorem test_scrub_read_fails :
    let scrubbed (s : State) : State := { s with audit := { s.audit with requests := [aRequest] } }
    let offline : State := (ready.stocked [stored] []).withTarget 0 { aTarget with state := .offline }
    ∀ s ∈ [ready, ready.stocked [{ stored with state := .expiring }] [], offline], ∃ t,
      exec .decodeActivate (scrubbed s) = .next t ∧ t.audit.scrubReadFail = 1 ∧ t.audit.requests = []
      ∧ t.port.replies = [] := by
  intro _ _ s hs
  simp only [List.mem_cons, List.not_mem_nil, or_false] at hs
  rcases hs with rfl | rfl | rfl
  · exact ⟨_, rfl, by decide +kernel⟩
  · exact ⟨_, rfl, by decide +kernel⟩
  · exact ⟨_, rfl, by decide +kernel⟩

/-- An image that matches, one whose digest differs, one with no runs; an entry gone or EXPIRING. -/
theorem witness_VerificationOutcome :
    let s := decoding .verify stored image35
    s.coder = [.request] ∧ s.audit.requests = [{ kind := .verify, segId := 4, origin := some 7, filter := none }]
    ∧ s.entry? 4 = some stored ∧ stored.state ≠ .expiring
    ∧ verifyImage stored image35 = .matched
    ∧ verifyImage { stored with segDigest := some 0 } image35 = .mismatch .header
    ∧ verifyImage { stored with runs := [] } (image35.set 11 0) = .malformed { run := none, record := none }
    ∧ (decoding .verify { stored with id := 5 } image35).entry? 4 = none
    ∧ ((decoding .verify { stored with state := .expiring } image35).entry? 4).map SegEntry.state = some .expiring
    ∧ aRequest.kind = .verify ∧ aRequest.origin = none ∧ aRequest.segId = 4 := by
  decide +kernel

/-- The comparisons of R150, each the first to differ: the run record's slot, the run's digest recomputed, the segment digest
and the record count. -/
theorem test_verification_compares :
    let img (e : SegEntry) : List Byte := segmentImage e storedBuffer
    let moved : SegEntry := { stored with runs := [{ storedRun with slot := 1 }] }
    let other : SegEntry := { stored with runs := [{ storedRun with digest := some 1 }] }
    let mixed : SegEntry := { stored with segDigest := some 1 }
    verifyImage moved image35 = .mismatch (.run (some 0)) ∧ verifyImage other (img other) = .mismatch (.digest (some 0))
    ∧ verifyImage mixed (img mixed) = .mismatch (.digest none)
    ∧ verifyImage { stored with recordCount := 2 } image35 = .mismatch (.run none) := by decide +kernel

/-- R155: a scrubbed segment that matches has no reply and counts one match. -/
theorem test_scrub_match :
    let s := decoding .verify stored image35
    ∃ t, exec .decodeComplete { s with audit := { s.audit with requests := [aRequest] } } = .next t
      ∧ t.audit.scrubMatch = 1 ∧ t.port.replies = [] ∧ (t.entry? 4).map SegEntry.verifyCount = some 1 :=
  ⟨_, rfl, by decide +kernel⟩

theorem witness_RetrievalOutput :
    let s := decoding .retrieve stored image35
    s.coder = [.request] ∧ s.audit.requests = [{ kind := .retrieve, segId := 4, origin := some 7, filter := none }]
    ∧ s.entry? 4 = some stored ∧ stored.state ≠ .expiring
    ∧ (∃ ds, decodeImage image35 = .ok ds) ∧ (decodeImage (image35.set 11 0)).toBool = false :=
  ⟨by decide +kernel, by decide +kernel, by decide +kernel, by decide +kernel, decoded_of_ok (by decide +kernel),
    by decide +kernel⟩

/-- The last beat of a RETRIEVE's read, the image in its buffer, with an entry. -/
def retrieving (es : List SegEntry) : State :=
  { reading 1 with
    dir := es
    audit := { (reading 1).audit with
      requests := [{ kind := .retrieve, segId := 4, origin := some 7, filter := none }], readBuffer := image35 } }

/-- R156: a header that agrees goes on to the Record Coder; one of another class ends the request FAILED, MALFORMED, of an
EXPIRING entry TOO_LATE, and an entry gone ends it NOT_FOUND. -/
theorem test_retrieve_compares_the_header :
    let other : SegEntry := { stored with cls := 1 }
    let after (es : List SegEntry) : Host.Outcome State Fault Refusal :=
      exec (.beatAccept 0 .live (List.replicate 4096 0)) (retrieving es)
    (retrieving [stored]).audit.active ≠ none
    ∧ (∃ t, after [stored] = .next t ∧ t.coder = [.request] ∧ t.audit.active = some .decoding ∧ t.port.replies = [])
    ∧ (∃ t, after [other] = .next t ∧ t.port.replies.map (fun r => (r.result, r.figures)) = [(.failed, [3, 1, 0, 1, 0, 0, 0, 0])])
    ∧ (∃ t, after [{ other with state := .expiring }] = .next t ∧ t.port.replies.map Reply.result = [.tooLate])
    ∧ ∃ t, after [] = .next t ∧ t.port.replies.map Reply.result = [.notFound] :=
  ⟨by decide +kernel, ⟨_, rfl, by decide +kernel⟩, ⟨_, rfl, by decide +kernel⟩, ⟨_, rfl, by decide +kernel⟩,
    ⟨_, rfl, by decide +kernel⟩⟩

/-- The four octets of a digest hold it. -/
theorem beNat_crcOctets (c : Crc) : beNat (crcOctets c) = c.toNat := by
  have := c.isLt
  simp only [crcOctets, be, beNat, List.foldl_cons, List.foldl_nil, BitVec.toNat_ofNat]
  omega

/-- R184: the header check of an image is that of the 508 octets before it. -/
theorem header_check (body rest : List Byte) (h : body.length = 508) :
    let img := body ++ crcOctets (crc32 body) ++ rest
    fieldAt img 508 4 = (crc32 (img.take 508)).toNat := by
  have ht : (body ++ crcOctets (crc32 body) ++ rest).take 508 = body := by simp [List.append_assoc, ← h]
  have hd : slice (body ++ crcOctets (crc32 body) ++ rest) 508 4 = crcOctets (crc32 body) := by
    simp [slice, List.append_assoc, ← h, crcOctets, be]
  simp only [ht, fieldAt, hd, beNat_crcOctets]

/-- R62: the image's header is sound, its dictionary places each filled with digits of their own; so is its header alone, as
unit 0 of 512 octets that further beats follow. -/
theorem sound_unit35 : ∀ data, data = image35 ∨ data = headerOctets stored dict35 → SoundUnit data := by
  have key (data : List Byte) (hc : fieldAt data 508 4 = (crc32 (data.take 508)).toNat) (hp : (readHeader data).places.Pairwise
      fun p q => p.2 ≠ [] → p.2 ≠ q.2) (hr : 512 ≤ data.length ∧ 1 ≤ fieldAt data 0 4 ∧ octetAt data 6 ≤ 15
        ∧ fieldAt data 12 4 ≤ 1048064 ∧ 1 ≤ octetAt data 11 ∧ octetAt data 11 ≤ 32 ∧ 1 ≤ octetAt data 7 ∧ octetAt data 7 ≤ 6
        ∧ octetAt data 10 ≤ 64 ∧ ∀ p ∈ (readHeader data).places, p.1 ≤ 12 ∧ ∀ d ∈ p.2, d ≤ 9) : SoundUnit data := by
    refine ⟨hr.1, hc, hr.2.1, hr.2.2.1, hr.2.2.2.1, hr.2.2.2.2.1, hr.2.2.2.2.2.1, hr.2.2.2.2.2.2.1, hr.2.2.2.2.2.2.2.1,
      hr.2.2.2.2.2.2.2.2.1, hr.2.2.2.2.2.2.2.2.2, fun i j p q h hi hj => ?_⟩
    obtain ⟨hi', rfl⟩ := List.getElem?_eq_some_iff.mp hi
    obtain ⟨hj', rfl⟩ := List.getElem?_eq_some_iff.mp hj
    exact List.pairwise_iff_getElem.mp hp i j hi' hj' h
  rintro _ (rfl | rfl)
  · exact key _ (header_check _ _ (by decide +kernel)) (by decide +kernel) (by decide +kernel)
  · exact key _ (by simpa [headerOctets] using header_check (headerBody stored dict35) [] (by decide +kernel)) (by decide +kernel)
      (by decide +kernel)

theorem failed_of_not_ok {img : List Byte} (h : (decodeImage img).toBool = false) : ∃ f, decodeImage img = .error f := by
  cases hd : decodeImage img with
  | error f => exact ⟨f, rfl⟩
  | ok ds => rw [hd] at h; cases h

/-- A unit erased, one with a sound header and one without; images that decode and do not; beats inside a segment; ids free
and held. -/
theorem witness_ScanMadeInRunning :
    let s := scanning 0 30 []
    let u := scanning 0 31 image35
    (s.target 0).scan.map (fun c => (c.rebuild, c.extent)) = some (false, 30)
    ∧ (s.target 0).xfer.map (fun x => (x.kind, x.first, x.unitSize)) = some (.scan, 0, 4096)
    ∧ (∀ b ∈ List.replicate 4096 (255 : Byte), b = 255) ∧ (∃ b ∈ image35, b ≠ 255)
    ∧ (512 + fieldAt image35 12 4 + image35.length - 1) / image35.length = 1
    ∧ (headerOctets stored dict35).length = 512 ∧ (512 + fieldAt (headerOctets stored dict35) 12 4 + 512 - 1) / 512 = 2
    ∧ ((scanning 1 30 []).target 0).xfer.map (fun x => (x.first, x.beat + 1, x.beats)) = some (1, 1, 1)
    ∧ (s.target 0).unitSize = some 4096 ∧ (s.target 0).gather = some false
    ∧ (∀ buf, ((scanning 0 31 buf).target 0).scan.map Scan.buf = some buf) ∧ u.coder = [.scan 0]
    ∧ u.entry? (readHeader image35).segId = none ∧ (u.stocked [stored] []).entry? (readHeader image35).segId ≠ none
    ∧ u.dir.length < 4194304 ∧ (u.target 0).map = some (List.replicate 32 .bad)
    ∧ (readHeader image35).day = 100 ∧ u.day? 100 = none ∧ u.builder.nextId = some 1 :=
  ⟨by decide +kernel, by decide +kernel, fun _ h => List.eq_of_mem_replicate h,
    ⟨0, List.mem_of_getElem? (i := 0) (by decide +kernel), by decide⟩, by decide +kernel, by decide +kernel, by decide +kernel,
    by decide +kernel, by decide +kernel, by decide +kernel, fun _ => rfl, by decide +kernel⟩

/-- The other premises of the same statement: a unit whose header is not sound, what decodes and what does not. -/
theorem witness_ScanMadeInRunning_images :
    ¬ SoundUnit (List.replicate 512 0) ∧ (∃ b ∈ List.replicate 512 (0 : Byte), b ≠ 255)
    ∧ (∃ ds, decodeImage image35 = .ok ds) ∧ (∃ f, decodeImage (List.replicate 512 0) = .error f)
    ∧ ∀ c, ((scanning 0 30 []).target 0).scan = some c → (scanning 0 30 []).scanGoesOn 0 c :=
  ⟨fun h => absurd h.2.2.1 (by decide +kernel), by decide +kernel, decoded_of_ok (by decide +kernel),
    failed_of_not_ok (by decide +kernel), fun c h => by cases h; exact .inl rfl⟩

/-- R87, R84: the last extent of a scan made in RUNNING stays BAD on a beat error, and the scan ends: the target ONLINE, the
STRANDED segment returned, TARGET pending, and LOAD TARGET answered. R146: an entry made has as many pins as requests name it. -/
theorem test_scan_ends_in_running :
    let s := ((scanning 0 31 []).amid .scanning).withTarget 0 { ((scanning 0 31 []).amid .scanning).target 0 with
      scan := some { rebuild := false, extent := 31, buf := [], made := []
                     reply := some { tag := 7, clamped := false, figures := be 4 32 } } }
    (∃ t, exec (.beatError 0 .live) s = .next t ∧ t.returned = true ∧ (t.target 0).scan = none
      ∧ (t.target 0).extent? 31 = some .bad ∧ (vget t.notices.sources 3).flag = true
      ∧ t.port.replies.map (fun r => (r.result, r.figures)) = [(.done, be 4 32 ++ be 4 0 ++ be 4 0 ++ be 4 32)])
    ∧ (match exec .decodeComplete { scanning 0 30 image35 with
        audit := { ready.audit with requests := [aRequest, { aRequest with segId := 9 }, aRequest] } } with
      | .next t => t.dir.map fun e => (e.id, e.pins)
      | _ => []) = [(4, 2)] := ⟨⟨_, rfl, by decide +kernel⟩, by decide +kernel⟩

/-- A scan of the rebuild on target 1 with an image, with the entries made so far. -/
def rebuilding (extent : Nat) (buf : List Byte) (es : List SegEntry) : State :=
  let x : Xfer := { kind := .scan, extent := extent, first := 0, beats := 1, unitSize := 4096, gather := false,
                    beat := 0, ackMs := 20, image := [], cut := false }
  { (ready.stocked es []).withTarget 1 { aTarget with
      state := .scanning, map := some (List.replicate 32 .bad), xfer := some x
      scan := some { rebuild := true, extent := extent, buf := buf, made := [],
                     reply := some { tag := 7, clamped := false, figures := [] } } } with
    coder := [.scan 1], engine := .rebuilding }

/-- The image is that of segment 4, which an entry holds on target 0 (kept) or on target 2 (withdrawn), or none does. -/
theorem witness_ScanMadeInRunning_rebuild :
    let s (v : TargetNo) : State := rebuilding 30 image35 [{ stored with place := some (v, 3) }]
    (∀ buf, ((rebuilding 30 buf []).target 1).scan.map (fun c => (c.rebuild, c.extent, c.buf)) = some (true, 30, buf))
    ∧ (readHeader image35).segId = 4
    ∧ (∀ v, (s v).coder = [.scan 1] ∧ ((s v).entry? 4).map SegEntry.place = some (some (v, 3)))
    ∧ ((s 0).target 1).extents ≠ some 31 ∧ ((s 0).target 1).map = some (List.replicate 32 .bad)
    ∧ (rebuilding 30 image35 []).entry? 4 = none
    ∧ (let u := rebuilding 31 [] [stored]
       (u.target 1).extents = some (31 + 1) ∧ (∀ v, v ≠ 1 → (u.target v).scan = none)
       ∧ (u.target 1).scan.bind Scan.reply = some { tag := 7, clamped := false, figures := [] }
       ∧ (u.target 1).state = .scanning ∧ (u.target 1).xfer.map Xfer.kind = some .scan
       ∧ (∀ e ∈ u.dir, e.state = .stored) ∧ u.builder.buffers = []) :=
  ⟨fun _ => rfl, by decide +kernel, by decide +kernel, by decide +kernel, by decide +kernel, by decide +kernel,
    by decide +kernel⟩

/-- R177: the rebuild ends with the last extent of the only target scanned. -/
theorem test_rebuild_ends :
    ∃ t, exec (.beatError 1 .live) (rebuilding 31 [] [stored]) = .next t ∧ t.engine = .running ∧ t.builder.nextId = some 5
      ∧ t.isSettled 100 = true ∧ t.port.replies.map Reply.figures = [be 2 1 ++ be 4 0 ++ be 4 0 ++ be 4 32] :=
  ⟨_, rfl, by decide +kernel⟩

/-! ### Witnesses: the Hold Store -/

/-- A hold over day 100 for class 0. -/
def aHold (id : Nat) : Hold :=
  { id := id, firstDay := 100, lastDay := 100, classMask := 1, kind := .irrevocable, release := some 100,
    marked := false }

/-- ADD HOLD's payload for it (R179). -/
def holdPayload (id : Nat) : List Byte :=
  be 4 id ++ be 2 100 ++ be 2 100 ++ be 2 1 ++ be 1 2 ++ optNum 2 (some 100)

/-- Requests accepted, refused in each way, and blocked by each cause; ids 1, 65,535 and 65,536. -/
theorem witness_HoldChanges :
    let pinned : HoldStore := { ready.hold with mode := .pinned }
    let busy : HoldStore := { ready.hold with lapsePending := [[1]] }
    (∀ code payload, (ask code payload).Takes code 7 payload [])
    ∧ (∀ id ∈ [1, 65535], readAddHold (holdPayload id) = some (aHold id)) ∧ readAddHold (holdPayload 65536) = none
    ∧ ready.hold.holds = [] ∧ (insertHold (aHold 1) []).find? (·.id = 1) = some (aHold 1)
    ∧ ready.hold.blocked = none ∧ pinned.blocked = some .refusedProtect ∧ busy.blocked = some .busy
    ∧ readSetGuard ([1] ++ be 4 4095 ++ [0]) = some { anchor := .newest, span := 4095, complement := false }
    ∧ readNumber 4 (be 4 65535) = some 65535 ∧ readNumber 4 (be 4 65536) = some 65536 ∧ (aHold 1).kind = .irrevocable ∧ ready.now.day ≤ 100
    ∧ readSetProtectMode [1, 1] = some (.opened, .high) ∧ (ready.hold.mode, ready.hold.level) = (.opened, .high)
    ∧ readSetProtectMode [3, 1] = some (.pinned, .high) := ⟨fun _ _ => ask_takes _ _, by decide +kernel⟩

/-- R139: a failed lapse removal of a hold id that is added again does not take the new hold out of the memory. -/
theorem test_added_again_is_not_removed :
    let h : HoldStore := { ready.hold with
      holds := [{ aHold 9 with kind := .revocable, release := none }], lapseFailed := [9], unit := some (.guard 7 ready.hold.guard {}) }
    h.lapsing 101 = [] ∧ ({ h with holds := [] } : HoldStore).lapsing 101 = [9] := by decide +kernel

/-- R136: a hold over a segment queued for erase rescues it. -/
theorem test_rescue_figures :
    let s : State := { (ask 0x0C (holdPayload 1)).stocked [aSegment 4 .expiring (some (0, 3)) [firmRun]] [] with
      targets := vset ready.targets 0 ({ aTarget with queue := [.single 3 4] }) }
    ∃ t, exec .addHold s = .next t ∧ t.hold.unit = some (.add 7 (aHold 1) { rescued := 1, lost := 0, deferred := 0 })
      ∧ (t.entry? 4).map SegEntry.state = some .stored ∧ (t.target 0).queue = [] := ⟨_, rfl, by decide +kernel⟩

/-- R134, R135: of a queue with 64 entries a GROUP that a hold covers in part gives way in its place to one single entry; the
other member left is deferred, its filler FREE, and the entries around it keep their order. -/
theorem test_rescue_splits_a_group :
    let e (id day : Nat) : SegEntry := { aSegment id .expiring (some (0, id)) [firmRun] with day := day }
    let s : State := { (ask 0x0C (holdPayload 1)).stocked [e 4 99, e 5 100, e 6 99] [] with
      targets := vset ready.targets 0 { aTarget with
        map := some (List.replicate 32 .erasing)
        queue := .single 9 9 :: .group 1 [(4, 4), (5, 5), (6, 6)] [8] :: List.replicate 62 (.single 10 10) } }
    ∃ t, exec .addHold s = .next t ∧ t.hold.unit = some (.add 7 (aHold 1) { rescued := 1, lost := 0, deferred := 1 })
      ∧ (t.target 0).queue = .single 9 9 :: .single 4 4 :: List.replicate 62 (.single 10 10)
      ∧ t.dir.map SegEntry.state = [.expiring, .stored, .stored]
      ∧ [4, 5, 6, 8].map (t.target 0).extent? = [.erasing, .erasing, .erasing, .free].map some :=
  ⟨_, rfl, by decide +kernel⟩

/-- R133, R139: the program of ADD HOLD ends as always while a lapse removal waits, which begins behind it. -/
theorem test_lapse_begins_behind_a_program :
    let s : State := { ready with
      hold := { ready.hold with
        holds := [aHold 1], unit := some (.add 7 (aHold 1) { rescued := 0, lost := 0, deferred := 0 })
        lapsePending := [[9], [8]] }
      port := { ready.port with reserved := [7] } }
    (∃ t, exec (.holdProgramEnd true) s = .next t ∧ t.hold.nv.holds = [aHold 1]
      ∧ (t.hold.unit, t.hold.lapsePending) = (some (.lapse [9]), [[8]]) ∧ t.port.replies.map Reply.result = [.done])
    ∧ ∃ t, exec (.holdProgramEnd false) s = .next t ∧ (t.hold.holds, t.hold.nv.holds) = ([], [])
      ∧ (t.hold.unit, t.hold.lapsePending) = (some (.lapse [9]), [[8]]) ∧ t.port.replies.map Reply.result = [.failed] :=
  ⟨⟨_, rfl, by decide +kernel⟩, ⟨_, rfl, by decide +kernel⟩⟩

theorem witness_HoldProgramEnds :
    let op (u : HoldOp) : HoldStore := { ready.hold with unit := some u }
    ready.hold.unit = none ∧ ready.hold.lapsePending = []
    ∧ (∀ u : HoldOp, (op u).unit = some u ∧ (op u).lapsePending = [])
    ∧ ({ op (.drop 7 1) with lapsePending := [[1]] } : HoldStore).lapsePending = [[1]] :=
  ⟨by decide +kernel, by decide +kernel, fun _ => ⟨rfl, rfl⟩, rfl⟩

/-! ### Witnesses: directives that set up the part -/

theorem witness_TablesAreLoaded :
    (∀ code payload, (ask code payload).Takes code 7 payload [])
    ∧ readLoadSources (be 2 1 ++ be 2 511 ++ [1] ++ be 4 96 ++ [1])
        = some [{ source := 511, active := true, filesPerDay := 96, clearTracking := true }]
    ∧ readLoadSources (be 2 1 ++ be 2 512 ++ [1] ++ be 4 97 ++ [0])
        = some [{ source := 512, active := true, filesPerDay := 97, clearTracking := false }]
    ∧ readLoadTypeMap (be 2 2 ++ [255, 0, 13] ++ [0, 1, 0]) = some [(255, some 13), (0, none)]
    ∧ readLoadTypeMap (be 2 1 ++ [255, 0, 14]) = some [(255, some 14)]
    ∧ readLoadClasses (be 2 1 ++ [0] ++ be 4 4096 ++ [3, 3, 1])
        = some [{ cls := 0, retention := 4096, target := 3, group := 3, enable := true }]
    ∧ (vget ready.tables.classes 0).group.val ≠ 3
    ∧ readLoadDictionary (be 1 3 ++ be 2 1 ++ placeOctets [4, 9]) = some { group := 3, prefixes := [(2, [4, 9])] }
    ∧ readLoadDictionary (be 1 4 ++ be 2 0) = some { group := 4, prefixes := [] } :=
  ⟨fun _ _ => ask_takes _ _, by decide +kernel⟩

/-- 16 and 1,048,576 extents, and each state of the engine and the target. -/
theorem witness_TargetsAreLoadedAndSet :
    (∀ payload, (ask 0x06 payload).Takes 0x06 7 payload [] ∧ (ask 0x07 payload).Takes 0x07 7 payload [])
    ∧ (∀ n ∈ [15, 16, 1048576, 1048577], readLoadTarget (be 1 0 ++ be 4 n ++ be 4 65536 ++ be 1 1 ++ be 4 256 ++ be 4 60)
        = some { target := 0, extents := n, unitSize := 65536, gather := true, ackMs := 256, eraseSecs := 60 })
    ∧ ready.engine = .running ∧ State.reset.engine = .unconfigured ∧ (ready.target 1).state = .absent
    ∧ (ready.target 0).state = .online ∧ (ready.target 0).extents = some 32
    ∧ ((scanning 0 0 []).target 0).state = .scanning
    ∧ readSetTarget [4, 3] = some (4, true) ∧ readSetTarget [0, 5] = some (0, false)
    ∧ ((ready.withTarget 0 { aTarget with state := .offline }).target 0).state = .offline
    ∧ (ready.target 0).waitWrite = false ∧ (ready.target 0).waitRead = none :=
  ⟨fun _ => ⟨ask_takes _ _, ask_takes _ _⟩, by decide +kernel⟩

/-- A configured part with its clock set can start. -/
def startable : State := { ready with engine := .unconfigured }

theorem witness_ArchiveStarts :
    (startable.asked 0x0F []).Takes 0x0F 7 [] [] ∧ (ask 0x0F []).Takes 0x0F 7 [] [] ∧ ready.engine ≠ .unconfigured
    ∧ startable.engine = .unconfigured ∧ startable.clock.mode ≠ .notSet ∧ (startable.target 0).configured = true :=
  ⟨asked_takes _ _ _ (by decide +kernel), ask_takes _ _, by decide +kernel⟩

/-- Payloads of the right length that hold no value of each change, setting and target directive (R131, R133, R140, R114, R173). -/
theorem test_payloads_out_of_range :
    let hold (id first last kind mark release : Nat) : List Byte :=
      be 4 id ++ be 2 first ++ be 2 last ++ be 2 1 ++ be 1 kind ++ be 1 mark ++ be 2 release
    (∀ p ∈ [hold 0 5 6 1 1 0, hold 65536 5 6 1 1 0, hold 1 6 5 1 1 0, hold 1 5 6 3 0 9, hold 1 5 6 2 1 0, hold 1 5 6 2 0 5],
      ∃ t, exec .addHold (ask 0x0C p) = .next t ∧ t.port.replies.map Reply.result = [.refusedRange] ∧ t.hold.holds = [])
    ∧ (∀ p ∈ [be 1 3 ++ be 4 1 ++ [0], be 1 1 ++ be 4 4096 ++ [0]], readSetGuard p = none)
    ∧ (∀ p ∈ [[4, 1], [1, 3], [0, 1]], readSetProtectMode p = none)
    ∧ readSetSweep ([4, 0] ++ be 4 1 ++ be 4 1 ++ be 4 1) = none
    ∧ (∀ p ∈ [[0, 0, 4, 0], [0, 0, 1, 8], [0, 2, 1, 0]], readSetNotices p = none) ∧ readSetTarget [0, 4] = none := by
  refine ⟨fun p hp => ⟨_, rfl, ?_⟩, by decide +kernel⟩
  revert p
  decide +kernel

theorem witness_SettingsAreTaken :
    (∀ code payload, (ask code payload).Takes code 7 payload [])
    ∧ readSetDayPolicy (be 4 2881 ++ be 4 0 ++ be 4 3600) = some { closeDelay := 2881, acceptWindow := 0, laneTimeout := 3600 }
    ∧ readSetSweep ([3, 1] ++ be 4 1441 ++ be 4 65535 ++ be 4 7)
        = some { mode := .cyclic, alternate := true, interval := 1441, batch := 65535, scrubBatch := 7 }
    ∧ readSetNotices [0x81, 1, 2, 7] = some { enables := 0x81, master := true, mode := .promote, promoted := 7 } :=
  ⟨fun _ _ => ask_takes _ _, by decide +kernel⟩

/-! ### Witnesses: directives that operate the part -/

theorem witness_SlotsAreWaived :
    let slots : List Slot := [aSlot, emptySlot, { emptySlot with state := .defective }]
    let r : ContRecord := { aRecord with expected := 3, slots := slots }
    let s : State := (ask 0x11 (be 2 5 ++ be 2 100 ++ optNum 1 none)).tracked [r] [aDay]
    (∀ payload, (ask 0x11 payload).Takes 0x11 7 payload [])
    ∧ readWaive (be 2 512 ++ be 2 100 ++ optNum 1 none) = some { source := 512, day := 100, slot := none }
    ∧ (∀ i ∈ [0, 1, 2, 3], readWaive (be 2 5 ++ be 2 100 ++ optNum 1 (some i))
        = some { source := 5, day := 100, slot := some i })
    ∧ ready.record? 5 100 = none ∧ s.record? 5 100 = some r ∧ r.expected ≤ 3 ∧ r.slots[0]? = some aSlot
    ∧ aSlot.state = .inProgress ∧ s.day? 100 = some aDay ∧ aDay.state = .opened
    ∧ r.slots[1]? = some emptySlot ∧ emptySlot.state ≠ .inProgress :=
  ⟨fun _ => ask_takes _ _, by decide +kernel⟩

/-- WAIVE of ALL in a CLOSED day: the record retires and the day settles. -/
theorem test_waive_settles :
    let r : ContRecord := { aRecord with slots := [emptySlot, emptySlot] }
    let s : State := (ask 0x11 (be 2 5 ++ be 2 100 ++ optNum 1 none)).tracked [r]
      [{ aDay with state := .closed, inProgress := 0 }]
    ∃ t, exec .waive s = .next t ∧ t.tracker.records = [] ∧ t.isSettled 100 = true ∧ t.audit.events.length = 2
      ∧ t.port.replies.map Reply.figures = [be 4 2 ++ be 4 0] := ⟨_, rfl, by decide +kernel⟩

/-- A FLUSH that waits. -/
def aWait : FlushWait := { tag := 1, awaited := [4], count := 1, stored := 0, stranded := 0, discarded := 0 }

theorem witness_FlushSeals :
    let s := (ready.stocked [aSegment 4 .opened none [openRun]] [aBuffer 4])
    (∀ payload, (ask 0x12 payload).Takes 0x12 7 payload [])
    ∧ readFlush (optNum 1 (some 16) ++ optNum 2 none ++ [0]) = some { cls := some 16, day := none, wait := false }
    ∧ readFlush (optNum 1 (some 15) ++ optNum 2 (some 100) ++ [1]) = some { cls := some 15, day := some 100, wait := true }
    ∧ readFlush (optNum 1 none ++ optNum 2 none ++ [1]) = some { cls := none, day := none, wait := true }
    ∧ ready.builder.flush = none ∧ s.dir.map SegEntry.state = [.opened]
    ∧ ({ s with builder := { s.builder with flush := some aWait } } : State).builder.flush ≠ none := ⟨fun _ => ask_takes _ _, by decide +kernel⟩

/-- FLUSH seals an OPEN segment that holds a PROVISIONAL run as HELD. -/
theorem test_flush_holds :
    let s := (ready.stocked [aSegment 4 .opened none [openRun]] [aBuffer 4])
    ∃ t, exec .flush (s.asked 0x12 (optNum 1 none ++ optNum 2 none ++ [0])) = .next t
      ∧ t.dir.map (fun e => (e.state, e.sealReason)) = [(.held, some .flush)] ∧ t.commit.queue.length = 1 :=
  ⟨_, rfl, by decide +kernel⟩

theorem witness_SuspectIsCleared :
    let e : SegEntry := { stored with suspect := true }
    (∀ payload, (ask 0x18 payload).Takes 0x18 7 payload []) ∧ readNumber 4 (be 4 4) = some 4
    ∧ readNumber 4 (be 4 0) = some 0 ∧ ready.entry? 4 = none ∧ (ready.stocked [stored] []).entry? 4 = some stored
    ∧ stored.suspect = false ∧ (ready.stocked [e] []).entry? 4 = some e ∧ e.suspect = true :=
  ⟨fun _ => ask_takes _ _, by decide +kernel⟩

theorem witness_EventsAreRead :
    (∀ payload, (ask 0x1D payload).Takes 0x1D 7 payload [])
    ∧ (∀ n ∈ [0, 1, 16, 17], readNumber 4 (be 4 n) = some n) :=
  ⟨fun _ => ask_takes _ _, by decide +kernel⟩

/-- R186: the octets of an event, by hand: INTEGRITY OPENED by DIGEST, of segment 4 and day 100, run 2, at 1:00:00. -/
theorem test_event_octets :
    AuditEvent.octets { code := .integrity, state := .opened, cause := some .digest, source := none, day := some 100
                        slot := none, segId := some 4, target := none, figure := some 2
                        time := some { day := 101, second := 3600 } }
      = [8, 1, 3, 0x6A, 0, 0, 0, 100, 0, 0, 0, 0, 0, 4, 0, 0, 0, 2, 0, 101, 0, 0, 0x0E, 0x10] := by decide +kernel

/-- A full queue with events lost gives EVENTS_LOST its first free place. -/
theorem test_events_lost :
    let e := ready.event .sequenceJump .point
    let s : State := { ask 0x1D (be 4 1) with audit := { ready.audit with events := List.replicate 64 e, lost := 3 } }
    ∃ t, exec .readEvents s = .next t ∧ t.audit.events.length = 64 ∧ t.audit.lost = 0
      ∧ (t.audit.events.getLast?.map fun x => (x.code, x.figure)) = some (.eventsLost, some 3) :=
  ⟨_, rfl, by decide +kernel⟩

theorem witness_QueriesReport :
    (∀ code payload, (ask code payload).Takes code 7 payload [])
    ∧ readNumber 4 (be 4 4294967295) = some 4294967295 ∧ readNumber 2 (be 2 65535) = some 65535
    ∧ readReadContinuity (be 2 511 ++ be 2 100) = some (511, 100)
    ∧ readReadContinuity (be 2 512 ++ be 2 100) = some (512, 100)
    ∧ readNumber 1 [3] = some 3 ∧ readNumber 1 [4] = some 4 ∧ readReadLink [1] = some true :=
  ⟨fun _ _ => ask_takes _ _, by decide +kernel⟩

/-- READ CLOCK on day 100 at 01:00: RUNNING, day, second, no remainder, not at the last reading. -/
theorem test_read_clock :
    ∃ t, exec .readClock (ask 0x1B []) = .next t ∧ t.port.replies.map Reply.figures
      = [[2, 0, 0, 100, 0, 0, 0, 0x0E, 0x10, 0, 0, 0, 0, 0]] := ⟨_, rfl, by decide +kernel⟩

theorem witness_DecoderRefusals :
    (∀ code payload, (ask code payload).Takes code 7 payload [])
    ∧ ({ ready with port := { ready.port with
        replies := List.replicate 16 { tag := 7, result := .done, clamped := false, figures := [] } } } : State).port.replies.length
        = 16 ∧ ready.port.directives = []
    ∧ (∀ i ∈ [0, 2, 4, 5], 1 < octetAt (List.replicate 7 2) i)
    ∧ (let p : List Byte := be 2 1 ++ List.replicate 8 2
       fieldAt p 0 2 = 1 ∧ ∀ i ∈ [3, 4, 9], 1 < octetAt p i) := ⟨fun _ _ => ask_takes _ _, by decide +kernel⟩

/-! ### Witnesses: invariants and encodings -/

theorem witness_ClockNeverGoesBack :
    let s : State := { clocked .running (some { day := 65535, second := 86398 }) 0 with pending := [.clockSecond] }
    s.clock.sound = true ∧ s.clock.ranged = true ∧ s.pending.head? ≠ some .powerOn
    ∧ ∃ t, step s = .next t ∧ t.clock.reading = some { day := 65535, second := 86399 } := by
  refine ⟨by decide +kernel, by decide +kernel, by decide +kernel, _, rfl, by decide +kernel⟩

theorem witness_AuditQueueIsKept :
    let e := ready.event .sequenceJump .point
    let s : State := { receiving.fed .aborting with
      audit := { ready.audit with events := List.replicate 64 e, lost := 1 }, pending := [.takeFileAbort] }
    s.audit.sound = true ∧ ∃ t, step s = .next t ∧ 1 < t.audit.lost := by
  refine ⟨by decide +kernel, _, rfl, by decide +kernel⟩

theorem witness_CodedRecordsDecode :
    Ctx.reset.ok = true ∧ ctx35.ok = true ∧ dictOk dict35 = true ∧ rec35.ok = true
    ∧ stored.Written storedBuffer [[rec35]] := by
  unfold SegEntry.Written
  decide +kernel

theorem witness_CanonicalRecordsRoundTrip : rec35.ok = true ∧ octets35.length = 49 := by decide +kernel

theorem witness_FramesAndParametersRoundTrip :
    readLoadSources (listOctets [be 2 511 ++ flagOctet true ++ be 4 96 ++ flagOctet false])
      = some [{ source := 511, active := true, filesPerDay := 96, clearTracking := false }]
    ∧ readLoadDictionary (be 1 3 ++ listOctets [placeOctets [4, 9, 8, 9]])
      = some { group := 3, prefixes := [(4, [4, 9, 8, 9])] } := by decide +kernel

/-- R180: the payloads of a NOTICE and a RECORDS frame, octet by octet, behind the 8 octets of the frame header. -/
theorem test_return_frame_octets :
    (((Sending.notice 3 1 none [0xAB]).octets.drop 2).take 17
      = [0, 0, 0, 11, 0, 0, 3, 1, 255, 255, 255, 255, 255, 255, 0, 1, 0xAB])
    ∧ ((Sending.records { tag := 7, number := 2, segId := 4, run := 1, final := true, source := 0x105, slot := 9, records := [] }
        true).octets.drop 2).take 22 = [0, 7, 0, 16, 0, 0, 0, 0, 0, 2, 0, 0, 0, 4, 1, 1, 1, 5, 9, 0, 0, 0] := by decide +kernel

end Sys2Proof.Machine
end

section
/-! Octet strings: what the number, field and nibble functions of the model read from what its writers wrote, and that a
string is the one its numbers and nibbles fix. -/

namespace Sys2Proof.Machine

/-! ### Numbers, most significant octet first -/

@[simp] theorem length_be (w v : Nat) : (be w v).length = w := by
  induction w with
  | zero => rfl
  | succ w ih => simp [be, ih]

/-- `be` from its least significant end, the end at which `beNat` takes an octet. -/
theorem be_succ_concat (w v : Nat) : be (w + 1) v = be w (v / 256) ++ [BitVec.ofNat 8 v] := by
  induction w with
  | zero => simp [be]
  | succ w ih => rw [be, ih, be, Nat.div_div_eq_div_mul, pow_succ', List.cons_append]

theorem beNat_concat (l : List Byte) (b : Byte) : beNat (l ++ [b]) = beNat l * 256 + b.toNat := by
  simp [beNat]

theorem beNat_singleton (b : Byte) : beNat [b] = b.toNat := by simp [beNat]

theorem beNat_lt (l : List Byte) : beNat l < 256 ^ l.length := by
  induction l using List.reverseRecOn with
  | nil => simp [beNat]
  | append_singleton l b ih =>
    have hb := b.isLt
    rw [beNat_concat, List.length_append, List.length_singleton, pow_succ]
    omega

theorem beNat_be {w v : Nat} (h : v < 256 ^ w) : beNat (be w v) = v := by
  induction w generalizing v with
  | zero => simp_all [be, beNat]
  | succ w ih =>
    have hdiv : v / 256 < 256 ^ w := by rw [pow_succ] at h; omega
    rw [be_succ_concat, beNat_concat, ih hdiv, BitVec.toNat_ofNat]
    omega

theorem be_beNat (l : List Byte) : be l.length (beNat l) = l := by
  induction l using List.reverseRecOn with
  | nil => rfl
  | append_singleton l b ih =>
    have hb := b.isLt
    have hdiv : (beNat l * 256 + b.toNat) / 256 = beNat l := by omega
    have hmod : BitVec.ofNat 8 (beNat l * 256 + b.toNat) = b := by
      apply BitVec.eq_of_toNat_eq
      rw [BitVec.toNat_ofNat]
      omega
    rw [List.length_append, List.length_singleton, be_succ_concat, beNat_concat, hdiv, hmod, ih]

/-! ### Slices and fields -/

theorem length_slice {l : List Byte} {off len : Nat} (h : off + len ≤ l.length) : (slice l off len).length = len := by
  simp only [slice, List.length_take, List.length_drop]
  omega

theorem slice_append_slice (l : List Byte) (off m n : Nat) : slice l off m ++ slice l (off + m) n = slice l off (m + n) := by
  simp only [slice, List.take_add, List.drop_drop]

theorem slice_one {l : List Byte} {i : Nat} (h : i < l.length) : slice l i 1 = [l[i]] := by
  rw [slice, List.drop_eq_getElem_cons h, List.take_succ_cons, List.take_zero]

theorem octetAt_eq_toNat {l : List Byte} {i : Nat} (h : i < l.length) : octetAt l i = l[i].toNat := by
  rw [octetAt, fieldAt, slice_one h, beNat_singleton]

theorem fieldAt_lt (l : List Byte) (off len : Nat) : fieldAt l off len < 256 ^ len :=
  (beNat_lt _).trans_le (Nat.pow_le_pow_right (by decide) (List.length_take_le ..))

theorem octetAt_lt (l : List Byte) (i : Nat) : octetAt l i < 256 := fieldAt_lt l i 1

theorem be_fieldAt {l : List Byte} {off len : Nat} (h : off + len ≤ l.length) :
    be len (fieldAt l off len) = slice l off len := by
  simpa only [length_slice h, fieldAt] using be_beNat (slice l off len)

theorem fieldAt_of_slice_eq_be {l : List Byte} {off len v : Nat} (h : slice l off len = be len v) (hv : v < 256 ^ len) :
    fieldAt l off len = v := by
  rw [fieldAt, h, beNat_be hv]

theorem fieldAt_succ {l : List Byte} {off len : Nat} (h : off + len < l.length) :
    fieldAt l off (len + 1) = fieldAt l off len * 256 + octetAt l (off + len) := by
  rw [fieldAt, ← slice_append_slice, slice_one h, beNat_concat, octetAt_eq_toNat h, fieldAt]

/-- A field differs from zero when one of its octets does. -/
theorem fieldAt_ne_zero_iff {l : List Byte} {off len : Nat} (h : off + len ≤ l.length) :
    fieldAt l off len ≠ 0 ↔ ∃ i, off ≤ i ∧ i < off + len ∧ octetAt l i ≠ 0 := by
  induction len with
  | zero =>
    simp only [fieldAt, slice, List.take_zero, beNat, List.foldl_nil, ne_eq, not_true_eq_false, false_iff]
    omega
  | succ len ih =>
    have hsplit : fieldAt l off (len + 1) ≠ 0 ↔ fieldAt l off len ≠ 0 ∨ octetAt l (off + len) ≠ 0 := by
      rw [fieldAt_succ (by omega)]
      omega
    rw [hsplit, ih (by omega)]
    constructor
    · rintro (⟨i, hlo, hhi, hne⟩ | hne)
      · exact ⟨i, hlo, by omega, hne⟩
      · exact ⟨off + len, by omega, by omega, hne⟩
    · rintro ⟨i, hlo, hhi, hne⟩
      obtain hlt | rfl : i < off + len ∨ i = off + len := by omega
      · exact .inl ⟨i, hlo, hlt, hne⟩
      · exact .inr hne

/-! ### A string as a row of fields -/

/-- The consecutive fields of the given widths, the first at `off`. -/
def fieldsFrom (l : List Byte) : Nat → List Nat → List (List Byte)
  | _, [] => []
  | off, w :: ws => slice l off w :: fieldsFrom l (off + w) ws

theorem flatten_fieldsFrom (l : List Byte) (off : Nat) (ws : List Nat) :
    (fieldsFrom l off ws).flatten = slice l off ws.sum := by
  induction ws generalizing off with
  | nil => simp [fieldsFrom, slice]
  | cons w ws ih => rw [fieldsFrom, List.flatten_cons, ih, slice_append_slice, List.sum_cons]

/-- Fields laid end to end behind `front` are found again by their widths. -/
theorem fieldsFrom_append_flatten (front : List Byte) (fs : List (List Byte)) :
    fieldsFrom (front ++ fs.flatten) front.length (fs.map List.length) = fs := by
  induction fs generalizing front with
  | nil => rfl
  | cons f fs ih =>
    have hhead : slice (front ++ (f :: fs).flatten) front.length f.length = f := by simp [slice]
    have htail := ih (front ++ f)
    rw [List.map_cons, fieldsFrom, hhead]
    simpa using htail

/-! ### Digits in BCD (R53, R182) -/

/-- The nibble `i` of the digits that begin at octet `off`, high nibble first. -/
def nibbleAt (l : List Byte) (off i : Nat) : Nat :=
  if i % 2 = 0 then octetAt l (off + i / 2) / 16 else octetAt l (off + i / 2) % 16

theorem nibblePair_toNat {a b : Nat} (ha : a < 16) (hb : b < 16) : (nibblePair a b).toNat = a * 16 + b := by
  rw [nibblePair, BitVec.toNat_ofNat]
  omega

theorem nibblePair_nibbles (b : Byte) : nibblePair (b.toNat / 16) (b.toNat % 16) = b := by
  rw [nibblePair, Nat.div_add_mod', BitVec.ofNat_toNat, BitVec.setWidth_eq]

@[simp] theorem length_nibbles (l : List Byte) : (nibbles l).length = 2 * l.length := by
  induction l with
  | nil => rfl
  | cons b l ih => simp only [nibbles, List.length_cons, ih]; omega

theorem bcd_nibbles (l : List Byte) : bcd (nibbles l) = l := by
  induction l with
  | nil => rfl
  | cons b l ih => rw [nibbles, bcd, ih, nibblePair_nibbles]

theorem nibbles_bcd {d : List Nat} (heven : d.length % 2 = 0) (hd : ∀ x ∈ d, x < 16) : nibbles (bcd d) = d := by
  induction d using bcd.induct with
  | case1 => rfl
  | case2 a => simp at heven
  | case3 a b t ih =>
    obtain ⟨ha, hb, ht⟩ : a < 16 ∧ b < 16 ∧ ∀ x ∈ t, x < 16 := by simpa using hd
    have hrest : nibbles (bcd t) = t := ih (by simp only [List.length_cons] at heven; omega) ht
    have hhigh : (a * 16 + b) / 16 = a := by omega
    have hlow : (a * 16 + b) % 16 = b := by omega
    rw [bcd, nibbles, hrest, nibblePair_toNat ha hb, hhigh, hlow]

theorem nibbles_bcdField {w : Nat} {d : List Nat} (hw : d.length ≤ 2 * w) (hd : ∀ x ∈ d, x < 16) :
    nibbles (bcdField w d) = d ++ List.replicate (2 * w - d.length) 15 := by
  apply nibbles_bcd
  · simp only [List.length_append, List.length_replicate]
    omega
  · intro x hx
    obtain hx | hx := List.mem_append.mp hx
    · exact hd x hx
    · rw [List.eq_of_mem_replicate hx]
      decide

theorem length_bcdField {w : Nat} {d : List Nat} (hw : d.length ≤ 2 * w) (hd : ∀ x ∈ d, x < 16) :
    (bcdField w d).length = w := by
  have hlen := congrArg List.length (nibbles_bcdField hw hd)
  simp only [length_nibbles, List.length_append, List.length_replicate] at hlen
  omega

/-- A field is the BCD of its first `n` nibbles when every nibble behind them is filler. -/
theorem bcdField_take_nibbles {l : List Byte} {n : Nat} (hn : n ≤ 2 * l.length)
    (hfill : ∀ x ∈ (nibbles l).drop n, x = 15) : bcdField l.length ((nibbles l).take n) = l := by
  have hdrop : (nibbles l).drop n = List.replicate (2 * l.length - n) 15 :=
    List.eq_replicate_iff.mpr ⟨by simp, hfill⟩
  have htake : ((nibbles l).take n).length = n := by simpa using hn
  rw [bcdField, htake, ← hdrop, List.take_append_drop, bcd_nibbles]

theorem nibbleAt_add_two (l : List Byte) (off i : Nat) : nibbleAt l off (i + 2) = nibbleAt l (off + 1) i := by
  have hmod : (i + 2) % 2 = i % 2 := by omega
  have hdiv : off + (i + 2) / 2 = off + 1 + i / 2 := by omega
  rw [nibbleAt, nibbleAt, hmod, hdiv]

theorem nibbles_slice {l : List Byte} {off w : Nat} (h : off + w ≤ l.length) :
    nibbles (slice l off w) = (List.range (2 * w)).map (nibbleAt l off) := by
  induction w generalizing off with
  | zero => simp [slice, nibbles]
  | succ w ih =>
    have hfront : slice l off (w + 1) = l[off] :: slice l (off + 1) w := by
      rw [Nat.add_comm, ← slice_append_slice, slice_one (by omega), List.singleton_append]
    have hfirst : nibbleAt l off 0 = l[off].toNat / 16 ∧ nibbleAt l off 1 = l[off].toNat % 16 := by
      simp [nibbleAt, octetAt_eq_toNat (l := l) (i := off) (by omega)]
    rw [hfront, nibbles, ih (by omega), Nat.mul_succ, List.range_succ_eq_map, List.range_succ_eq_map]
    simp [hfirst, nibbleAt_add_two, Function.comp_def]

theorem take_nibbles_slice {l : List Byte} {off w n : Nat} (h : off + w ≤ l.length) (hn : n ≤ 2 * w) :
    (nibbles (slice l off w)).take n = (List.range n).map (nibbleAt l off) := by
  rw [nibbles_slice h, ← List.map_take, List.take_range, Nat.min_eq_left hn]

theorem any_take_nibbles_iff {l : List Byte} {off w n : Nat} (p : Nat → Bool) (h : off + w ≤ l.length) (hn : n ≤ 2 * w) :
    ((nibbles (slice l off w)).take n).any p = true ↔ ∃ i, i < n ∧ p (nibbleAt l off i) = true := by
  simp [take_nibbles_slice h hn]

theorem any_drop_nibbles_iff {l : List Byte} {off w n : Nat} (p : Nat → Bool) (h : off + w ≤ l.length) :
    ((nibbles (slice l off w)).drop n).any p = true ↔ ∃ i, n ≤ i ∧ i < 2 * w ∧ p (nibbleAt l off i) = true := by
  have hdrop : (List.range (2 * w)).drop n = List.range' n (2 * w - n) := by
    rw [List.range_eq_range', List.drop_range', Nat.zero_add, Nat.mul_one]
  have hmem (i : Nat) : i ∈ List.range' n (2 * w - n) ↔ n ≤ i ∧ i < 2 * w := by
    rw [List.mem_range'_1]
    omega
  simp [nibbles_slice h, ← List.map_drop, hdrop, hmem, and_assoc]

end Sys2Proof.Machine
end

section
/-! The canonical record: the tests of R1 as one chain, the layout of R182, and the round trip both ways. -/

namespace Sys2Proof.Machine

/-! ### The ranges of 1.1 -/

theorem digitsOk_iff {n : Nat} {d : List Nat} : digitsOk n d = true ↔ d.length ≤ n ∧ ∀ x ∈ d, x ≤ 9 := by
  simp [digitsOk]

/-- The ranges of the table of 1.1, one by one; an absent field is held as zero. -/
structure CallRecord.InRange (c : CallRecord) : Prop where
  typeCode : c.typeCode < 256
  seq : c.seq < 2 ^ 32
  start : -86400 ≤ c.start ∧ c.start ≤ 86399
  duration : c.duration < 2 ^ 24
  cause : c.cause < 256
  calling : digitsOk 20 c.calling = true
  called : digitsOk 24 c.called = true
  route : ∀ v ∈ c.route, v < 2 ^ 16
  volume : ∀ v ∈ c.volume, v < 2 ^ 40
  charge : ∀ v ∈ c.charge, v < 2 ^ 32

theorem CallRecord.ok_iff (c : CallRecord) : c.ok = true ↔ c.InRange := by
  have hall (o : Option Nat) (n : Nat) : o.all (· < n) = true ↔ ∀ v ∈ o, v < n := by cases o <;> simp
  simp only [CallRecord.ok, Bool.and_eq_true, decide_eq_true_eq, hall]
  constructor
  · rintro ⟨⟨⟨⟨⟨⟨⟨⟨⟨ht, hs⟩, hst⟩, hd⟩, hc⟩, hcg⟩, hcd⟩, hr⟩, hv⟩, hch⟩
    exact ⟨ht, hs, hst, hd, hc, hcg, hcd, hr, hv, hch⟩
  · rintro ⟨ht, hs, hst, hd, hc, hcg, hcd, hr, hv, hch⟩
    exact ⟨⟨⟨⟨⟨⟨⟨⟨⟨ht, hs⟩, hst⟩, hd⟩, hc⟩, hcg⟩, hcd⟩, hr⟩, hv⟩, hch⟩

theorem getD_zero_lt {o : Option Nat} {n : Nat} (hn : 0 < n) (h : ∀ v ∈ o, v < n) : o.getD 0 < n := by
  cases o with
  | none => exact hn
  | some v => exact h v rfl

/-! ### The signed start and the presence octet -/

theorem signed32_emod {s : Int} (hlo : -2 ^ 31 ≤ s) (hhi : s < 2 ^ 31) : signed32 (s % 2 ^ 32).toNat = s := by
  unfold signed32
  split <;> omega

theorem signed32_emod_toNat {v : Nat} (h : v < 2 ^ 32) : (signed32 v % 2 ^ 32).toNat = v := by
  unfold signed32
  split <;> omega

theorem presenceOctet_lt (c : CallRecord) : presenceOctet c < 8 := by
  have hr := c.route.isSome.toNat_le
  have hv := c.volume.isSome.toNat_le
  have hc := c.charge.isSome.toNat_le
  unfold presenceOctet
  omega

theorem testBit_presenceOctet (c : CallRecord) :
    (presenceOctet c).testBit 0 = c.route.isSome ∧ (presenceOctet c).testBit 1 = c.volume.isSome
    ∧ (presenceOctet c).testBit 2 = c.charge.isSome := by
  have hbits : ∀ route volume charge : Bool,
      let p := route.toNat + 2 * volume.toNat + 4 * charge.toNat
      p.testBit 0 = route ∧ p.testBit 1 = volume ∧ p.testBit 2 = charge := by decide
  exact hbits _ _ _

/-- With the reserved bits clear the presence octet is its three flags. -/
theorem presence_eq_flags {p : Nat} (h : p < 8) :
    (p.testBit 0).toNat + 2 * (p.testBit 1).toNat + 4 * (p.testBit 2).toNat = p := by
  revert p
  decide

theorem isSome_optField (present : Bool) (v : Nat) : (optField present v).isSome = present := by
  cases present <;> rfl

theorem optField_isSome_getD (o : Option Nat) : optField o.isSome (o.getD 0) = o := by
  cases o <;> rfl

theorem getD_optField {present : Bool} {v : Nat} (h : present = false → v = 0) : (optField present v).getD 0 = v := by
  cases present with
  | false => exact (h rfl).symm
  | true => rfl

theorem optField_lt {present : Bool} {v n : Nat} (hv : v < n) : ∀ x ∈ optField present v, x < n := by
  cases present with
  | false => simp [optField]
  | true => simpa [optField] using hv

/-! ### The layout of R182 -/

/-- The widths of the fields of R182, in order. -/
def recordWidths : List Nat := [1, 1, 4, 4, 3, 1, 1, 10, 1, 12, 2, 5, 4]

/-- The fields of R182 as the octets a record's values fix, in order. -/
def recordFields (c : CallRecord) : List (List Byte) :=
  [be 1 c.typeCode, be 1 (presenceOctet c), be 4 c.seq, be 4 (c.start % 2 ^ 32).toNat, be 3 c.duration, be 1 c.cause,
    be 1 c.calling.length, bcdField 10 c.calling, be 1 c.called.length, bcdField 12 c.called, be 2 (c.route.getD 0),
    be 5 (c.volume.getD 0), be 4 (c.charge.getD 0)]

theorem canonical_eq_flatten (c : CallRecord) : canonical c = (recordFields c).flatten := by
  simp [canonical, recordFields]

/-- The 13 fields at their offsets. -/
theorem fieldsFrom_recordWidths (r : List Byte) :
    fieldsFrom r 0 recordWidths =
      [slice r 0 1, slice r 1 1, slice r 2 4, slice r 6 4, slice r 10 3, slice r 13 1, slice r 14 1, slice r 15 10,
        slice r 25 1, slice r 26 12, slice r 38 2, slice r 40 5, slice r 45 4] := rfl

section
variable {c : CallRecord} (h : c.InRange)
include h

theorem CallRecord.InRange.calling_nibbles : c.calling.length ≤ 20 ∧ ∀ x ∈ c.calling, x < 16 := by
  obtain ⟨hlen, hle⟩ := digitsOk_iff.mp h.calling
  exact ⟨hlen, fun x hx => (hle x hx).trans_lt (by decide)⟩

theorem CallRecord.InRange.called_nibbles : c.called.length ≤ 24 ∧ ∀ x ∈ c.called, x < 16 := by
  obtain ⟨hlen, hle⟩ := digitsOk_iff.mp h.called
  exact ⟨hlen, fun x hx => (hle x hx).trans_lt (by decide)⟩

theorem map_length_recordFields : (recordFields c).map List.length = recordWidths := by
  obtain ⟨hcalling, hcallingNibbles⟩ := h.calling_nibbles
  obtain ⟨hcalled, hcalledNibbles⟩ := h.called_nibbles
  simp [recordFields, recordWidths, length_bcdField (w := 10) hcalling hcallingNibbles,
    length_bcdField (w := 12) hcalled hcalledNibbles]

theorem length_canonical : (canonical c).length = 49 := by
  rw [canonical_eq_flatten, List.length_flatten, map_length_recordFields h]
  rfl

theorem fieldsFrom_canonical : fieldsFrom (canonical c) 0 recordWidths = recordFields c := by
  simpa [canonical_eq_flatten, map_length_recordFields h] using fieldsFrom_append_flatten [] (recordFields c)

end

/-! ### A record's values read back -/

/-- The octets `r` hold the values of `c` where R182 places them. -/
structure CallRecord.LaidOut (c : CallRecord) (r : List Byte) : Prop where
  typeCode : octetAt r 0 = c.typeCode
  presence : recPresence r = presenceOctet c
  seq : fieldAt r 2 4 = c.seq
  start : recStart r = c.start
  duration : fieldAt r 10 3 = c.duration
  cause : octetAt r 13 = c.cause
  callingCount : recCallingCount r = c.calling.length
  callingNibbles : recCallingNibbles r = c.calling ++ List.replicate (20 - c.calling.length) 15
  calledCount : recCalledCount r = c.called.length
  calledNibbles : recCalledNibbles r = c.called ++ List.replicate (24 - c.called.length) 15
  route : fieldAt r 38 2 = c.route.getD 0
  volume : fieldAt r 40 5 = c.volume.getD 0
  charge : fieldAt r 45 4 = c.charge.getD 0

theorem canonical_laidOut {c : CallRecord} (h : c.InRange) : c.LaidOut (canonical c) := by
  have hfields := fieldsFrom_canonical h
  simp only [fieldsFrom_recordWidths, recordFields, List.cons.injEq, and_true] at hfields
  obtain ⟨htype, hpresence, hseq, hstart, hduration, hcause, hcallingCount, hcalling, hcalledCount, hcalled, hroute,
    hvolume, hcharge⟩ := hfields
  obtain ⟨hcallingLen, hcallingLt⟩ := h.calling_nibbles
  obtain ⟨hcalledLen, hcalledLt⟩ := h.called_nibbles
  obtain ⟨hstartLo, hstartHi⟩ := h.start
  constructor
  case typeCode => exact fieldAt_of_slice_eq_be htype h.typeCode
  case presence => exact fieldAt_of_slice_eq_be hpresence ((presenceOctet_lt c).trans (by decide))
  case seq => exact fieldAt_of_slice_eq_be hseq h.seq
  case start => rw [recStart, fieldAt_of_slice_eq_be hstart (by omega), signed32_emod (by omega) (by omega)]
  case duration => exact fieldAt_of_slice_eq_be hduration h.duration
  case cause => exact fieldAt_of_slice_eq_be hcause h.cause
  case callingCount => exact fieldAt_of_slice_eq_be hcallingCount (by omega)
  case callingNibbles => rw [recCallingNibbles, hcalling, nibbles_bcdField hcallingLen hcallingLt]
  case calledCount => exact fieldAt_of_slice_eq_be hcalledCount (by omega)
  case calledNibbles => rw [recCalledNibbles, hcalled, nibbles_bcdField hcalledLen hcalledLt]
  case route => exact fieldAt_of_slice_eq_be hroute (getD_zero_lt (by decide) h.route)
  case volume => exact fieldAt_of_slice_eq_be hvolume (getD_zero_lt (by decide) h.volume)
  case charge => exact fieldAt_of_slice_eq_be hcharge (getD_zero_lt (by decide) h.charge)

section
variable {c : CallRecord} {r : List Byte} (h : c.LaidOut r)
include h

theorem CallRecord.LaidOut.recPresent_eq :
    recPresent r 0 = c.route.isSome ∧ recPresent r 1 = c.volume.isSome
    ∧ recPresent r 2 = c.charge.isSome := by
  simpa only [recPresent, h.presence] using testBit_presenceOctet c

theorem CallRecord.LaidOut.readRecord_eq : readRecord r = c := by
  obtain ⟨hroute, hvolume, hcharge⟩ := h.recPresent_eq
  simp [readRecord, h.typeCode, h.seq, h.start, h.duration, h.cause, h.callingCount, h.callingNibbles, h.calledCount,
    h.calledNibbles, hroute, hvolume, hcharge, h.route, h.volume, h.charge, optField_isSome_getD]

theorem CallRecord.LaidOut.validate_eq_none (hc : c.InRange) : validate r = none := by
  obtain ⟨hroute, hvolume, hcharge⟩ := h.recPresent_eq
  obtain ⟨hcallingLen, hcallingLe⟩ := digitsOk_iff.mp hc.calling
  obtain ⟨hcalledLen, hcalledLe⟩ := digitsOk_iff.mp hc.called
  have hpresence : ¬ 8 ≤ recPresence r := by
    rw [h.presence]
    exact (presenceOctet_lt c).not_ge
  have hstart : ¬ (recStart r < -86400 ∨ 86399 < recStart r) := by
    rw [h.start]
    exact not_or.mpr ⟨hc.start.1.not_gt, hc.start.2.not_gt⟩
  have hfill (n : Nat) : ((List.replicate n 15).any fun x => decide (x ≠ 15)) = false := by simp
  have habsent (o : Option Nat) : (!o.isSome && decide (o.getD 0 ≠ 0)) = false := by cases o <;> rfl
  rw [validate, if_neg hpresence, if_neg hstart, if_neg, if_neg]
  · simp only [h.callingCount, h.callingNibbles, h.calledCount, h.calledNibbles, List.drop_left, hfill, hroute, hvolume,
      hcharge, h.route, h.volume, h.charge, habsent]
    simp
  · simp only [h.callingCount, h.callingNibbles, h.calledCount, h.calledNibbles, List.take_left]
    simpa using ⟨hcallingLen, hcalledLen, hcallingLe, hcalledLe⟩

end

/-! ### The tests of R1 -/

/-- A digit count above the field's places, or a digit above 9 (R1, DIGITS). -/
def DigitsFail (r : List Byte) : Prop :=
  20 < octetAt r 14 ∨ 24 < octetAt r 25
    ∨ (∃ i, i < octetAt r 14 ∧ 9 < nibbleAt r 15 i) ∨ ∃ i, i < octetAt r 25 ∧ 9 < nibbleAt r 26 i

/-- A filler nibble other than 15, or an absent field with an octet other than zero (R1, PAD). -/
def PadFail (r : List Byte) : Prop :=
  (∃ i, octetAt r 14 ≤ i ∧ i < 20 ∧ nibbleAt r 15 i ≠ 15)
    ∨ (∃ i, octetAt r 25 ≤ i ∧ i < 24 ∧ nibbleAt r 26 i ≠ 15)
    ∨ (¬ (octetAt r 1).testBit 0 = true ∧ ∃ i, 38 ≤ i ∧ i < 40 ∧ octetAt r i ≠ 0)
    ∨ (¬ (octetAt r 1).testBit 1 = true ∧ ∃ i, 40 ≤ i ∧ i < 45 ∧ octetAt r i ≠ 0)
    ∨ (¬ (octetAt r 1).testBit 2 = true ∧ ∃ i, 45 ≤ i ∧ i < 49 ∧ octetAt r i ≠ 0)

section
variable {r : List Byte} (hr : r.length = 49)
include hr

theorem digitsTest_iff :
    (20 < recCallingCount r ∨ 24 < recCalledCount r
      ∨ ((recCallingNibbles r).take (recCallingCount r)).any (9 < ·) = true
      ∨ ((recCalledNibbles r).take (recCalledCount r)).any (9 < ·) = true) ↔ DigitsFail r := by
  by_cases hcalling : 20 < octetAt r 14
  · exact iff_of_true (.inl hcalling) (.inl hcalling)
  by_cases hcalled : 24 < octetAt r 25
  · exact iff_of_true (.inr (.inl hcalled)) (.inr (.inl hcalled))
  unfold DigitsFail recCallingNibbles recCalledNibbles recCallingCount recCalledCount
  rw [any_take_nibbles_iff _ (by omega) (by omega), any_take_nibbles_iff _ (by omega) (by omega)]
  simp only [decide_eq_true_eq]

theorem absentTest_iff {off len : Nat} (i : Nat) (h : off + len ≤ 49) :
    (!recPresent r i && decide (fieldAt r off len ≠ 0)) = true
      ↔ ¬ (octetAt r 1).testBit i = true ∧ ∃ j, off ≤ j ∧ j < off + len ∧ octetAt r j ≠ 0 := by
  rw [← fieldAt_ne_zero_iff (hr ▸ h)]
  simp [recPresent, recPresence]

theorem padTest_iff :
    (((recCallingNibbles r).drop (recCallingCount r)).any (· ≠ 15) = true
      ∨ ((recCalledNibbles r).drop (recCalledCount r)).any (· ≠ 15) = true
      ∨ (!recPresent r 0 && decide (fieldAt r 38 2 ≠ 0)) = true ∨ (!recPresent r 1 && decide (fieldAt r 40 5 ≠ 0)) = true
      ∨ (!recPresent r 2 && decide (fieldAt r 45 4 ≠ 0)) = true) ↔ PadFail r := by
  rw [absentTest_iff hr 0 (by decide), absentTest_iff hr 1 (by decide), absentTest_iff hr 2 (by decide)]
  unfold PadFail recCallingNibbles recCalledNibbles recCallingCount recCalledCount
  rw [any_drop_nibbles_iff _ (by omega), any_drop_nibbles_iff _ (by omega)]
  simp only [decide_eq_true_eq]

/-- The tests run in the order of R1, and the first that fails is the finding. -/
theorem validate_findings :
    (validate r = some .presence ↔ 8 ≤ recPresence r)
    ∧ (validate r = some .startRange ↔ ¬ 8 ≤ recPresence r ∧ (recStart r < -86400 ∨ 86399 < recStart r))
    ∧ (validate r = some .digits ↔
      ¬ 8 ≤ recPresence r ∧ ¬ (recStart r < -86400 ∨ 86399 < recStart r) ∧ DigitsFail r)
    ∧ (validate r = some .pad ↔
      ¬ 8 ≤ recPresence r ∧ ¬ (recStart r < -86400 ∨ 86399 < recStart r) ∧ ¬ DigitsFail r ∧ PadFail r)
    ∧ (validate r = none ↔
      ¬ 8 ≤ recPresence r ∧ ¬ (recStart r < -86400 ∨ 86399 < recStart r) ∧ ¬ DigitsFail r ∧ ¬ PadFail r) := by
  unfold validate
  split_ifs with hpresence hrange hdigits hpad
  · simp [hpresence]
  · simp [hpresence, hrange]
  · rw [digitsTest_iff hr] at hdigits
    simp [hpresence, hrange, hdigits]
  · rw [digitsTest_iff hr] at hdigits
    rw [padTest_iff hr] at hpad
    simp [hpresence, hrange, hdigits, hpad]
  · rw [digitsTest_iff hr] at hdigits
    rw [padTest_iff hr] at hpad
    simp [hpresence, hrange, hdigits, hpad]

theorem validate_eq_none_iff :
    validate r = none ↔
      ¬ 8 ≤ recPresence r ∧ ¬ (recStart r < -86400 ∨ 86399 < recStart r) ∧ ¬ DigitsFail r ∧ ¬ PadFail r := by
  obtain ⟨-, -, -, -, hnone⟩ := validate_findings hr
  exact hnone

/-! ### A valid record is the one its fields fix -/

theorem readRecord_calling (hn : octetAt r 14 ≤ 20) :
    (readRecord r).calling = (List.range (octetAt r 14)).map (nibbleAt r 15) :=
  take_nibbles_slice (by omega) hn

theorem readRecord_called (hn : octetAt r 25 ≤ 24) :
    (readRecord r).called = (List.range (octetAt r 25)).map (nibbleAt r 26) :=
  take_nibbles_slice (by omega) hn

theorem readRecord_inRange (hv : validate r = none) : (readRecord r).InRange := by
  obtain ⟨-, hrange, hdigits, -⟩ := (validate_eq_none_iff hr).mp hv
  simp only [DigitsFail, not_or, not_lt, not_exists, not_and] at hrange hdigits
  obtain ⟨hcallingLen, hcalledLen, hcalling, hcalled⟩ := hdigits
  have hdigitsOk {off n k : Nat} (hk : n ≤ k) (hle : ∀ i, i < n → nibbleAt r off i ≤ 9) :
      digitsOk k ((List.range n).map (nibbleAt r off)) = true := by
    rw [digitsOk_iff]
    simpa using ⟨hk, hle⟩
  constructor
  case typeCode => exact octetAt_lt r 0
  case seq => exact fieldAt_lt r 2 4
  case start => exact hrange
  case duration => exact fieldAt_lt r 10 3
  case cause => exact octetAt_lt r 13
  case calling => exact readRecord_calling hr hcallingLen ▸ hdigitsOk hcallingLen hcalling
  case called => exact readRecord_called hr hcalledLen ▸ hdigitsOk hcalledLen hcalled
  case route => exact optField_lt (fieldAt_lt r 38 2)
  case volume => exact optField_lt (fieldAt_lt r 40 5)
  case charge => exact optField_lt (fieldAt_lt r 45 4)

theorem presenceOctet_readRecord (hv : validate r = none) : presenceOctet (readRecord r) = recPresence r := by
  obtain ⟨hpresence, -⟩ := (validate_eq_none_iff hr).mp hv
  rw [← presence_eq_flags (not_le.mp hpresence)]
  simp only [presenceOctet, readRecord, isSome_optField, recPresent]

/-- A digit field whose count is in range and whose filler passes PAD is fixed by its digits. -/
theorem bcdField_readDigits {off w n : Nat} (hoff : off + w ≤ 49) (hn : n ≤ 2 * w)
    (hfill : ¬ ((nibbles (slice r off w)).drop n).any (· ≠ 15) = true) :
    be 1 ((nibbles (slice r off w)).take n).length = be 1 n
    ∧ bcdField w ((nibbles (slice r off w)).take n) = slice r off w := by
  have hlen : (slice r off w).length = w := length_slice (hr ▸ hoff)
  constructor
  · rw [List.length_take, length_nibbles, hlen, Nat.min_eq_left hn]
  · simpa only [hlen] using bcdField_take_nibbles (l := slice r off w) (by omega) (by simpa using hfill)

/-- A field behind a presence flag is zero when the flag is clear and PAD passes. -/
theorem be_getD_optField {off len i : Nat} (hpad : ¬ (!recPresent r i && decide (fieldAt r off len ≠ 0)) = true)
    (h : off + len ≤ 49) : be len ((optField (recPresent r i) (fieldAt r off len)).getD 0) = slice r off len := by
  rw [getD_optField (by simpa using hpad), be_fieldAt (hr ▸ h)]

/-- The fields a valid record's values fix are its own octets, field by field. -/
theorem recordFields_readRecord (hv : validate r = none) : recordFields (readRecord r) = fieldsFrom r 0 recordWidths := by
  obtain ⟨-, -, hdigits, hpad⟩ := (validate_eq_none_iff hr).mp hv
  rw [← digitsTest_iff hr] at hdigits
  rw [← padTest_iff hr] at hpad
  simp only [not_or, not_lt] at hdigits hpad
  obtain ⟨hcallingLen, hcalledLen, -, -⟩ := hdigits
  obtain ⟨hcallingFill, hcalledFill, hroute, hvolume, hcharge⟩ := hpad
  have hfield {off len : Nat} (h : off + len ≤ 49) : be len (fieldAt r off len) = slice r off len := be_fieldAt (hr ▸ h)
  obtain ⟨hcallingCount, hcalling⟩ := bcdField_readDigits hr (by decide) hcallingLen hcallingFill
  obtain ⟨hcalledCount, hcalled⟩ := bcdField_readDigits hr (by decide) hcalledLen hcalledFill
  have hstart : be 4 ((readRecord r).start % 2 ^ 32).toNat = slice r 6 4 := by
    rw [← hfield (by decide), ← signed32_emod_toNat (fieldAt_lt r 6 4)]
    rfl
  rw [fieldsFrom_recordWidths, recordFields, presenceOctet_readRecord hr hv]
  simp only [List.cons.injEq, and_true]
  exact ⟨hfield (by decide), hfield (by decide), hfield (by decide), hstart, hfield (by decide), hfield (by decide),
    hcallingCount.trans (hfield (by decide)), hcalling, hcalledCount.trans (hfield (by decide)), hcalled,
    be_getD_optField hr hroute (by decide), be_getD_optField hr hvolume (by decide),
    be_getD_optField hr hcharge (by decide)⟩

theorem canonical_readRecord (hv : validate r = none) : canonical (readRecord r) = r := by
  rw [canonical_eq_flatten, recordFields_readRecord hr hv, flatten_fieldsFrom]
  simp [slice, recordWidths, ← hr]

end

/-! ### The obligation -/

/-- Settles O59: the round trip of a record's values, the tests in their order, and the round trip of the octets. -/
theorem canonicalRecordsRoundTrip : Obligations.CanonicalRecordsRoundTrip := by
  constructor
  · intro c hc
    have hrange := c.ok_iff.mp hc
    have hlaid := canonical_laidOut hrange
    have hreserved : octetAt (canonical c) 1 < 8 := hlaid.presence.trans_lt (presenceOctet_lt c)
    exact ⟨length_canonical hrange, hreserved, hlaid.validate_eq_none hrange, hlaid.readRecord_eq⟩
  · intro r hr start digit present presence range digits pad
    obtain ⟨hpresence, hstart, hdigits, hpad, hnone⟩ := validate_findings hr
    have hback (hv : validate r = none) : (readRecord r).ok = true ∧ canonical (readRecord r) = r :=
      ⟨(CallRecord.ok_iff _).mpr (readRecord_inRange hr hv), canonical_readRecord hr hv⟩
    exact ⟨hpresence, hstart, hdigits, hpad, hnone, hback, rfl, rfl, rfl, rfl, rfl, readRecord_calling hr,
      readRecord_called hr, rfl, rfl, rfl⟩

end Sys2Proof.Machine
end

section
/-! READ EVENTS (R144) and the 24 octets of an event (R186). -/

namespace Sys2Proof.Machine

/-! ### Taking the oldest events -/

/-- The two outcomes of R144 steps 1 and 2 as one state: the queue behind its first `n` events, with the EVENTS_LOST event
at its tail when it is due. -/
theorem Audit.takeEvents_eq (n : Nat) (e : AuditEvent) (a : Audit) :
    a.takeEvents n e =
      let lost : Bool := decide (a.events ≠ [] ∧ 0 < a.lost)
      { a with events := a.events.drop n ++ (if lost then [e] else []), lost := if lost then 0 else a.lost } := by
  unfold Audit.takeEvents
  split_ifs with h <;> simp [h]

theorem State.takeEvents_eq (s : State) (tag : Tag) (n : Nat) :
    s.takeEvents tag n =
      let a := s.audit.takeEvents n s.eventsLost
      ({ s with audit := a } : State).replied tag .done false
        (be 1 (s.audit.events.take n).length ++ be 1 a.events.length
          ++ (s.audit.events.take n).flatMap AuditEvent.octets) := rfl

/-- Taking the head of the Directive Queue and finishing it leaves it taken, and nothing else. -/
theorem State.takeDirective_takeEvents {s : State} {code tag payload rest} (h : s.Takes code tag payload rest) (n : Nat) :
    ((s.takeDirective { code := code, tag := tag, payload := payload }).takeEvents tag n).setCurrent none
      = (s.took rest).takeEvents tag n := by
  obtain ⟨hcurrent, -, hqueue⟩ := h
  simp [State.takeEvents_eq, State.takeDirective, State.took, State.replied, State.onPort, State.setCurrent,
    State.eventsLost, State.event, hqueue, ← hcurrent]

theorem exec_readEvents_of_takes {s : State} {tag payload rest n} (h : s.Takes 0x1D tag payload rest)
    (hn : readNumber 4 payload = some n) :
    exec .readEvents s =
      .next (if n < 1 ∨ 16 < n then s.turnedDown rest tag .refusedRange else (s.took rest).takeEvents tag n) := by
  have hexec : exec .readEvents s = .next (readEvents s) := rfl
  rw [hexec, readEvents, State.directive_of_takes h hn]
  split_ifs
  · rw [State.take_refuse h]
  · rw [State.takeDirective_takeEvents h]

/-! ### The layout of R186 -/

theorem length_timeOctets (t : Option Time) : (timeOctets t).length = 6 := by
  cases t <;> simp [timeOctets]

/-- The widths of the fields of R186, in order. -/
def eventWidths : List Nat := [1, 1, 1, 1, 2, 2, 1, 1, 4, 4, 6]

/-- The fields of R186 as the octets an event's values fix, in order. -/
def AuditEvent.fields (e : AuditEvent) : List (List Byte) :=
  [be 1 e.code.number, be 1 e.state.number, be 1 ((e.cause.map (causeNumber e.code)).getD 0), e.presence,
    be 2 (e.source.getD 0), be 2 (e.day.getD 0), be 1 (e.slot.getD 0), be 1 (e.target.getD 0), be 4 (e.segId.getD 0),
    be 4 (e.figure.getD 0), timeOctets e.time]

theorem AuditEvent.octets_eq_flatten (e : AuditEvent) : e.octets = e.fields.flatten := by
  simp [AuditEvent.octets, AuditEvent.fields]

theorem AuditEvent.map_length_fields (e : AuditEvent) : e.fields.map List.length = eventWidths := by
  simp [AuditEvent.fields, eventWidths, AuditEvent.presence, length_timeOctets]

theorem AuditEvent.length_octets (e : AuditEvent) : e.octets.length = 24 := by
  rw [e.octets_eq_flatten, List.length_flatten, e.map_length_fields]
  rfl

theorem AuditEvent.fieldsFrom_octets (e : AuditEvent) : fieldsFrom e.octets 0 eventWidths = e.fields := by
  simpa [e.octets_eq_flatten, e.map_length_fields] using fieldsFrom_append_flatten [] e.fields

/-- The 11 fields at their offsets. -/
theorem fieldsFrom_eventWidths (o : List Byte) :
    fieldsFrom o 0 eventWidths =
      [slice o 0 1, slice o 1 1, slice o 2 1, slice o 3 1, slice o 4 2, slice o 6 2, slice o 8 1, slice o 9 1,
        slice o 10 4, slice o 14 4, slice o 18 6] := rfl

/-! ### The numbers of an event -/

theorem EventCode.number_lt (c : EventCode) : c.number < 256 := by cases c <;> decide

theorem EventState.number_lt (x : EventState) : x.number < 256 := by cases x <;> decide

theorem RefuseCause.number_lt (c : RefuseCause) : c.number < 256 := by cases c <;> decide

theorem AbortCause.number_lt (c : AbortCause) : c.number < 256 := by cases c <;> decide

theorem causeNumber_lt (code : EventCode) (c : Cause) : causeNumber code c < 256 := by
  cases c with
  | refuse c => exact c.number_lt
  | abort c => exact c.number_lt
  | waived | digest => simp only [causeNumber]; split <;> decide
  | _ => simp [causeNumber]

/-- The causes of R142 for each code and state that carries one, the refusals and aborts in the order of R8 and R17. -/
def causeTable : List (EventCode × EventState × List Cause) :=
  [(.gap, .closed, [.late, .waived]), (.defect, .opened, [.rejected, .count]), (.defect, .closed, [.waived]),
    (.conflict, .point, [.digest, .noDigest]),
    (.fileRefused, .point, [.refuse .notReady, .refuse .unknownSource, .refuse .slotRange, .refuse .future,
      .refuse .stale, .refuse .dayTableFull, .refuse .continuityFull]),
    (.fileAborted, .point, [.abort .superseded, .abort .aborted, .abort .stalled, .abort .corrupt, .abort .format,
      .abort .overrun, .abort .reset]),
    (.integrity, .opened, [.header, .run, .digest, .malformed]), (.integrity, .closed, [.reverified, .cleared]),
    (.eraseFailed, .point, [.error, .timeout])]

/-- A cause's number is its place among the causes of its code and state. -/
theorem causeNumber_eq_idxOf :
    ∀ row ∈ causeTable, ∀ c ∈ row.2.2, causeNumber row.1 c = row.2.2.idxOf c + 1 := by decide

/-- The number the presence octet holds. -/
def AuditEvent.presenceNumber (e : AuditEvent) : Nat :=
  e.source.isSome.toNat + 2 * e.day.isSome.toNat + 4 * e.slot.isSome.toNat + 8 * e.segId.isSome.toNat
    + 16 * e.target.isSome.toNat + 32 * e.figure.isSome.toNat + 64 * e.time.isSome.toNat

theorem AuditEvent.presence_eq (e : AuditEvent) : e.presence = be 1 e.presenceNumber := rfl

theorem AuditEvent.presenceNumber_lt (e : AuditEvent) : e.presenceNumber < 128 := by
  have hsource := e.source.isSome.toNat_le
  have hday := e.day.isSome.toNat_le
  have hslot := e.slot.isSome.toNat_le
  have hsegId := e.segId.isSome.toNat_le
  have htarget := e.target.isSome.toNat_le
  have hfigure := e.figure.isSome.toNat_le
  have htime := e.time.isSome.toNat_le
  unfold AuditEvent.presenceNumber
  omega

theorem AuditEvent.testBit_presenceNumber (e : AuditEvent) :
    ∀ i present, (i, present) ∈ [(0, e.source.isSome), (1, e.day.isSome), (2, e.slot.isSome), (3, e.segId.isSome),
      (4, e.target.isSome), (5, e.figure.isSome), (6, e.time.isSome)] → e.presenceNumber.testBit i = present := by
  have hbits : ∀ b0 b1 b2 b3 b4 b5 b6 : Bool, ∀ p ∈ [(0, b0), (1, b1), (2, b2), (3, b3), (4, b4), (5, b5), (6, b6)],
      (b0.toNat + 2 * b1.toNat + 4 * b2.toNat + 8 * b3.toNat + 16 * b4.toNat + 32 * b5.toNat + 64 * b6.toNat).testBit p.1
        = p.2 := by decide
  exact fun i present hmem => hbits _ _ _ _ _ _ _ (i, present) hmem

/-! ### The values read back -/

theorem getD_zero_lt_of_all {o : Option Nat} {n : Nat} (hn : 0 < n) (h : o.all (· < n) = true) : o.getD 0 < n := by
  cases o with
  | none => exact hn
  | some v => simpa using h

/-- An archive time is its day and its second, one behind the other. -/
theorem fieldAt_of_slice_eq_timeOctets {l : List Byte} {off : Nat} {t : Time} (h : slice l off 6 = timeOctets (some t))
    (hday : t.day < 2 ^ 16) (hsecond : t.second < 2 ^ 32) : fieldAt l off 2 = t.day ∧ fieldAt l (off + 2) 4 = t.second := by
  have hlen : off + 6 ≤ l.length := by
    have := congrArg List.length h
    rw [length_timeOctets, slice, List.length_take, List.length_drop] at this
    omega
  rw [← slice_append_slice l off 2 4] at h
  obtain ⟨hdaySlice, hsecondSlice⟩ := List.append_inj h (by rw [length_slice (by omega), length_be])
  exact ⟨fieldAt_of_slice_eq_be hdaySlice hday, fieldAt_of_slice_eq_be hsecondSlice hsecond⟩

/-! ### The obligation -/

/-- Settles O52: the two outcomes of the directive, and the octets of an event read back field by field. -/
theorem eventsAreRead : Obligations.EventsAreRead := by
  constructor
  · intro s tag payload rest n htakes hread
    rw [exec_readEvents_of_takes htakes hread]
    constructor
    · intro hout
      rw [if_pos (by omega)]
    · intro hlo hhi
      rw [if_neg (by omega), State.takeEvents_eq, Audit.takeEvents_eq]
      rfl
  · intro e hsource hday hslot htarget hsegId hfigure htime
    have hfields := e.fieldsFrom_octets
    simp only [fieldsFrom_eventWidths, AuditEvent.fields, AuditEvent.presence_eq, List.cons.injEq, and_true] at hfields
    obtain ⟨fcode, fstate, fcause, fpresence, fsource, fday, fslot, ftarget, fsegId, ffigure, ftime⟩ := hfields
    have hcause {c : Cause} (hc : e.cause = some c) : octetAt e.octets 2 = causeNumber e.code c := by
      rw [hc] at fcause
      exact fieldAt_of_slice_eq_be fcause (causeNumber_lt _ _)
    have hpresence : octetAt e.octets 3 = e.presenceNumber :=
      fieldAt_of_slice_eq_be fpresence (e.presenceNumber_lt.trans (by decide))
    refine ⟨e.length_octets, fieldAt_of_slice_eq_be fcode e.code.number_lt,
      fieldAt_of_slice_eq_be fstate e.state.number_lt, ?noCause, ?cause, ?reserved, ?present,
      fieldAt_of_slice_eq_be fsource (getD_zero_lt_of_all (by decide) hsource),
      fieldAt_of_slice_eq_be fday (getD_zero_lt_of_all (by decide) hday),
      fieldAt_of_slice_eq_be fslot (getD_zero_lt_of_all (by decide) hslot),
      fieldAt_of_slice_eq_be ftarget (getD_zero_lt_of_all (by decide) htarget),
      fieldAt_of_slice_eq_be fsegId (getD_zero_lt_of_all (by decide) hsegId),
      fieldAt_of_slice_eq_be ffigure (getD_zero_lt_of_all (by decide) hfigure), ?noTime, ?time⟩
    case noCause =>
      intro hc
      rw [hc] at fcause
      exact fieldAt_of_slice_eq_be fcause (by decide)
    case cause =>
      rintro code st causes hrow rfl - c hmem hc
      exact (hcause hc).trans (causeNumber_eq_idxOf (e.code, st, causes) hrow c hmem)
    case reserved => exact hpresence ▸ e.presenceNumber_lt
    case present => exact hpresence ▸ e.testBit_presenceNumber
    case noTime =>
      intro ht
      rw [ftime, ht]
      rfl
    case time =>
      intro x ht
      rw [ht] at ftime htime
      obtain ⟨hxday, hxsecond⟩ : x.day < 2 ^ 16 ∧ x.second < 2 ^ 32 := by simpa using htime
      exact fieldAt_of_slice_eq_timeOctets ftime hxday hxsecond

end Sys2Proof.Machine
end

section
/-! What every operation of the part keeps, said once: the rule of the Audit Event Queue (R143), the suspend budget (R105),
the ids of the EXPIRING entries, and each day's Settlement Map flag and entry (R35, R42). One lemma for each operation, in the order of the model. -/

namespace Sys2Proof.Machine

/-- What is claimed of a state: whether the audit rule and the suspend budget are among it, the ids that may be EXPIRING, and
how a day may stand, by its Settlement Map flag and the state of its entry. A CLOSED day may settle (R41). -/
structure Standing where
  audit : Prop
  budget : Prop
  expiring : Nat → Prop
  days : Nat → Bool → Option DayState → Prop
  settles : ∀ day flag, days day flag (some .closed) → days day (flag || decide (day < 65536)) none

/-- The claim lets a day close. -/
def Standing.Closes (k : Standing) : Prop := ∀ day flag x, k.days day flag (some x) → k.days day flag (some .closed)

/-- The claim lets a scan settle a day. -/
def Standing.Scans (k : Standing) : Prop := ∀ day flag x, k.days day flag x → k.days day true x

/-- The claim lets a day that is not settled have an entry. -/
def Standing.Opens (k : Standing) : Prop := ∀ day x, k.days day false none → k.days day false (some x)

/-- R105 on one target. -/
def Target.budgeted (t : Target) : Prop := t.erase.all EraseSlot.budgeted = true

/-- The state meets what is claimed. -/
structure State.Meets (s : State) (k : Standing) : Prop where
  audit : k.audit → s.audit.sound = true
  budget : k.budget → ∀ t, (s.target t).budgeted
  expiring : ∀ e ∈ s.dir, e.state = .expiring → k.expiring e.id
  days : ∀ day, k.days day (s.isSettled day) ((s.day? day).map DayEntry.state)

theorem State.suspendsSound_iff (s : State) : s.suspendsSound = true ↔ ∀ t, (s.target t).budgeted := by
  simp only [State.suspendsSound, List.all_eq_true, Vector.mem_toList_iff, State.target, vget, Target.budgeted]
  constructor
  · exact fun h t => h _ (Vector.getElem_mem _)
  · intro h t ht
    obtain ⟨i, hi, rfl⟩ := Vector.mem_iff_getElem.mp ht
    exact h ⟨i, hi⟩

/-! ### Targets -/

theorem Target.setExtents_eq (xs : List Nat) (st : ExtentState) (t : Target) :
    t.setExtents xs st = { t with map := t.map.map fun m => xs.foldl (fun m x => m.set x st) m } := by
  induction xs generalizing t with
  | nil => cases t; simp [Target.setExtents]
  | cons x xs ih =>
    have hcons : t.setExtents (x :: xs) st = (t.setExtent x st).setExtents xs st := rfl
    rw [hcons, ih]
    simp [Target.setExtent, Function.comp_def]

@[simp] theorem Target.setExtents_erase (xs st) (t : Target) : (t.setExtents xs st).erase = t.erase := by
  rw [Target.setExtents_eq]

theorem Target.budgeted_of_erase_none {t : Target} (h : t.erase = none) : t.budgeted := by
  simp [Target.budgeted, h]

theorem Target.budgeted_congr {t u : Target} (h : u.erase = t.erase) (ht : t.budgeted) : u.budgeted := by
  unfold Target.budgeted at *
  rwa [h]

/-- A slot in another state than SUSPEND_REQUESTED, as often suspended as a budgeted one, is budgeted. -/
theorem EraseSlot.budgeted_of_suspends_eq {x y : EraseSlot} (hx : x.budgeted = true) (hs : y.suspends = x.suspends)
    (hy : y.state ≠ .suspendRequested) : y.budgeted = true := by
  simp_all [EraseSlot.budgeted]

theorem Target.budgeted_offline {t : Target} (ht : t.budgeted) : t.offline.budgeted := by
  cases he : t.erase with
  | none => exact Target.budgeted_of_erase_none (by simp [Target.offline, he])
  | some x =>
    simp only [Target.budgeted, he, Option.all_some] at ht
    simp only [Target.budgeted, Target.offline, he, Option.map_some, Option.all_some, EraseSlot.resumeNow]
    split
    · exact EraseSlot.budgeted_of_suspends_eq ht rfl nofun
    · exact ht

theorem Target.budgeted_pokeErase {t : Target} (ht : t.budgeted) : t.pokeErase.budgeted := by
  unfold Target.pokeErase
  split
  · exact ht
  · next x he =>
    have hx : x.budgeted = true := by simpa [Target.budgeted, he] using ht
    split
    · split
      · next hw => simpa [Target.budgeted, EraseSlot.budgeted, hw.2] using hw.2.le
      · exact ht
    · split
      · exact EraseSlot.budgeted_of_suspends_eq (y := { x with state := .resumeRequested }) hx rfl nofun
      · exact ht
    · exact ht
    · exact ht

theorem Target.budgeted_issueErase {t : Target} (ht : t.budgeted) : t.issueErase.budgeted := by
  unfold Target.issueErase
  split
  · exact ht
  · simp [Target.budgeted, EraseSlot.budgeted]

theorem Target.budgeted_suspendedBy {t : Target} {x : EraseSlot} (ht : t.budgeted) (he : t.erase = some x)
    (hx : x.state = .suspendRequested) : (t.suspendedBy x).budgeted := by
  simp only [Target.budgeted, he, Option.all_some, EraseSlot.budgeted, hx] at ht
  simp only [Target.budgeted, Target.suspendedBy, Option.all_some, EraseSlot.budgeted]
  simp_all

theorem Target.budgeted_unissue {t : Target} : t.unissue.budgeted := by
  unfold Target.unissue
  split <;> exact Target.budgeted_of_erase_none rfl

theorem Target.erase_readUnitZero (x : Nat) (t : Target) : (t.readUnitZero x).erase = t.erase := by
  unfold Target.readUnitZero
  split <;> rfl

theorem Target.erase_startScan (b r) (t : Target) : (t.startScan b r).erase = t.erase := Target.erase_readUnitZero _ _

theorem Target.erase_startRebuild (tag) (t : Target) : (t.startRebuild tag).erase = t.erase := by
  unfold Target.startRebuild
  split
  · exact t.erase_startScan _ _
  · rfl

theorem Target.budgeted_tick {t : Target} (ht : t.budgeted) :
    ({ t with erase := t.erase.map EraseSlot.tick } : Target).budgeted := by
  cases he : t.erase with
  | none => exact Target.budgeted_of_erase_none rfl
  | some x =>
    simp only [Target.budgeted, he, Option.all_some] at ht
    simp only [Target.budgeted, Option.map_some, Option.all_some, EraseSlot.tick]
    split <;> exact ht

/-! ### The Day Table -/

/-- The entries of a day after a change of one day's entries. -/
theorem State.day?_onDay (s : State) (day : Nat) {f : DayEntry → DayEntry} (hf : ∀ d, (f d).day = d.day) (x : Nat) :
    (s.onDay day f).day? x = if x = day then (s.day? x).map f else s.day? x := by
  simp only [State.day?, State.onDay, State.onTracker_tracker, List.find?_map]
  have hday (d : DayEntry) : (if d.day = day then f d else d).day = d.day := by split <;> simp [hf]
  simp only [Function.comp_def, hday]
  cases hfind : s.tracker.days.find? fun d => decide (d.day = x) with
  | none => simp
  | some d =>
    have hd : d.day = x := by simpa using List.find?_some hfind
    simp only [Option.map_some, hd]
    split <;> rfl

theorem find?_insertDay (d : DayEntry) (l : List DayEntry) (hnone : l.find? (fun y => decide (y.day = d.day)) = none)
    (x : Nat) : (insertDay d l).find? (fun y => decide (y.day = x))
      = if x = d.day then some d else l.find? fun y => decide (y.day = x) := by
  induction l with
  | nil => by_cases hx : x = d.day <;> simp [insertDay, hx, eq_comm]
  | cons y t ih =>
    simp only [List.find?_cons] at hnone
    split at hnone
    · cases hnone
    · next hy =>
      have hy' : ¬ y.day = d.day := by simpa using hy
      unfold insertDay
      split
      · by_cases hx : x = d.day
        · simp [hx]
        · have hx' : ¬ d.day = x := fun e => hx e.symm
          simp [List.find?_cons, hx, hx']
      · rw [List.find?_cons, List.find?_cons, ih hnone]
        by_cases hx : x = d.day
        · simp [hx, hy']
        · simp [hx]

theorem State.day?_ensureDay (s : State) (day x : Nat) : (s.ensureDay day).day? x
    = if x = day then some ((s.day? day).getD (s.newDay day)) else s.day? x := by
  unfold State.ensureDay
  cases hday : s.day? day with
  | some d => by_cases hx : x = day <;> simp [hx, hday]
  | none => exact find?_insertDay (s.newDay day) s.tracker.days hday x

/-- Settling frees the entries of the day. -/
theorem find?_filter_day (l : List DayEntry) (day x : Nat) :
    (l.filter fun d => d.day ≠ day).find? (fun y => decide (y.day = x))
      = if x = day then none else l.find? fun y => decide (y.day = x) := by
  rw [List.find?_filter]
  by_cases hx : x = day
  · simp only [hx, if_pos]
    exact List.find?_eq_none.mpr (by simp)
  · simp only [hx, if_false]
    congr 1
    funext y
    by_cases hy : y.day = x <;> simp [hy, hx]

theorem State.isSettled_settleFlag (s : State) (day x : Nat) :
    (s.settleFlag day).isSettled x = (s.isSettled x || (decide (x < 65536) && decide (x = day))) := by
  simp only [State.isSettled, State.settleFlag, State.onTracker_tracker, BitVec.getLsbD_or, BitVec.getLsbD_twoPow]
  by_cases hx : x = day
  · simp [hx]
  · simp [hx, Ne.symm hx]

/-! ### Updates of one block -/

section

variable {s : State} {k : Standing}

/-- A state that differs in none of the blocks claimed of. -/
theorem State.Meets.of_eq {t : State} (h : s.Meets k) (ha : t.audit = s.audit) (ht : t.targets = s.targets)
    (hd : t.dir = s.dir) (hk : t.tracker.settled = s.tracker.settled) (hdays : t.tracker.days = s.tracker.days) :
    t.Meets k where
  audit := by rw [ha]; exact h.audit
  budget := by simpa only [State.target, ht] using h.budget
  expiring := by rw [hd]; exact h.expiring
  days := by simpa only [State.isSettled, State.day?, hk, hdays] using h.days

theorem State.Meets.setEngine (h : s.Meets k) (e) : (s.setEngine e).Meets k := h.of_eq rfl rfl rfl rfl rfl
theorem State.Meets.setCurrent (h : s.Meets k) (d) : (s.setCurrent d).Meets k := h.of_eq rfl rfl rfl rfl rfl
theorem State.Meets.onClock (h : s.Meets k) (f) : (s.onClock f).Meets k := h.of_eq rfl rfl rfl rfl rfl
theorem State.Meets.onPort (h : s.Meets k) (f) : (s.onPort f).Meets k := h.of_eq rfl rfl rfl rfl rfl
theorem State.Meets.onAsm (h : s.Meets k) (f) : (s.onAsm f).Meets k := h.of_eq rfl rfl rfl rfl rfl
theorem State.Meets.onTables (h : s.Meets k) (f) : (s.onTables f).Meets k := h.of_eq rfl rfl rfl rfl rfl
theorem State.Meets.onBuilder (h : s.Meets k) (f) : (s.onBuilder f).Meets k := h.of_eq rfl rfl rfl rfl rfl
theorem State.Meets.onCommit (h : s.Meets k) (f) : (s.onCommit f).Meets k := h.of_eq rfl rfl rfl rfl rfl
theorem State.Meets.onExpiry (h : s.Meets k) (f) : (s.onExpiry f).Meets k := h.of_eq rfl rfl rfl rfl rfl
theorem State.Meets.onHold (h : s.Meets k) (f) : (s.onHold f).Meets k := h.of_eq rfl rfl rfl rfl rfl
theorem State.Meets.onCoder (h : s.Meets k) (f) : (s.onCoder f).Meets k := h.of_eq rfl rfl rfl rfl rfl
theorem State.Meets.onNotices (h : s.Meets k) (f) : (s.onNotices f).Meets k := h.of_eq rfl rfl rfl rfl rfl
theorem State.Meets.withPending (h : s.Meets k) (q) : (s.withPending q).Meets k := h.of_eq rfl rfl rfl rfl rfl

/-- A state that differs in the tracker, its days as they may stand. -/
theorem State.Meets.of_days {t : State} (h : s.Meets k) (ha : t.audit = s.audit) (ht : t.targets = s.targets)
    (hd : t.dir = s.dir) (hdays : ∀ day, k.days day (t.isSettled day) ((t.day? day).map DayEntry.state)) :
    t.Meets k where
  audit := by rw [ha]; exact h.audit
  budget := by simpa only [State.target, ht] using h.budget
  expiring := by rw [hd]; exact h.expiring
  days := hdays

/-- A change of the Directory that makes no entry EXPIRING. -/
theorem State.Meets.onDir (h : s.Meets k) {f : List SegEntry → List SegEntry}
    (hf : ∀ e' ∈ f s.dir, e'.state = .expiring → ∃ e ∈ s.dir, e.id = e'.id ∧ e.state = .expiring) :
    (s.onDir f).Meets k where
  audit := h.audit
  budget := h.budget
  expiring e' he' hs := by
    obtain ⟨e, he, hid, hst⟩ := hf e' he' hs
    exact hid ▸ h.expiring e he hst
  days := h.days

theorem State.Meets.onAudit (h : s.Meets k) {f : Audit → Audit} (hf : s.audit.sound = true → (f s.audit).sound = true) :
    (s.onAudit f).Meets k where
  audit hk := hf (h.audit hk)
  budget := h.budget
  expiring := h.expiring
  days := h.days

theorem State.Meets.onTarget (h : s.Meets k) (t) {f : Target → Target}
    (hf : (s.target t).budgeted → (f (s.target t)).budgeted) : (s.onTarget t f).Meets k where
  audit := h.audit
  budget hk u := by
    rw [State.target_onTarget]
    split
    · exact hf (h.budget hk t)
    · exact h.budget hk u
  expiring := h.expiring
  days := h.days

/-- A change of one controller that leaves its erase slot. -/
theorem State.Meets.onTarget_erase (h : s.Meets k) (t) {f : Target → Target}
    (hf : (f (s.target t)).erase = (s.target t).erase) : (s.onTarget t f).Meets k :=
  h.onTarget t (Target.budgeted_congr hf)

/-- A change of every controller. -/
theorem State.Meets.mapTargets (h : s.Meets k) {f : Target → Target} (hf : ∀ x, x.budgeted → (f x).budgeted) :
    (s.onTargets fun v => v.map f).Meets k where
  audit := h.audit
  budget hk u := by
    have hu : (s.onTargets fun v => v.map f).target u = f (s.target u) := by simp [State.target, vget]
    rw [hu]
    exact hf _ (h.budget hk u)
  expiring := h.expiring
  days := h.days

/-- A change of the entries of one segment that makes none EXPIRING. -/
theorem State.Meets.onEntry (h : s.Meets k) (id) {f : SegEntry → SegEntry}
    (hst : ∀ e, (f e).state = .expiring → e.state = .expiring := by exact fun _ h => h)
    (hid : ∀ e, (f e).id = e.id := by exact fun _ => rfl) : (s.onEntry id f).Meets k := by
  refine h.onDir fun e' he' hs => ?_
  obtain ⟨e, he, rfl⟩ := (mem_updateEntry ..).mp he'
  refine ⟨e, he, ?_⟩
  split at hs
  · rw [if_pos ‹_›]; exact ⟨(hid e).symm, hst e hs⟩
  · rw [if_neg ‹_›]; exact ⟨rfl, hs⟩

/-- A change of every entry that makes none EXPIRING. -/
theorem State.Meets.mapDir (h : s.Meets k) {f : SegEntry → SegEntry}
    (hst : ∀ e, (f e).state = .expiring → e.state = .expiring := by exact fun _ h => h)
    (hid : ∀ e, (f e).id = e.id := by exact fun _ => rfl) :
    (s.onDir fun d => d.map f).Meets k := by
  refine h.onDir fun e' he' hs => ?_
  obtain ⟨e, he, rfl⟩ := List.mem_map.mp he'
  exact ⟨e, he, (hid e).symm, hst e hs⟩

/-- Entries removed. -/
theorem State.Meets.filterDir (h : s.Meets k) (p : SegEntry → Bool) : (s.onDir fun d => d.filter p).Meets k :=
  h.onDir fun e' he' hs => ⟨e', (List.mem_filter.mp he').1, rfl, hs⟩

theorem State.Meets.removeEntry (h : s.Meets k) (id) : (s.onDir (removeEntry id)).Meets k := h.filterDir _

/-- An entry inserted that is not EXPIRING. -/
theorem State.Meets.insertEntry (h : s.Meets k) {e : SegEntry} (he : e.state ≠ .expiring) :
    (s.onDir (insertEntry e)).Meets k := by
  refine h.onDir fun e' he' hs => ?_
  rcases (mem_insertEntry ..).mp he' with rfl | hmem
  · exact absurd hs he
  · exact ⟨e', hmem, rfl, hs⟩

theorem State.Meets.foldl {α : Type} {l : List α} (h : s.Meets k) (f : State → α → State)
    (hf : ∀ s a, s.Meets k → (f s a).Meets k) : (l.foldl f s).Meets k := by
  induction l generalizing s with
  | nil => exact h
  | cons a l ih => exact ih (hf s a h)

/-! ### Ops and flags -/

theorem State.Meets.onLane (h : s.Meets k) (l f) : (s.onLane l f).Meets k := h.onAsm _
theorem State.Meets.onBuffer (h : s.Meets k) (i f) : (s.onBuffer i f).Meets k := h.onBuilder _
theorem State.Meets.freeBuffer (h : s.Meets k) (i) : (s.freeBuffer i).Meets k := h.onBuilder _
theorem State.Meets.onSource (h : s.Meets k) (n f) : (s.onSource n f).Meets k := h.of_eq rfl rfl rfl rfl rfl
theorem State.Meets.onRecord (h : s.Meets k) (a b f) : (s.onRecord a b f).Meets k := h.of_eq rfl rfl rfl rfl rfl
theorem State.Meets.onDay (h : s.Meets k) (d) {f : DayEntry → DayEntry}
    (hday : ∀ x, (f x).day = x.day := by exact fun _ => rfl)
    (hst : ∀ x, (f x).state = x.state := by exact fun _ => rfl) : (s.onDay d f).Meets k := by
  refine h.of_days rfl rfl rfl fun day => ?_
  rw [State.day?_onDay _ _ hday]
  split
  · rw [Option.map_map, Function.comp_def]
    simp only [hst]
    exact h.days day
  · exact h.days day
theorem State.Meets.onSlot (h : s.Meets k) (a b c f) : (s.onSlot a b c f).Meets k := h.onRecord ..
theorem State.Meets.notify (h : s.Meets k) (n x) : (s.notify n x).Meets k := h.onNotices _
theorem State.Meets.raise (h : s.Meets k) (e) : (s.raise e).Meets k :=
  (h.onAudit (f := (·.offer e)) (Audit.offer_sound _ e)).notify _ _
theorem State.Meets.raiseAll (h : s.Meets k) (es) : (s.raiseAll es).Meets k := h.foldl State.raise fun _ e h => h.raise e
theorem State.Meets.putReply (h : s.Meets k) (r) : (s.putReply r).Meets k := h.onPort _
theorem State.Meets.answer (h : s.Meets k) (a b c) : (s.answer a b c).Meets k := h.of_eq rfl rfl rfl rfl rfl
theorem State.Meets.refuse (h : s.Meets k) (a b) : (s.refuse a b).Meets k := h.of_eq rfl rfl rfl rfl rfl
theorem State.Meets.report (h : s.Meets k) (a b) : (s.report a b).Meets k := h.of_eq rfl rfl rfl rfl rfl
theorem State.Meets.answerClamped (h : s.Meets k) (a b c) : (s.answerClamped a b c).Meets k := h.of_eq rfl rfl rfl rfl rfl
theorem State.Meets.reserve (h : s.Meets k) (a) : (s.reserve a).Meets k := h.onPort _
theorem State.Meets.complete (h : s.Meets k) (r) : (s.complete r).Meets k := h.onPort _
theorem State.Meets.completeWith (h : s.Meets k) (a b c) : (s.completeWith a b c).Meets k := h.of_eq rfl rfl rfl rfl rfl

theorem State.Meets.checkFlow (h : s.Meets k) : s.checkFlow.Meets k := by
  unfold State.checkFlow; dsimp only; split
  · exact h
  · exact h.onPort _
theorem State.Meets.queueFlow (h : s.Meets k) : s.queueFlow.Meets k := h.onPort _
theorem State.Meets.settleFlag (h : s.Meets k) (hk : k.Scans) (d) : (s.settleFlag d).Meets k := by
  refine h.of_days rfl rfl rfl fun day => ?_
  rw [State.isSettled_settleFlag]
  cases decide (day < 65536) && decide (day = d) with
  | true => rw [Bool.or_true]; exact hk _ _ _ (h.days day)
  | false => rw [Bool.or_false]; exact h.days day

/-! ### Segment Builder -/

theorem State.Meets.flushEnd (h : s.Meets k) (i e) : (s.flushEnd i e).Meets k := by
  unfold State.flushEnd
  split
  · exact h
  · dsimp only
    split
    · split
      · exact (h.onBuilder _).completeWith ..
      · exact h.onBuilder _
    · exact h
theorem State.Meets.unindex (h : s.Meets k) (i) : (s.unindex i).Meets k := h.onBuilder _

theorem SegEntry.seal_state_ne (e : SegEntry) (bits why) : (e.seal bits why).state ≠ .expiring := by
  unfold SegEntry.seal; dsimp only; split <;> nofun

theorem State.Meets.sealSegment (h : s.Meets k) (r i) : (s.sealSegment r i).Meets k := by
  unfold State.sealSegment
  exact (((h.unindex i).onEntry i (by exact fun e hs => absurd hs (e.seal_state_ne _ _))).onBuffer i _).onCommit _
theorem State.Meets.sealAll (h : s.Meets k) (r l) : (s.sealAll r l).Meets k := h.foldl _ fun _ i h => h.sealSegment r i
theorem State.Meets.discardSegment (h : s.Meets k) (i) : (s.discardSegment i).Meets k :=
  (((((h.unindex i).onCommit _).removeEntry i).freeBuffer i).flushEnd i .discarded).checkFlow
theorem State.Meets.testSegment (h : s.Meets k) (i) : (s.testSegment i).Meets k := by
  unfold State.testSegment
  split
  · exact h
  · split
    · exact h.discardSegment i
    · split
      · exact h.onEntry i nofun
      · split
        · exact h.sealSegment _ i
        · exact h
theorem State.Meets.resolveIn (h : s.Meets k) (l st i) : (s.resolveIn l st i).Meets k := by
  unfold State.resolveIn
  split
  · exact h
  · exact ((h.onBuffer i _).onEntry i).testSegment i
theorem State.Meets.resolveRuns (h : s.Meets k) (l st) : (s.resolveRuns l st).Meets k :=
  h.foldl _ fun _ i h => h.resolveIn l st i
theorem State.Meets.crowdedSeal (h : s.Meets k) : s.crowdedSeal.Meets k := by
  unfold State.crowdedSeal
  split
  · split
    · exact h
    · exact h.sealSegment ..
  · exact h
theorem State.Meets.openSegment (h : s.Meets k) (c d i) : (s.openSegment c d i).Meets k :=
  ((h.insertEntry (e := SegEntry.new i c d _ _) nofun).onBuilder _).checkFlow
theorem State.Meets.appendRecord (h : s.Meets k) (o e b c) : (s.appendRecord o e b c).Meets k := by
  unfold State.appendRecord
  exact ((h.onEntry e.id).onBuffer e.id _).onBuilder _
theorem State.Meets.tryAppend {t : State} {o i} (h : s.Meets k) (ht : s.tryAppend o i = .inl t) : t.Meets k := by
  unfold State.tryAppend at ht
  split at ht
  · dsimp only at ht
    split at ht
    · cases ht; exact h.appendRecord ..
    · cases ht
  · cases ht; exact h
theorem State.Meets.openFor (h : s.Meets k) (o) : (s.openFor o).state.Meets k := by
  unfold State.openFor
  split
  · exact h
  · split
    · exact h
    · dsimp only
      split
      · exact h.crowdedSeal
      · split
        · next ht => exact (h.crowdedSeal.openSegment _ _ _).tryAppend ht
        · exact h.crowdedSeal.openSegment _ _ _
theorem State.Meets.place (h : s.Meets k) (o) : (s.place o).state.Meets k := by
  unfold State.place
  split
  · exact h.openFor o
  · split
    · next ht => exact h.tryAppend ht
    · exact (h.sealSegment ..).openFor _
theorem State.Meets.placed {t : State} {o} (h : s.Meets k) (ht : s.place o = .placed t) : t.Meets k := by
  simpa only [ht, Placement.state] using h.place o
theorem State.Meets.stalled {t : State} {o c a} (h : s.Meets k) (ht : s.place o = .stalled t c a) : t.Meets k := by
  simpa only [ht, Placement.state] using h.place o

/-! ### Continuity Tracker -/

theorem State.Meets.testRetirement (h : s.Meets k) (d) : (s.testRetirement d).Meets k := by
  unfold State.testRetirement
  split
  · exact h
  · split
    · exact State.Meets.onDay (h.of_eq (t := s.onTracker _) rfl rfl rfl rfl rfl) d
    · exact h
theorem State.Meets.testSettlement (h : s.Meets k) (d) : (s.testSettlement d).Meets k := by
  unfold State.testSettlement
  split
  · exact h
  · next x hx =>
    split
    · next hsettle =>
      have hclosed : x.state = .closed := by
        simp only [DayEntry.canSettle, Bool.and_eq_true, decide_eq_true_eq] at hsettle
        exact hsettle.1.1
      refine State.Meets.notify (s := (s.settleFlag d).onTracker _) (h.of_days rfl rfl rfl fun day => ?_) ..
      change k.days day ((s.settleFlag d).isSettled day)
        (((s.tracker.days.filter fun y => y.day ≠ d).find? fun y => decide (y.day = day)).map DayEntry.state)
      rw [s.isSettled_settleFlag d day, find?_filter_day]
      by_cases hday : day = d
      · subst hday
        have hd := h.days day
        rw [hx, Option.map_some, hclosed] at hd
        simpa using k.settles day _ hd
      · have hd := h.days day
        simpa [hday] using (show k.days day _ ((s.tracker.days.find? fun y => decide (y.day = day)).map _) from hd)
    · exact h
theorem State.Meets.fileEnded (h : s.Meets k) (d) : (s.fileEnded d).Meets k :=
  ((h.onDay d).testRetirement d).testSettlement d
theorem State.Meets.checkSequence (h : s.Meets k) (f) : (s.checkSequence f).Meets k := by
  unfold State.checkSequence
  dsimp only
  split
  · exact h.onSource ..
  · split
    · exact h.onSource ..
    · split
      · exact (h.raise _).onSource ..
      · exact h
theorem State.ensureDay_isSettled (s : State) (d x) : (s.ensureDay d).isSettled x = s.isSettled x := by
  unfold State.ensureDay
  split <;> rfl
theorem State.Meets.ensureDay (h : s.Meets k) (hk : k.Opens) {d} (hd : s.isSettled d = false) :
    (s.ensureDay d).Meets k := by
  have hkept : (s.ensureDay d).audit = s.audit ∧ (s.ensureDay d).targets = s.targets ∧ (s.ensureDay d).dir = s.dir := by
    unfold State.ensureDay
    split <;> exact ⟨rfl, rfl, rfl⟩
  obtain ⟨haudit, htargets, hdir⟩ := hkept
  refine ⟨haudit ▸ h.audit, ?_, hdir ▸ h.expiring, fun day => ?_⟩
  · simpa only [State.target, htargets] using h.budget
  · rw [State.ensureDay_isSettled, State.day?_ensureDay]
    split
    · next hday =>
      subst hday
      have hold := h.days day
      cases hentry : s.day? day with
      | some x => simpa [hentry] using hold
      | none =>
        rw [hentry, hd] at hold
        simpa [hd] using hk day _ hold
    · exact h.days day
theorem State.Meets.addRecord (h : s.Meets k) (r) : (s.addRecord r).Meets k :=
  State.Meets.onDay (h.of_eq (t := s.onTracker _) rfl rfl rfl rfl rfl) _
theorem State.Meets.addLateRecord (h : s.Meets k) (f n) : (s.addLateRecord f n).Meets k := (h.addRecord _).raiseAll _
theorem State.Meets.restoreRecord (h : s.Meets k) (f i) : (s.restoreRecord f i).Meets k := (h.addRecord _).onDay _
theorem State.Meets.ensureRecord (h : s.Meets k) (f) : (s.ensureRecord f).Meets k := by
  unfold State.ensureRecord
  split
  · exact h
  · exact h
  · dsimp only
    split
    · exact h.addRecord _
    · split
      · exact h.restoreRecord ..
      · exact h.addLateRecord ..
theorem State.Meets.enterFile (h : s.Meets k) (l f r) : (s.enterFile l f r).Meets k := by
  unfold State.enterFile
  split
  · exact h.onSlot ..
  · exact h.onRecord ..
theorem State.Meets.openOutcome (h : s.Meets k) (hk : k.Opens) (l f r) : (s.openOutcome l f r).Meets k := by
  unfold State.openOutcome
  split
  · exact h.checkSequence f
  · next hday =>
    exact ((((h.ensureDay hk (eq_false_of_ne_true hday)).ensureRecord f).enterFile l f r).onDay _).checkSequence f
theorem State.Meets.closeNormal (h : s.Meets k) (o) : (s.closeNormal o).Meets k :=
  (((h.onRecord ..).resolveRuns ..).raiseAll _).fileEnded _
theorem State.Meets.closeLate (h : s.Meets k) (o) : (s.closeLate o).Meets k := (h.resolveRuns ..).raise _
theorem State.Meets.closeDuplicate (h : s.Meets k) (o) : (s.closeDuplicate o).Meets k :=
  (((h.resolveRuns ..).onRecord ..).onSource ..).fileEnded _
theorem State.Meets.closeConflict (h : s.Meets k) (o c) : (s.closeConflict o c).Meets k :=
  ((((h.resolveRuns ..).onRecord ..).onSource ..).raise _).fileEnded _
theorem State.Meets.closeSuspect (h : s.Meets k) (o) : (s.closeSuspect o).Meets k := by
  unfold State.closeSuspect
  dsimp only
  split
  · exact h.closeDuplicate o
  · exact h.closeConflict o _
theorem State.Meets.closeOutcome (h : s.Meets k) (o r) : (s.closeOutcome o r).Meets k := by
  unfold State.closeOutcome
  split
  · exact h.closeNormal o
  · exact h.closeLate o
  · exact h.closeSuspect o
  · exact h.closeSuspect o
theorem State.Meets.abortNormal (h : s.Meets k) (f) : (s.abortNormal f).Meets k := by
  unfold State.abortNormal
  dsimp only
  split
  · exact ((h.onSlot ..).raise _).fileEnded _
  · exact (h.onSlot ..).fileEnded _
theorem State.Meets.abortOutcome (h : s.Meets k) (f r) : (s.abortOutcome f r).Meets k := by
  unfold State.abortOutcome
  split
  · exact h.abortNormal f
  · exact h
  · exact (h.onRecord ..).fileEnded _
  · exact (h.onRecord ..).fileEnded _
theorem State.Meets.onRecordsOf (h : s.Meets k) (d f) : (s.onRecordsOf d f).Meets k := h.of_eq rfl rfl rfl rfl rfl
theorem State.Meets.shutDay (h : s.Meets k) (hk : k.Closes) (d) :
    (s.onDay d fun x => { x with state := .closed }).Meets k := by
  refine h.of_days rfl rfl rfl fun day => ?_
  have hold := h.days day
  rw [State.day?_onDay _ _ (by exact fun _ => rfl)]
  split
  · cases hentry : s.day? day with
    | none => rw [hentry] at hold; exact hold
    | some x => rw [hentry] at hold; exact hk day _ _ hold
  · exact hold
theorem State.Meets.closeDay (h : s.Meets k) (hk : k.Closes) (d) : (s.closeDay d).Meets k := by
  unfold State.closeDay State.closeDaySteps
  exact (((((State.Meets.shutDay (h.sealAll ..) hk d).onRecordsOf ..).raiseAll _).onRecordsOf ..).testRetirement
    d).testSettlement d

/-! ### File Assembler -/

theorem State.Meets.startTimer (h : s.Meets k) (l) : (s.startTimer l).Meets k := by
  unfold State.startTimer
  split
  · exact h.onLane ..
  · exact h
theorem State.Meets.abortFile (h : s.Meets k) (l c) : (s.abortFile l c).Meets k := by
  unfold State.abortFile
  split
  · exact (((h.resolveRuns ..).abortOutcome ..).raise _).onLane ..
  · exact h
theorem State.Meets.popFrame (h : s.Meets k) : s.popFrame.Meets k := (h.onPort _).onAsm _
theorem State.Meets.acceptFile (h : s.Meets k) (hk : k.Opens) (l f) : (s.acceptFile l f).Meets k :=
  ((h.onLane ..).openOutcome hk ..).startTimer l
theorem State.Meets.refuseFile (h : s.Meets k) (l f a c) : (s.refuseFile l f a c).Meets k := (h.raise _).onLane ..
theorem State.Meets.openFile (h : s.Meets k) (hk : k.Opens) (l f a) : (s.openFile l f a).Meets k := by
  unfold State.openFile
  dsimp only
  split
  · exact (h.abortFile ..).refuseFile ..
  · exact (h.abortFile ..).acceptFile hk ..
theorem State.Meets.rejectRecord (h : s.Meets k) (l c) : (s.rejectRecord l c).Meets k := (h.onLane ..).onAsm _
theorem State.Meets.countAppended (h : s.Meets k) (l) : (s.countAppended l).Meets k := h.onLane ..
theorem State.Meets.goOn (h : s.Meets k) (l rest) {more : State → State} (hm : ∀ s, s.Meets k → (more s).Meets k) :
    (State.goOn l rest more s).Meets k := by
  unfold State.goOn
  split
  · exact hm s h
  · split
    · exact h.onAsm _
    · exact hm s h
theorem State.Meets.takeRecords (l : LaneNo) (rs : List (List Byte)) (s : State) (h : s.Meets k) :
    (State.takeRecords l rs s).Meets k := by
  induction rs generalizing s with
  | nil => exact (h.onAsm _).startTimer l
  | cons r rest ih =>
    have hr := h.onLane l fun x => { x with digest := crcTake x.digest r }
    simp only [State.takeRecords]
    split
    · exact (hr.rejectRecord ..).goOn _ _ ih
    · split
      · next hp => exact ((hr.placed hp).countAppended l).goOn _ _ ih
      · next hp => exact (hr.stalled hp).onAsm _
theorem State.Meets.countStray (h : s.Meets k) : s.countStray.Meets k := h.onAsm _
theorem State.Meets.countDiscarded (h : s.Meets k) : s.countDiscarded.Meets k := h.onAsm _
theorem State.Meets.dataFrame (h : s.Meets k) (l p) : (s.dataFrame l p).Meets k := by
  unfold State.dataFrame
  split
  · exact h.countStray
  · exact h.countDiscarded
  all_goals
    split
    · exact h.abortFile ..
    · exact h.takeRecords ..
theorem State.Meets.closeFrame (h : s.Meets k) (l d c a) : (s.closeFrame l d c a).Meets k := by
  unfold State.closeFrame
  split
  · exact h.countStray
  · exact h.countDiscarded.onLane ..
  · exact h
  · split
    · exact (h.closeOutcome ..).onLane ..
    · exact h.abortFile ..
theorem State.Meets.abortFrame (h : s.Meets k) (l) : (s.abortFrame l).Meets k := by
  unfold State.abortFrame
  split
  · exact h.countStray
  · exact h.countDiscarded.onLane ..
  · exact h.abortFile ..
  · exact h.abortFile ..
theorem State.Meets.takeFileOpen (h : s.Meets k) (hk : k.Opens) : (takeFileOpen s).Meets k := by
  unfold Machine.takeFileOpen
  split
  · exact h.popFrame.openFile hk ..
  · exact h
theorem State.Meets.takeFileData (h : s.Meets k) : (takeFileData s).Meets k := by
  unfold Machine.takeFileData
  split
  · exact h.takeRecords ..
  · exact h.popFrame.dataFrame ..
  · exact h
theorem State.Meets.takeFileClose (h : s.Meets k) : (takeFileClose s).Meets k := by
  unfold Machine.takeFileClose
  split
  · exact h.popFrame.closeFrame ..
  · exact h
theorem State.Meets.takeFileAbort (h : s.Meets k) : (takeFileAbort s).Meets k := by
  unfold Machine.takeFileAbort
  split
  · exact h.popFrame.abortFrame ..
  · exact h
theorem State.Meets.overrunMarkTaken (h : s.Meets k) (l) : (overrunMarkTaken l s).Meets k := by
  unfold Machine.overrunMarkTaken State.takeMark
  dsimp only
  split
  · split
    · exact (h.onLane ..).abortFile ..
    · exact (h.onLane ..).abortFile ..
    · exact (h.onLane ..).onLane ..
    · exact h.onLane ..
  · exact h
theorem State.Meets.stallEnd (h : s.Meets k) : (stallEnd s).Meets k := by
  unfold Machine.stallEnd
  split
  · exact h
  · split
    · split
      · next hp => exact ((h.placed hp).countAppended _).goOn _ _ (State.Meets.takeRecords _ _)
      · next hp => exact (h.stalled hp).onAsm _
    · exact h
theorem State.Meets.laneIdleTimerExpiry (h : s.Meets k) (l) : (laneIdleTimerExpiry l s).Meets k := by
  unfold Machine.laneIdleTimerExpiry
  split
  · exact h.abortFile ..
  · exact h

end

end Sys2Proof.Machine
end

section
/-! What every operation keeps, continued: the Audit Unit, the store links, scans, expiry, holds, clock, link, resets. -/

namespace Sys2Proof.Machine

section

variable {s : State} {k : Standing}

/-! ### Audit Unit -/

theorem State.Meets.applyMatch (h : s.Meets k) (e) : (s.applyMatch e).Meets k := by
  unfold State.applyMatch
  dsimp only
  split
  · exact (h.onEntry e.id).raise _
  · exact h.onEntry e.id
theorem State.Meets.applyMismatch (h : s.Meets k) (e c r) : (s.applyMismatch e c r).Meets k := by
  unfold State.applyMismatch
  dsimp only
  split
  · exact h
  · exact (h.onEntry e.id).raise _
theorem State.Meets.applyVerify (h : s.Meets k) (e o) : (s.applyVerify e o).Meets k := by
  unfold State.applyVerify
  split
  · exact h.applyMatch e
  · exact h.applyMismatch ..
  · exact h.applyMismatch ..
  all_goals exact h
theorem State.Meets.pin (h : s.Meets k) (i) : (s.pin i).Meets k := h.onEntry i
theorem State.Meets.dequeueRequest (h : s.Meets k) : s.dequeueRequest.Meets k := by
  unfold State.dequeueRequest
  split
  · exact h
  · exact (h.onAudit fun hs => hs).onEntry _

theorem Audit.countScrub_sound {a : Audit} (h : a.sound = true) (o) : (a.countScrub o).sound = true := by
  cases o <;> exact h

theorem State.Meets.replyRequest (h : s.Meets k) (r o p) : (s.replyRequest r o p).Meets k := by
  unfold State.replyRequest
  split
  · exact h.completeWith ..
  · exact h.onAudit fun hs => Audit.countScrub_sound hs o
theorem State.Meets.applyEnding (h : s.Meets k) (r o) : (s.applyEnding r o).Meets k := by
  unfold State.applyEnding
  split
  · exact h.applyVerify ..
  · exact h
theorem State.Meets.finishRequest (h : s.Meets k) (o) : (s.finishRequest o).Meets k := by
  unfold State.finishRequest
  split
  · exact h
  · exact ((h.applyEnding ..).dequeueRequest).replyRequest ..
theorem State.Meets.offerRetrieval (h : s.Meets k) (r d) : (s.offerRetrieval r d).Meets k := by
  unfold State.offerRetrieval
  exact (h.onAudit fun hs => hs).completeWith ..
theorem State.Meets.applyDecode (h : s.Meets k) (r e) : (s.applyDecode r e).Meets k := by
  unfold State.applyDecode
  split
  · exact h.finishRequest _
  · split
    · exact h.finishRequest _
    · exact h.offerRetrieval ..
theorem State.Meets.decodeResult (h : s.Meets k) : s.decodeResult.Meets k := by
  unfold State.decodeResult
  split
  · exact h
  · split
    · exact h.finishRequest _
    · split
      · exact h.finishRequest _
      · exact h.applyDecode ..
theorem State.Meets.toCoder (h : s.Meets k) : s.toCoder.Meets k := by
  unfold State.toCoder
  exact (h.onAudit fun hs => hs).onCoder _
theorem State.Meets.imageRead (h : s.Meets k) : s.imageRead.Meets k := by
  unfold State.imageRead
  split
  · exact h
  · split
    · exact h.toCoder
    · split
      · exact h.finishRequest _
      · split
        · exact h.toCoder
        · split <;> exact h.finishRequest _
theorem State.Meets.queueRequest (h : s.Meets k) (r) : (s.queueRequest r).Meets k := by
  unfold State.queueRequest
  exact (h.onAudit fun hs => hs).pin _
theorem State.Meets.queueScrubs (h : s.Meets k) (n) : (s.queueScrubs n).Meets k :=
  h.foldl _ fun _ _ h => h.queueRequest _

/-! ### Store Link Controllers and Commit Engine -/

theorem State.Meets.notifyTarget (h : s.Meets k) (t) : (s.notifyTarget t).Meets k := h.notify ..
theorem State.Meets.returnStranded (h : s.Meets k) : s.returnStranded.Meets k := by
  unfold State.returnStranded
  refine (h.onCommit _).mapDir (fun e hs => ?_) (fun e => ?_)
  · split at hs
    · cases hs
    · exact hs
  · split <;> rfl
theorem State.Meets.enterOnline (h : s.Meets k) (t) : (s.enterOnline t).Meets k := by
  have hx := h.onTarget_erase t (f := fun x => { x with state := .online, faults := 0 }) rfl
  unfold State.enterOnline
  dsimp only
  split
  · exact (hx.notifyTarget t).returnStranded
  · exact hx.returnStranded
theorem State.Meets.withdrawCommit (h : s.Meets k) (t) : (s.withdrawCommit t).Meets k := by
  unfold State.withdrawCommit
  split
  · exact h
  · refine ((h.onTarget_erase t ?_).onEntry _ (by nofun)).onCommit _
    split <;> rfl
theorem State.Meets.goOffline (h : s.Meets k) (t) : (s.goOffline t).Meets k := by
  have hoff := (h.onTarget t Target.budgeted_offline).notifyTarget t
  unfold State.goOffline
  dsimp only
  split
  · split
    · exact (hoff.withdrawCommit t).finishRequest _
    · exact hoff.finishRequest _
  · split
    · exact hoff.withdrawCommit t
    · exact hoff
theorem State.Meets.faultUp (h : s.Meets k) (t) : (s.faultUp t).Meets k := by
  have hf := h.onTarget_erase t (f := fun x => { x with faults := x.faults + 1 }) rfl
  unfold State.faultUp
  dsimp only
  split
  · exact h
  · split
    · exact hf.goOffline t
    · split
      · exact hf.onTarget_erase t rfl
      · exact hf
theorem State.Meets.faultClear (h : s.Meets k) (t) : (s.faultClear t).Meets k := by
  unfold State.faultClear
  split
  · exact h
  · exact h.enterOnline t
  all_goals exact h.onTarget_erase t rfl
theorem State.Meets.pokeErase (h : s.Meets k) (t) : (s.pokeErase t).Meets k := h.onTarget t Target.budgeted_pokeErase
theorem State.Meets.beginCommit (h : s.Meets k) (c t x) : (s.beginCommit c t x).Meets k := by
  unfold State.beginCommit
  exact (((h.onCommit _).onTarget_erase t (by rfl)).onEntry _ (by nofun)).pokeErase t
theorem State.Meets.waitForTarget (h : s.Meets k) : s.waitForTarget.Meets k := by
  unfold State.waitForTarget
  split
  · exact h
  · exact (h.onCommit _).notify ..
theorem State.Meets.commitBegin (h : s.Meets k) : (commitBegin s).Meets k := by
  unfold Machine.commitBegin
  split
  · exact h
  · split
    · exact h
    · split
      · exact h.waitForTarget
      · split
        · exact h
        · exact h.beginCommit ..
theorem State.Meets.closeStranded (h : s.Meets k) (c) : (s.closeStranded c).Meets k := by
  unfold State.closeStranded
  split
  · exact h.raise _
  · exact h
theorem State.Meets.writeSuccess (h : s.Meets k) (t x) : (s.writeSuccess t x).Meets k := by
  have hw := h.onTarget_erase t (f := fun k => { k.setExtent x .written with xfer := none }) rfl
  unfold State.writeSuccess
  dsimp only
  split
  · exact (hw.faultClear t).pokeErase t
  · refine State.Meets.pokeErase (State.Meets.onCommit ?_ _) t
    exact ((((hw.onEntry _ (by nofun)).freeBuffer _).checkFlow.faultClear t).closeStranded _).flushEnd ..
theorem State.Meets.strand (h : s.Meets k) (i t) : (s.strand i t).Meets k := by
  unfold State.strand
  exact ((((h.onEntry i (by nofun)).raise _).notify ..).flushEnd ..).onCommit _
theorem State.Meets.countAttempt (h : s.Meets k) (c t) : (s.countAttempt c t).Meets k := by
  unfold State.countAttempt
  dsimp only
  split
  · exact ((h.onEntry _).onEntry _ (by nofun)).onCommit _
  · exact (h.onEntry _).strand ..
theorem State.Meets.writeFailure (h : s.Meets k) (t x) : (s.writeFailure t x).Meets k := by
  have hw := h.onTarget_erase t
    (f := fun k => { k.setExtent x .bad with xfer := none, writeFails := satAdd Config.max32 k.writeFails 1 }) rfl
  unfold State.writeFailure
  dsimp only
  split
  · exact (hw.faultUp t).pokeErase t
  · exact (((hw.onEntry _).faultUp t).countAttempt ..).pokeErase t
theorem State.Meets.readComplete (h : s.Meets k) (t) : (s.readComplete t).Meets k := by
  unfold State.readComplete
  exact (((h.onTarget_erase t (by rfl)).faultClear t).imageRead).pokeErase t
theorem State.Meets.readFail (h : s.Meets k) (t c) : (s.readFail t c).Meets k := by
  have hx := h.onTarget_erase t (f := fun k => { k with xfer := none }) rfl
  unfold State.readFail
  dsimp only
  split
  · exact (hx.finishRequest _).pokeErase t
  · exact (((hx.onTarget_erase t (by rfl)).faultUp t).finishRequest _).pokeErase t
theorem State.Meets.beginWrite (h : s.Meets k) (t) : (s.beginWrite t).Meets k := by
  unfold State.beginWrite
  split
  · split
    · exact h.onTarget_erase t (by rfl)
    · exact h
  · exact h
theorem State.Meets.beginRead (h : s.Meets k) (t j) : (s.beginRead t j).Meets k := by
  unfold State.beginRead
  split
  · exact (h.onTarget_erase t (by rfl)).onAudit fun hs => hs
  · exact h
theorem State.Meets.arbiterBegin (h : s.Meets k) (t) : (arbiterBegin t s).Meets k := by
  unfold Machine.arbiterBegin
  dsimp only
  split
  · exact h
  · split
    · exact h.beginWrite t
    · split
      · exact h.beginRead ..
      · split
        · exact h.onTarget t Target.budgeted_issueErase
        · exact h
theorem State.Meets.removeErased (h : s.Meets k) (t e x) : (s.removeErased t e x).Meets k := by
  unfold State.removeErased
  exact (h.onTarget t fun _ => Target.budgeted_of_erase_none rfl).filterDir _
theorem State.Meets.eraseCompletes (h : s.Meets k) (t) : (s.eraseCompletes t).Meets k := by
  unfold State.eraseCompletes
  split
  · exact (((h.removeErased ..).onTarget_erase t (by rfl)).faultClear t).onExpiry _
  · exact h
theorem State.Meets.eraseFails (h : s.Meets k) (t c) : (s.eraseFails t c).Meets k := by
  unfold State.eraseFails
  split
  · exact ((((h.removeErased ..).onTarget_erase t (by rfl)).raiseAll _).faultUp t).onExpiry _
  · exact h

/-! ### Scans, the rebuild and the Record Coder's commands -/

theorem State.Meets.scanFinish (h : s.Meets k) (t c) : (s.scanFinish t c).Meets k := by
  have hon := (h.onTarget_erase t (f := fun k => { k with scan := none }) rfl).enterOnline t
  unfold State.scanFinish
  dsimp only
  split
  · exact hon
  · exact hon.complete _

/-- The rebuild settles the days of its entries (R177). -/
theorem State.Meets.settleDays (h : s.Meets k) (hk : k.Scans) (d : List SegEntry) :
    (s.onTracker fun x => { x with settled := settleDays d x.settled }).Meets k := by
  induction d generalizing s with
  | nil => exact h
  | cons e d ih => exact ih (h.settleFlag hk e.day)

theorem State.Meets.rebuildTables (h : s.Meets k) (hk : k.Scans) (ts) : (s.rebuildTables ts).Meets k := by
  unfold State.rebuildTables
  exact State.Meets.settleDays (State.Meets.onBuilder (h.foldl _ fun s t h =>
    (h.onTarget_erase t (by rfl)).enterOnline t) _) hk _
theorem State.Meets.rebuildEnd (h : s.Meets k) (hk : k.Scans) : s.rebuildEnd.Meets k := by
  have hend (ts e) := (((h.rebuildTables hk ts).raise e).setEngine .running).checkFlow
  unfold State.rebuildEnd
  dsimp only
  split
  · exact (hend ..).notify ..
  · exact ((hend ..).notify ..).completeWith ..
theorem State.Meets.readUnitZero (h : s.Meets k) (t n) : (s.onTarget t (Target.readUnitZero n)).Meets k :=
  h.onTarget_erase t (Target.erase_readUnitZero _ _)
theorem State.Meets.scanNext (h : s.Meets k) (hk : k.Scans) (t) : (s.scanNext t).Meets k := by
  unfold State.scanNext
  split
  · exact h
  · next c _ =>
    have hn := h.onTarget_erase t
      (f := fun k => { k with scan := some { c with extent := c.extent + 1, buf := [] }, xfer := none }) rfl
    dsimp only
    split
    · split
      · split
        · exact hn.rebuildEnd hk
        · exact hn
      · exact hn.scanFinish ..
    · exact hn.readUnitZero ..
theorem State.Meets.scanToCoder (h : s.Meets k) (t) : (s.scanToCoder t).Meets k := by
  unfold State.scanToCoder
  exact (h.onTarget_erase t (by rfl)).onCoder _
theorem State.Meets.scanUnitZero (h : s.Meets k) (hk : k.Scans) (t c x d) : (s.scanUnitZero t c x d).Meets k := by
  have hb := h.onTarget_erase t (f := fun k => { k with scan := some { c with buf := d } }) rfl
  unfold State.scanUnitZero
  dsimp only
  split
  · exact (h.onTarget_erase t (by rfl)).scanNext hk t
  · split
    · exact h.scanNext hk t
    · split
      · exact hb.scanToCoder t
      · exact hb.onTarget_erase t (by rfl)
theorem State.Meets.scanAccept (h : s.Meets k) (hk : k.Scans) (t x d) : (s.scanAccept t x d).Meets k := by
  unfold State.scanAccept
  split
  · exact h
  · next c _ =>
    have hb := h.onTarget_erase t (f := fun k => { k with scan := some { c with buf := c.buf ++ d } }) rfl
    dsimp only
    split
    · exact h.scanUnitZero hk ..
    · split
      · exact hb.onTarget_erase t (by rfl)
      · exact hb.scanToCoder t
theorem State.Meets.makeEntry (h : s.Meets k) (t x) {e : SegEntry} (he : e.state = .stored) :
    (s.makeEntry t e x).Meets k := by
  unfold State.makeEntry
  exact (h.insertEntry (by simp [he])).onTarget_erase t (by rfl)
theorem State.Meets.rebuildEntry (h : s.Meets k) (t x) {e : SegEntry} (he : e.state = .stored) :
    (s.rebuildEntry t e x).Meets k := by
  unfold State.rebuildEntry
  split
  · exact h.makeEntry t x he
  · split
    · exact h
    · split
      · exact ((h.removeEntry _).onTarget_erase _ (by rfl)).makeEntry t x he
      · exact h
theorem State.Meets.runningEntry (h : s.Meets k) (hk : k.Scans) (t x) {e : SegEntry} (he : e.state = .stored) :
    (s.runningEntry t e x).Meets k := by
  unfold State.runningEntry
  dsimp only
  split
  · exact h
  · split
    · exact (h.makeEntry t x he).onBuilder _
    · exact ((h.makeEntry t x he).onBuilder _).settleFlag hk _
theorem State.Meets.scanWalked (h : s.Meets k) (hk : k.Scans) (t) : (s.scanWalked t).Meets k := by
  unfold State.scanWalked
  split
  · exact h
  · refine State.Meets.scanNext ?_ hk t
    split
    · exact h
    · dsimp only
      split
      · exact h.rebuildEntry t _ rfl
      · exact h.runningEntry hk t _ rfl
theorem State.Meets.decodeActivate (h : s.Meets k) : (decodeActivate s).Meets k := by
  unfold Machine.decodeActivate
  split
  · split
    · exact h.finishRequest _
    · split
      · exact h.finishRequest _
      · split
        · exact h
        · split
          · exact h.finishRequest _
          · split
            · exact h
            · exact ((h.onAudit fun hs => hs).onTarget_erase _ (by rfl)).pokeErase _
  · exact h
theorem State.Meets.decodeComplete (h : s.Meets k) (hk : k.Scans) : (decodeComplete s).Meets k := by
  unfold Machine.decodeComplete
  split
  · exact h
  · exact (h.onCoder _).decodeResult
  · exact (h.onCoder _).scanWalked hk _

/-! ### Answers and timers of the targets -/

theorem State.Meets.unexpectedAnswer (h : s.Meets k) (t) : (s.unexpectedAnswer t).Meets k := h.onTarget_erase t rfl
theorem State.Meets.lateAnswer (h : s.Meets k) (t) : (s.lateAnswer t).Meets k := by
  unfold State.lateAnswer
  split
  · exact h.unexpectedAnswer t
  · exact h.onTarget_erase t rfl
theorem State.Meets.answered (h : s.Meets k) (t a) {u : State} (hu : u.Meets k) : (s.answered t a u).Meets k := by
  unfold State.answered
  split
  · exact hu
  · exact h.lateAnswer t
  · exact h.unexpectedAnswer t
theorem State.Meets.nextBeat (h : s.Meets k) (t x) : (s.nextBeat t x).Meets k := h.onTarget_erase t rfl
theorem State.Meets.readBeat (h : s.Meets k) (t x d) : (s.readBeat t x d).Meets k := by
  have hb := h.onAudit (f := fun a => { a with readBuffer := a.readBuffer ++ d }) fun hs => hs
  unfold State.readBeat
  dsimp only
  split
  · exact h.readFail ..
  · split
    · exact hb.nextBeat ..
    · exact hb.readComplete t
theorem State.Meets.writeBeat (h : s.Meets k) (t x) : (s.writeBeat t x).Meets k := by
  unfold State.writeBeat
  split
  · exact h.nextBeat ..
  · exact h.writeSuccess ..
theorem State.Meets.acceptBeat (h : s.Meets k) (hk : k.Scans) (t d) : (s.acceptBeat t d).Meets k := by
  unfold State.acceptBeat
  split
  · exact h.unexpectedAnswer t
  · split
    · exact h.writeBeat ..
    · split
      · exact h.readBeat ..
      · exact h.unexpectedAnswer t
    · split
      · exact h.scanAccept hk ..
      · exact h.unexpectedAnswer t
theorem State.Meets.failBeat (h : s.Meets k) (hk : k.Scans) (t x c) : (s.failBeat t x c).Meets k := by
  unfold State.failBeat
  split
  · exact h.writeFailure ..
  · exact h.readFail ..
  · exact h.scanNext hk t
theorem State.Meets.errorBeat (h : s.Meets k) (hk : k.Scans) (t) : (s.errorBeat t).Meets k := by
  unfold State.errorBeat
  split
  · exact h.unexpectedAnswer t
  · exact h.failBeat hk ..
theorem State.Meets.beatAccept (h : s.Meets k) (hk : k.Scans) (t a d) : (beatAccept t a d s).Meets k := h.answered t a (h.acceptBeat hk ..)
theorem State.Meets.beatError (h : s.Meets k) (hk : k.Scans) (t a) : (beatError t a s).Meets k := h.answered t a (h.errorBeat hk t)
theorem State.Meets.countExpired (h : s.Meets k) (t) : (s.countExpired t).Meets k := h.onTarget_erase t rfl
theorem State.Meets.ackTimerExpiry (h : s.Meets k) (hk : k.Scans) (t x) : (ackTimerExpiry t x s).Meets k := by
  unfold Machine.ackTimerExpiry
  split
  · split
    · exact h
    · exact (h.countExpired t).failBeat hk ..
  · split
    · exact (h.countExpired t).eraseFails ..
    · exact h
theorem State.Meets.eraseTimerExpiry (h : s.Meets k) (t) : (eraseTimerExpiry t s).Meets k := by
  unfold Machine.eraseTimerExpiry
  split
  · exact h.eraseFails ..
  · exact h
theorem State.Meets.eraseDone (h : s.Meets k) (t a) : (eraseDone t a s).Meets k := by
  refine h.answered t a ?_
  split
  · exact h.eraseCompletes t
  · exact h.unexpectedAnswer t
theorem State.Meets.eraseError (h : s.Meets k) (t a) : (eraseError t a s).Meets k := by
  refine h.answered t a ?_
  split
  · exact h.eraseFails ..
  · exact h.unexpectedAnswer t
theorem State.Meets.targetSuspended (h : s.Meets k) (t a) : (targetSuspended t a s).Meets k := by
  refine h.answered t a ?_
  unfold State.takeSuspended
  split
  · exact h.unexpectedAnswer t
  · next he =>
    split
    · next hx => exact (h.onTarget t fun hb => Target.budgeted_suspendedBy hb he hx).pokeErase t
    · exact h.unexpectedAnswer t
theorem State.Meets.targetResumed (h : s.Meets k) (t a) : (targetResumed t a s).Meets k := by
  refine h.answered t a ?_
  unfold State.takeResumed
  split
  · exact h.unexpectedAnswer t
  · next x he =>
    split
    · refine (h.onTarget t fun hb => ?_).pokeErase t
      have hx : x.budgeted = true := by simpa [Target.budgeted, he] using hb
      exact EraseSlot.budgeted_of_suspends_eq (y := { x with state := .running }) hx rfl nofun
    · exact h.unexpectedAnswer t
theorem State.Meets.tick (h : s.Meets k) : s.tick.Meets k := h.mapTargets fun _ => Target.budgeted_tick

/-! ### Expiry Engine -/

theorem State.Meets.endPass (h : s.Meets k) (p c a n) : (s.endPass p c a n).Meets k := (h.onExpiry _).notify ..
theorem State.Meets.startSweep (h : s.Meets k) (o) : (s.startSweep o).Meets k := by
  unfold State.startSweep
  split
  · exact h.endPass ..
  · exact h.onExpiry _
theorem State.Meets.startScrub (h : s.Meets k) (o) : (s.startScrub o).Meets k := (h.queueScrubs _).endPass ..
theorem State.Meets.startPass (h : s.Meets k) (x o) : (s.startPass x o).Meets k := by
  unfold State.startPass
  split
  · exact h.startSweep o
  · exact h.startScrub o
theorem State.Meets.sweepTimerMatch (h : s.Meets k) : (sweepTimerMatch s).Meets k := by
  unfold Machine.sweepTimerMatch
  split
  · exact h
  · split
    · exact h.onExpiry _
    · split
      · exact h.onExpiry _
      · exact (h.onExpiry _).startPass ..

theorem Target.erase_coalesce (g) (t : Target) : (t.coalesce g).erase = t.erase := Target.setExtents_erase ..

/-- The entry made EXPIRING is one of those that may be. -/
theorem State.Meets.expire (h : s.Meets k) (t x) {e : SegEntry} (he : k.expiring e.id) : (s.expire e t x).1.Meets k := by
  have hdir : (s.onEntry e.id fun y => { y with state := .expiring }).Meets k :=
    { h with
      expiring := by
        intro e' he' hs
        obtain ⟨y, hy, rfl⟩ := (mem_updateEntry ..).mp he'
        split at hs
        · next hid => rw [if_pos hid]; exact hid ▸ he
        · next hid => rw [if_neg hid]; exact h.expiring y hy hs }
  have hq := hdir.onTarget_erase t (f := fun k => { k with queue := k.queue ++ [.single x e.id] }) rfl
  unfold State.expire
  dsimp only
  split
  · exact hq.onTarget_erase t (Target.erase_coalesce ..)
  · exact hq

/-- An entry the tests of R119 keep for no reason may expire. -/
theorem State.mayExpire_of_keepReason {s : State} {oldest : Option Nat} {e : SegEntry}
    (h : (if e.hasFirm then s.keepReason oldest e else none) = none) : s.mayExpire oldest e := by
  by_cases hf : e.hasFirm = true
  · right
    rw [if_pos hf] at h
    unfold State.keepReason at h
    dsimp only at h
    split_ifs at h with h1 h2 h3 h4 h5 h6
    refine ⟨fun h0 => h1 (.inl h0), ?_, by simpa using h2, by simpa using h3, by omega,
      eq_false_of_ne_true h5, ?_⟩
    · exact not_lt.mp fun hlt => h1 (.inr hlt)
    · intro x hx
      simp only [State.heldBy, List.any_eq_true, not_exists, not_and] at h6
      simpa [Hold.covers, and_assoc] using h6 x hx
  · left
    simpa [SegEntry.hasFirm] using hf

theorem State.Meets.examine {t : State} {p : Pass} {e : SegEntry} {c} (h : s.Meets k)
    (he : e.state = .stored → s.mayExpire p.oldest e → k.expiring e.id) (ht : s.examine p e = .counted t c) :
    t.Meets k := by
  unfold State.examine at ht
  split at ht
  · next hst hplace =>
    split at ht
    · cases ht; exact h
    · split at ht
      · cases ht; exact h
      · next hnone =>
        split at ht
        · cases ht
        · cases ht; exact h.expire _ _ (he hst (State.mayExpire_of_keepReason hnone))
  · cases ht; exact h

theorem State.Meets.afterExamination (h : s.Meets k) (p i w c) : (s.afterExamination p i w c).Meets k := by
  unfold State.afterExamination
  dsimp only
  split
  · exact (h.onExpiry _).endPass ..
  · split
    · exact (h.onExpiry _).endPass ..
    · exact h.onExpiry _

/-- The walk meets entries of the Directory. -/
theorem State.mem_of_walkNext {s : State} {p : Pass} {e w} (h : s.walkNext p = .entry e w) : e ∈ s.dir := by
  have hmeet {x y : SegEntry} {v w : Bool} (hm : p.meet x v = .entry y w) : y = x := by
    unfold Pass.meet at hm
    split at hm
    · cases hm
    · cases hm; rfl
  unfold State.walkNext at h
  split at h
  · cases h
  · next low rest hdir =>
    split at h
    · next hat => exact hmeet h ▸ List.mem_of_find?_eq_some hat
    · split at h
      · cases h
      · rw [hmeet h, hdir]; exact List.mem_cons_self

theorem State.Meets.sweepExamination (h : s.Meets k)
    (hx : ∀ p e, s.expiry.pass = some p → e ∈ s.dir → e.state = .stored → s.mayExpire p.oldest e → k.expiring e.id) :
    (sweepExamination s).Meets k := by
  unfold Machine.sweepExamination
  split
  · exact h
  · next p hp =>
    split
    · exact h.endPass ..
    · next e w hwalk =>
      split
      · exact (h.onExpiry _).endPass ..
      · next ht =>
        exact (h.examine (hx p e hp (State.mem_of_walkNext hwalk)) ht).afterExamination ..

/-! ### Hold Store and archive clock -/

theorem State.Meets.applyRescue (h : s.Meets k) (t r) : (s.applyRescue t r).Meets k := by
  unfold State.applyRescue
  refine (h.onTarget_erase t (Target.setExtents_erase ..)).mapDir (fun e hs => ?_) (fun e => ?_)
  · split at hs
    · cases hs
    · exact hs
  · split <;> rfl
theorem State.Meets.rescueTarget (h : s.Meets k) (covers t) : (State.rescueTarget covers s t).1.Meets k := by
  unfold State.rescueTarget
  exact (h.onTarget_erase t (by rfl)).applyRescue ..
theorem State.Meets.rescue (h : s.Meets k) (covers) : (s.rescue covers).1.Meets k := by
  have hfold (l : List TargetNo) (a : State × Figures) (ha : a.1.Meets k) :
      (l.foldl (fun a t => ((State.rescueTarget covers a.1 t).1, a.2.plus (State.rescueTarget covers a.1 t).2)) a).1.Meets
        k := by
    induction l generalizing a with
    | nil => exact ha
    | cons t l ih => exact ih _ (ha.rescueTarget covers t)
  exact hfold _ _ h
theorem State.Meets.holdReport (h : s.Meets k) (op ok) : (s.holdReport op ok).Meets k := by
  unfold State.holdReport
  dsimp only
  split
  all_goals first | exact h.completeWith .. | exact h.notify ..
theorem State.Meets.holdProgramEnd (h : s.Meets k) (ok) : (holdProgramEnd ok s).Meets k := by
  unfold Machine.holdProgramEnd
  split
  · exact h
  · exact ((h.onHold _).holdReport ..).onHold _
theorem State.Meets.protectLineChange (h : s.Meets k) (v) : (protectLineChange v s).Meets k := by
  unfold Machine.protectLineChange
  dsimp only
  split
  · exact h
  · exact (h.onHold _).notify ..
theorem State.Meets.advanceTo (h : s.Meets k) (t) : (s.advanceTo t).Meets k := by
  unfold State.advanceTo
  dsimp only
  split
  · split
    · exact ((h.onClock _).onHold _).onExpiry _
    · exact (h.onClock _).onExpiry _
  · split
    · exact (h.onClock _).onHold _
    · exact h.onClock _
theorem State.Meets.clockSecond (h : s.Meets k) : (clockSecond s).Meets k := by
  unfold Machine.clockSecond
  split
  · split
    · exact h
    · exact h.advanceTo _
  · exact h
  · exact h.onClock _
  · exact h
theorem State.Meets.holdRemainderEnd (h : s.Meets k) : (holdRemainderEnd s).Meets k := by
  unfold Machine.holdRemainderEnd
  split
  · exact h.onClock _
  · exact h
theorem State.Meets.closeDeadlineReached (h : s.Meets k) (hk : k.Closes) (d) : (closeDeadlineReached d s).Meets k := by
  unfold Machine.closeDeadlineReached
  split
  · split
    · exact h.closeDay hk d
    · exact h
  · exact h
theorem State.Meets.setForward (h : s.Meets k) (hk : k.Closes) (t) : (s.setForward t).1.Meets k := by
  have hl (ls) : ((s.setReading t).expireLanes ls).Meets k :=
    State.Meets.foldl (h.onClock _) _ fun _ l h => h.abortFile l .stalled
  have hd (ls ds) : (((s.setReading t).expireLanes ls).closeDays ds).Meets k :=
    (hl ls).foldl _ fun _ d h => h.closeDay hk d
  unfold State.setForward
  dsimp only
  split
  · split
    · exact ((hd ..).onHold _).onExpiry _
    · exact (hd ..).onExpiry _
  · split
    · exact (hd ..).onHold _
    · exact hd ..

/-! ### Intake link -/

theorem State.Meets.fileArrives (h : s.Meets k) (l b) : (s.fileArrives l b).Meets k := by
  unfold State.fileArrives
  dsimp only
  split
  · exact (h.onLane ..).onPort _
  · exact ((h.onLane ..).onPort _).onLane ..
theorem State.Meets.directiveArrives (h : s.Meets k) (d) : (s.directiveArrives d).Meets k := by
  unfold State.directiveArrives
  split
  · exact h.onPort _
  · split
    · exact (h.onPort _).answer ..
    · exact h.onPort _
theorem State.Meets.resetLanes (h : s.Meets k) : s.resetLanes.Meets k := by
  unfold State.resetLanes State.abortAll
  exact (((h.onAsm _).onPort _).foldl _ fun _ l h => h.abortFile l .reset).onAsm _
theorem State.Meets.cutOff (h : s.Meets k) : s.cutOff.Meets k := by
  unfold State.cutOff
  dsimp only
  split
  · exact (h.onNotices _).onPort _
  · exact h.onPort _
theorem State.Meets.intakeReset (h : s.Meets k) : s.intakeReset.Meets k := (h.onPort _).resetLanes.cutOff.queueFlow
theorem State.Meets.routeArrival (h : s.Meets k) (a) : (s.routeArrival a).Meets k := by
  unfold State.routeArrival
  dsimp only
  split
  · exact (h.onPort _).fileArrives ..
  · exact (h.onPort _).directiveArrives _
  · exact (h.onPort _).intakeReset
theorem State.Meets.frameArrival (h : s.Meets k) (o) : (frameArrival o s).Meets k := by
  unfold Machine.frameArrival
  split
  · exact h
  · split
    · exact h.onPort _
    · exact h.onPort _
    · exact h.onPort _
    · exact h.routeArrival _
theorem State.Meets.linkReset (h : s.Meets k) : (Machine.linkReset s).Meets k := by
  unfold Machine.linkReset
  split
  · exact h
  · exact h.routeArrival _
theorem State.Meets.linkLoss (h : s.Meets k) : (linkLoss s).Meets k := by
  unfold Machine.linkLoss
  split
  · exact h
  · exact ((h.onPort _).onPort _).intakeReset
theorem State.Meets.beginAfterFlow (h : s.Meets k) : s.beginAfterFlow.Meets k := by
  unfold State.beginAfterFlow State.beginRecords
  split
  · exact h.onPort _
  · split
    · unfold State.beginNotice
      exact (h.onNotices _).onPort _
    · split
      · exact h
      · exact h.onPort _
theorem State.Meets.returnFrameBegin (h : s.Meets k) : (returnFrameBegin s).Meets k := by
  unfold Machine.returnFrameBegin
  split
  · split
    · exact h.onPort _
    · exact h.beginAfterFlow
  · exact h
theorem State.Meets.recordsSent (h : s.Meets k) : s.recordsSent.Meets k := by
  have ha := h.onAudit (f := fun a => { a with output := a.output.tail }) fun hs => hs
  unfold State.recordsSent
  dsimp only
  split
  · exact ha.dequeueRequest
  · exact ha
theorem State.Meets.returnFrameSent (h : s.Meets k) : (returnFrameSent s).Meets k := by
  have hs := (h.onPort fun p => { p with counters := { p.counters with sent := up p.counters.sent } }).onPort
    fun p => { p with sending := none }
  unfold Machine.returnFrameSent
  split
  · exact h
  · dsimp only
    split
    · exact hs
    · exact hs
    · split
      · exact hs.onPort _
      · exact hs
    · split
      · exact hs.recordsSent
      · exact hs

/-! ### The engine reset -/

theorem State.Meets.resetCommit (h : s.Meets k) : s.resetCommit.Meets k := by
  unfold State.resetCommit
  split
  · exact h
  · dsimp only
    split
    · exact ((h.onTarget_erase _ (by rfl)).onEntry _ (by nofun)).onCommit _
    · exact (h.onEntry _ (by nofun)).onCommit _
theorem State.Meets.rescueHead (h : s.Meets k) (t) : (s.rescueHead t).Meets k := by
  unfold State.rescueHead
  split
  · exact h
  · exact (h.onTarget_erase t (by rfl)).applyRescue ..
theorem State.Meets.resetTarget (h : s.Meets k) (t) : (s.resetTarget t).Meets k := by
  have hr := (h.onTarget t fun _ => Target.budgeted_unissue).onTarget_erase t (f := Target.resetLink) rfl
  unfold State.resetTarget
  dsimp only
  split
  · exact hr.rescueHead t
  · exact hr
theorem State.Meets.restartScan (h : s.Meets k) (t) : (s.restartScan t).Meets k := by
  unfold State.restartScan
  split
  · exact h
  · exact (h.filterDir _).onTarget_erase t (Target.erase_startScan ..)
theorem State.Meets.emptyDir (h : s.Meets k) : (s.onDir fun _ => []).Meets k := h.onDir (by simp)
theorem State.Meets.abandonRebuild (h : s.Meets k) : s.abandonRebuild.Meets k := by
  unfold State.abandonRebuild
  exact ((State.Meets.mapTargets (f := Target.discard) (h.setEngine _).emptyDir fun _ hx => hx).onBuilder _).onExpiry _
theorem State.Meets.resetEngine (h : s.Meets k) : s.resetEngine.Meets k := by
  unfold State.resetEngine
  split
  · exact h
  · exact h.abandonRebuild
  · exact h.foldl _ fun _ t h => h.restartScan t
theorem State.Meets.resetAudit (h : s.Meets k) : s.resetAudit.Meets k := by
  unfold State.resetAudit
  exact ((h.onAudit fun hs => hs).onCoder _).mapDir
theorem State.Meets.resetTargets (h : s.Meets k) : s.resetTargets.Meets k :=
  h.foldl _ fun _ t h => h.resetTarget t
theorem State.Meets.resetPort (h : s.Meets k) : s.resetPort.Meets k := (h.onPort _).setCurrent none
theorem State.Meets.resetFlow (h : s.Meets k) : s.resetFlow.Meets k := (h.onPort _).queueFlow
theorem State.Meets.engineReset (h : s.Meets k) : s.engineReset.Meets k := by
  have haudit := ((h.resetPort.onNotices fun n => { n with sources := n.sources.map .clear }).onBuilder
    fun b => { b with flush := none }).resetAudit
  exact ((haudit.resetLanes.resetCommit.resetTargets.resetEngine).onExpiry _).resetFlow

end

end Sys2Proof.Machine
end

section
/-! What every command keeps, and the invariants of all steps: the directives' part of the lemmas, and O27, O38, O56. -/

namespace Sys2Proof.Machine

/-! ### What a directive comes to (R161) -/

/-- The decoder takes nothing, or it takes the head of its queue and works on it. -/
theorem State.onDirective_cases (s : State) (p work) :
    s.onDirective p work = s
    ∨ ∃ d, s.current = none ∧ s.onDirective p work = (work d (s.takeDirective d)).setCurrent none := by
  unfold State.onDirective
  split
  · exact .inl rfl
  · next d rest _ =>
    split
    · next hfree =>
      have hc : s.current = none := by
        have := hfree.1
        simp only [State.decoderFree, Bool.and_eq_true, Option.isNone_iff_eq_none] at this
        exact this.1
      exact .inr ⟨d, hc, rfl⟩
    · exact .inl rfl

/-- A directive of the catalogue is not taken, or is answered REFUSED_RANGE unread, or is read and worked on. -/
theorem State.directive_cases {α : Type} (s : State) (code) (read : List Byte → Option α) (work) :
    s.directive code read work = s
    ∨ ∃ d, s.current = none ∧
      (s.directive code read work = ((s.takeDirective d).answer d.tag .refusedRange []).setCurrent none
      ∨ ∃ a, read d.payload = some a ∧
        s.directive code read work = (work d.tag a (s.takeDirective d)).setCurrent none) := by
  unfold State.directive
  rcases s.onDirective_cases (· = code) (fun d s =>
    match read d.payload with
    | none => s.answer d.tag .refusedRange []
    | some a => work d.tag a s) with h | ⟨d, hc, h⟩
  · exact .inl h
  · refine .inr ⟨d, hc, ?_⟩
    cases ha : read d.payload with
    | none => exact .inl (h.trans (by simp only [ha]))
    | some a => exact .inr ⟨a, rfl, h.trans (by simp only [ha])⟩

section

variable {s : State} {k : Standing}

theorem State.Meets.takeDirective (h : s.Meets k) (d) : (s.takeDirective d).Meets k := (h.onPort _).setCurrent _

theorem State.Meets.onDirective (h : s.Meets k) {p} {work : Directive → State → State}
    (hw : ∀ d u, u.Meets k → (work d u).Meets k) : (s.onDirective p work).Meets k := by
  rcases s.onDirective_cases p work with hs | ⟨d, -, hs⟩ <;> rw [hs]
  · exact h
  · exact (hw d _ (h.takeDirective d)).setCurrent none

theorem State.Meets.directive {α : Type} (h : s.Meets k) {code} {read : List Byte → Option α}
    {work : Tag → α → State → State} (hw : ∀ tag a u, u.Meets k → (work tag a u).Meets k) :
    (s.directive code read work).Meets k := by
  refine h.onDirective fun d u hu => ?_
  split
  · exact hu.answer ..
  · exact hw _ _ u hu

/-! ### The directives that set up the part -/

theorem State.Meets.directiveUnknown (h : s.Meets k) : (directiveUnknown s).Meets k :=
  h.onDirective fun _ _ hu => (hu.onPort _).answer ..
theorem State.Meets.clockTo (h : s.Meets k) (hk : k.Closes) (tag t) : (State.clockTo tag t s).Meets k := by
  unfold State.clockTo
  split
  · split
    · exact (h.setForward hk t).answer ..
    · split
      · exact (h.onClock _).answer ..
      · exact h.refuse ..
  · exact (h.setForward hk t).answer ..
theorem State.Meets.setClock (h : s.Meets k) (hk : k.Closes) : (setClock s).Meets k :=
  h.directive fun tag t u hu => by
    split
    · exact hu.refuse ..
    · exact hu.clockTo hk ..
theorem State.Meets.loadSources (h : s.Meets k) : (loadSources s).Meets k :=
  h.directive fun tag l u hu => by
    split
    · exact (hu.foldl _ fun _ _ h => h.onSource ..).answer ..
    · exact hu.refuse ..
theorem State.Meets.loadTypeMap (h : s.Meets k) : (loadTypeMap s).Meets k :=
  h.directive fun tag l u hu => by
    split
    · exact (hu.onTables _).answer ..
    · exact hu.refuse ..
theorem State.Meets.applyClass (h : s.Meets k) (i) : (s.applyClass i).Meets k := by
  unfold State.applyClass
  dsimp only
  split
  · exact h.onTables _
  · exact (h.sealAll ..).onTables _
theorem State.Meets.loadClasses (h : s.Meets k) : (loadClasses s).Meets k :=
  h.directive fun tag l u hu => by
    split
    · exact (hu.foldl _ fun _ _ h => h.applyClass _).answerClamped ..
    · exact hu.refuse ..
theorem State.Meets.loadDictionary (h : s.Meets k) : (loadDictionary s).Meets k :=
  h.directive fun tag d u hu => by
    split
    · exact ((hu.sealAll ..).onTables _).answer ..
    · exact hu.refuse ..
theorem State.Meets.applyTarget (h : s.Meets k) (tag p t) : (s.applyTarget tag p t).Meets k := by
  unfold State.applyTarget
  split
  · exact h.refuse ..
  · exact (h.onTarget_erase t (by rfl)).putReply _
  · exact (h.reserve tag).onTarget_erase t (Target.erase_startScan ..)
  · exact h.refuse ..
  · split
    · exact (h.onTarget_erase t (by rfl)).putReply _
    · exact h.refuse ..
theorem State.Meets.loadTarget (h : s.Meets k) : (loadTarget s).Meets k :=
  h.directive fun tag p u hu => by
    split
    · exact hu.applyTarget ..
    · exact hu.refuse ..
theorem State.Meets.applySetTarget (h : s.Meets k) (tag t o) : (s.applySetTarget tag t o).Meets k := by
  unfold State.applySetTarget
  split
  · exact h.refuse ..
  · exact h.refuse ..
  · exact (h.onTarget_erase t (by rfl)).answer ..
  · exact (h.enterOnline t).answer ..
  · exact (h.enterOnline t).answer ..
  · exact h.answer ..
  · exact (h.goOffline t).answer ..
  · exact (h.goOffline t).answer ..
theorem State.Meets.setTarget (h : s.Meets k) : (setTarget s).Meets k :=
  h.directive fun tag p u hu => by
    split
    · exact hu.applySetTarget ..
    · exact hu.refuse ..
theorem State.Meets.setDayPolicy (h : s.Meets k) : (setDayPolicy s).Meets k :=
  h.directive fun _ _ _ hu => State.Meets.answerClamped (hu.of_eq (t := State.onTracker _ _) rfl rfl rfl rfl rfl) ..
theorem State.Meets.setSweep (h : s.Meets k) : (setSweep s).Meets k :=
  h.directive fun _ _ _ hu => (hu.onExpiry _).answerClamped ..
theorem State.Meets.setNotices (h : s.Meets k) : (setNotices s).Meets k :=
  h.directive fun _ _ _ hu => (hu.onNotices _).answer ..
theorem State.Meets.setGuard (h : s.Meets k) : (setGuard s).Meets k :=
  h.directive fun tag g u hu => by
    split
    · exact hu.refuse ..
    · split
      · exact hu.refuse ..
      · unfold State.acceptGuard
        exact (((hu.reserve tag).onHold _).rescue _).onHold _
theorem State.Meets.addHold (h : s.Meets k) : (addHold s).Meets k :=
  h.directive fun tag x u hu => by
    split
    · exact hu.refuse ..
    · split
      · exact hu.refuse ..
      · split
        · exact hu.refuse ..
        · split
          · exact hu.refuse ..
          · unfold State.acceptHold
            exact (((hu.reserve tag).onHold _).rescue _).onHold _
theorem State.Meets.dropHold (h : s.Meets k) : (dropHold s).Meets k :=
  h.directive fun tag x u hu => by
    split
    · exact hu.refuse ..
    · split
      · exact hu.refuse ..
      · split
        · exact hu.refuse ..
        · split
          · exact hu.refuse ..
          · exact (hu.reserve tag).onHold _
theorem State.Meets.setProtectMode (h : s.Meets k) : (setProtectMode s).Meets k :=
  h.directive fun tag p u hu => by
    split
    · exact hu.answer ..
    · split
      · exact hu.refuse ..
      · split
        · exact hu.refuse ..
        · exact (hu.reserve tag).onHold _

/-! ### The directives that operate the part -/

theorem State.Meets.startRebuild (h : s.Meets k) (tag) : (s.startRebuild tag).Meets k := by
  unfold State.startRebuild
  exact State.Meets.mapTargets ((((h.reserve tag).setEngine _).emptyDir).onBuilder _) fun x hx =>
    Target.budgeted_congr (Target.erase_startRebuild tag x) hx
theorem State.Meets.startArchive (h : s.Meets k) : (startArchive s).Meets k :=
  h.directive fun tag _ u hu => by
    split
    · exact hu.refuse ..
    · exact hu.startRebuild tag
theorem State.Meets.closeDayDirective (h : s.Meets k) (hk : k.Closes) : (closeDayDirective s).Meets k :=
  h.directive fun tag day u hu => by
    split
    · split
      · exact ((hu.reserve tag).closeDay hk day).completeWith ..
      · exact hu.refuse ..
    · split <;> exact hu.refuse ..
theorem State.Meets.applyWaive (h : s.Meets k) (p r) : (s.applyWaive p r).Meets k :=
  (((h.foldl _ fun _ _ h => h.onSlot ..).raiseAll _).testRetirement _).testSettlement _
theorem State.Meets.waive (h : s.Meets k) : (waive s).Meets k :=
  h.directive fun tag p u hu => by
    split
    · exact hu.refuse ..
    · split
      · exact hu.refuse ..
      · split
        · exact hu.refuse ..
        · split
          · exact hu.refuse ..
          · exact (hu.applyWaive ..).answer ..
theorem State.Meets.flushNow (h : s.Meets k) (tag p) : (s.flushNow tag p).Meets k := by
  unfold State.flushNow
  dsimp only
  split
  · exact ((h.reserve tag).sealAll ..).completeWith ..
  · split
    · exact ((h.reserve tag).sealAll ..).completeWith ..
    · exact ((h.reserve tag).sealAll ..).onBuilder _
theorem State.Meets.flush (h : s.Meets k) : (flush s).Meets k :=
  h.directive fun tag p u hu => by
    split
    · exact hu.refuse ..
    · split
      · exact hu.refuse ..
      · exact hu.flushNow ..
theorem State.Meets.passNow (h : s.Meets k) (tag x) : (s.passNow tag x).Meets k := by
  unfold State.passNow
  split
  · exact h.refuse ..
  · split
    · exact h.refuse ..
    · exact (h.startPass ..).answer ..
theorem State.Meets.sweepNow (h : s.Meets k) : (sweepNow s).Meets k := h.directive fun _ _ _ hu => hu.passNow ..
theorem State.Meets.scrubNow (h : s.Meets k) : (scrubNow s).Meets k := h.directive fun _ _ _ hu => hu.passNow ..
theorem State.Meets.request (h : s.Meets k) (tag x i f) : (s.request tag x i f).Meets k := by
  unfold State.request
  split
  · exact h.refuse ..
  · split
    · exact h.refuse ..
    · split
      · exact h.refuse ..
      · split_ifs
        · exact h.refuse ..
        · exact h.refuse ..
        · exact h.refuse ..
        · exact (h.reserve tag).queueRequest _
theorem State.Meets.verify (h : s.Meets k) : (verify s).Meets k := h.directive fun _ _ _ hu => hu.request ..
theorem State.Meets.retrieve (h : s.Meets k) : (retrieve s).Meets k := h.directive fun _ _ _ hu => hu.request ..
theorem State.Meets.retryCommits (h : s.Meets k) : (retryCommits s).Meets k :=
  h.directive fun _ _ _ hu => hu.returnStranded.answer ..
theorem State.Meets.clearSuspect (h : s.Meets k) : (clearSuspect s).Meets k :=
  h.directive fun tag i u hu => by
    split
    · exact hu.refuse ..
    · split
      · exact hu.refuse ..
      · next e _ =>
        split
        · exact ((hu.onEntry e.id).raise _).answer ..
        · exact hu.answer ..
theorem State.Meets.engineResetDirective (h : s.Meets k) : (engineResetDirective s).Meets k :=
  h.directive fun _ _ _ hu => hu.engineReset.answer ..
theorem State.Meets.intakeResetDirective (h : s.Meets k) : (intakeResetDirective s).Meets k :=
  h.directive fun _ _ _ hu => hu.intakeReset.answer ..

/-! ### The directives that query the part -/

/-- READ EVENTS takes at least one event, so EVENTS_LOST has room (R144). -/
theorem Audit.takeEvents_sound {a : Audit} (h : a.sound = true) {n : Nat} (hn : 1 ≤ n) (e) :
    (a.takeEvents n e).sound = true := by
  simp only [Audit.sound, Bool.and_eq_true, Bool.or_eq_true, decide_eq_true_eq] at h ⊢
  obtain ⟨hcap, hlost⟩ := h
  unfold Audit.takeEvents
  split
  · next hev =>
    have hpos : 0 < a.events.length := List.length_pos_iff.mpr hev.1
    simp only [List.length_append, List.length_drop, List.length_singleton]
    exact ⟨by omega, .inl trivial⟩
  · next hev =>
    simp only [List.length_drop]
    refine ⟨by omega, ?_⟩
    by_cases hnil : a.events = []
    · simp_all [Config.eventCap]
    · exact .inl (by have := mt (And.intro hnil) hev; omega)
theorem State.Meets.readEvents (h : s.Meets k) : (readEvents s).Meets k :=
  h.directive fun tag n u hu => by
    split
    · exact hu.refuse ..
    · next hn => exact (hu.onAudit fun hs => Audit.takeEvents_sound hs (by omega) _).answer ..
theorem State.Meets.readClock (h : s.Meets k) : (readClock s).Meets k := h.directive fun _ _ _ hu => hu.report ..
theorem State.Meets.readStatus (h : s.Meets k) : (readStatus s).Meets k := h.directive fun _ _ _ hu => hu.report ..
theorem State.Meets.readGapSummary (h : s.Meets k) : (readGapSummary s).Meets k :=
  h.directive fun _ _ _ hu => (hu.onAudit (f := fun a => { a with gaps := 0 }) fun hs => hs).answer ..
theorem State.Meets.readSegment (h : s.Meets k) : (readSegment s).Meets k :=
  h.directive fun tag i u hu => by
    split
    · exact hu.refuse ..
    · split
      · exact hu.refuse ..
      · exact hu.report ..
theorem State.Meets.readDay (h : s.Meets k) : (readDay s).Meets k :=
  h.directive fun tag i u hu => by
    split
    · exact hu.report ..
    · split
      · exact hu.report ..
      · exact hu.refuse ..
theorem State.Meets.readContinuity (h : s.Meets k) : (readContinuity s).Meets k :=
  h.directive fun tag i u hu => by
    split
    · exact hu.refuse ..
    · split
      · exact hu.report ..
      · exact hu.answer ..
theorem State.Meets.readTarget (h : s.Meets k) : (readTarget s).Meets k :=
  h.directive fun tag i u hu => by
    split
    · exact hu.refuse ..
    · exact hu.report ..
theorem State.Meets.readHolds (h : s.Meets k) : (readHolds s).Meets k := h.directive fun _ _ _ hu => hu.report ..
theorem State.Meets.readLink (h : s.Meets k) : (readLink s).Meets k :=
  h.directive fun tag c u hu => by
    dsimp only
    split
    · exact (hu.report ..).onPort _
    · exact hu.report ..

/-- POWER_ON starts every block anew: no day is settled, and none has an entry. -/
theorem State.Meets.powerOn (s : State) (hk : ∀ day, k.days day false none) : (powerOn s).Meets k where
  audit _ := rfl
  budget _ t := by
    have ht : (Machine.powerOn s).target t = Target.reset := by
      simp [Machine.powerOn, State.powerOnWith, State.target, vget]
    rw [ht]
    rfl
  expiring e he := nomatch he
  days day := by
    have hflag : (Machine.powerOn s).isSettled day = false := BitVec.getLsbD_zero
    rw [hflag]
    exact hk day

/-- What a claim must allow for a command to keep it: days that POWER_ON empties, that a FILE_OPEN opens, that a deadline or a
directive closes or that a scan settles, and the segments that a sweep examination makes EXPIRING. -/
structure Instr.Allowed (c : Instr) (s : State) (k : Standing) : Prop where
  anew : c = .powerOn → ∀ day, k.days day false none
  opens : c = .takeFileOpen → k.Opens
  closes : c ∈ [.closeDay, .setClock] ∨ (∃ n, c = .closeDeadlineReached n) → k.Closes
  scans : (c = .decodeComplete ∨ (∃ u a data, c = .beatAccept u a data) ∨ (∃ u a, c = .beatError u a)
    ∨ ∃ u x, c = .ackTimerExpiry u x) → k.Scans
  expires : c = .sweepExamination → ∀ p e, s.expiry.pass = some p → e ∈ s.dir → e.state = .stored →
    s.mayExpire p.oldest e → k.expiring e.id

/-- A command keeps what is claimed of the state. -/
theorem exec_next_meets (c : Instr) (h : s.Meets k) (hc : Instr.Allowed c s k) : ∃ t, exec c s = .next t ∧ t.Meets k := by
  cases c
  case powerOn => exact ⟨_, rfl, State.Meets.powerOn s (hc.anew rfl)⟩
  case resetInput => exact ⟨_, rfl, h.engineReset⟩
  case linkLoss => exact ⟨_, rfl, h.linkLoss⟩
  case linkUp => exact ⟨_, rfl, h.onPort _⟩
  case protectLineChange => exact ⟨_, rfl, h.protectLineChange _⟩
  case frameArrival => exact ⟨_, rfl, h.frameArrival _⟩
  case linkReset => exact ⟨_, rfl, h.linkReset⟩
  case takeFileOpen => exact ⟨_, rfl, h.takeFileOpen (hc.opens rfl)⟩
  case takeFileData => exact ⟨_, rfl, h.takeFileData⟩
  case takeFileClose => exact ⟨_, rfl, h.takeFileClose⟩
  case takeFileAbort => exact ⟨_, rfl, h.takeFileAbort⟩
  case overrunMarkTaken => exact ⟨_, rfl, h.overrunMarkTaken _⟩
  case stallEnd => exact ⟨_, rfl, h.stallEnd⟩
  case laneIdleTimerExpiry => exact ⟨_, rfl, h.laneIdleTimerExpiry _⟩
  case clockSecond => exact ⟨_, rfl, h.clockSecond⟩
  case holdRemainderEnd => exact ⟨_, rfl, h.holdRemainderEnd⟩
  case closeDeadlineReached => exact ⟨_, rfl, h.closeDeadlineReached (hc.closes (.inr ⟨_, rfl⟩)) _⟩
  case sweepTimerMatch => exact ⟨_, rfl, h.sweepTimerMatch⟩
  case sweepExamination => exact ⟨_, rfl, h.sweepExamination (hc.expires rfl)⟩
  case commitBegin => exact ⟨_, rfl, h.commitBegin⟩
  case arbiterBegin => exact ⟨_, rfl, h.arbiterBegin _⟩
  case beatAccept => exact ⟨_, rfl, h.beatAccept (hc.scans (.inr (.inl ⟨_, _, _, rfl⟩))) ..⟩
  case beatError => exact ⟨_, rfl, h.beatError (hc.scans (.inr (.inr (.inl ⟨_, _, rfl⟩)))) ..⟩
  case ackTimerExpiry => exact ⟨_, rfl, h.ackTimerExpiry (hc.scans (.inr (.inr (.inr ⟨_, _, rfl⟩)))) ..⟩
  case eraseDone => exact ⟨_, rfl, h.eraseDone ..⟩
  case eraseError => exact ⟨_, rfl, h.eraseError ..⟩
  case suspended => exact ⟨_, rfl, h.targetSuspended ..⟩
  case resumed => exact ⟨_, rfl, h.targetResumed ..⟩
  case eraseTimerExpiry => exact ⟨_, rfl, h.eraseTimerExpiry _⟩
  case decodeActivate => exact ⟨_, rfl, h.decodeActivate⟩
  case decodeComplete => exact ⟨_, rfl, h.decodeComplete (hc.scans (.inl rfl))⟩
  case returnFrameBegin => exact ⟨_, rfl, h.returnFrameBegin⟩
  case returnFrameSent => exact ⟨_, rfl, h.returnFrameSent⟩
  case holdProgramEnd => exact ⟨_, rfl, h.holdProgramEnd _⟩
  case directiveUnknown => exact ⟨_, rfl, h.directiveUnknown⟩
  case setClock => exact ⟨_, rfl, h.setClock (hc.closes (.inl (by simp)))⟩
  case loadSources => exact ⟨_, rfl, h.loadSources⟩
  case loadTypeMap => exact ⟨_, rfl, h.loadTypeMap⟩
  case loadClasses => exact ⟨_, rfl, h.loadClasses⟩
  case loadDictionary => exact ⟨_, rfl, h.loadDictionary⟩
  case loadTarget => exact ⟨_, rfl, h.loadTarget⟩
  case setTarget => exact ⟨_, rfl, h.setTarget⟩
  case setDayPolicy => exact ⟨_, rfl, h.setDayPolicy⟩
  case setSweep => exact ⟨_, rfl, h.setSweep⟩
  case setNotices => exact ⟨_, rfl, h.setNotices⟩
  case setGuard => exact ⟨_, rfl, h.setGuard⟩
  case addHold => exact ⟨_, rfl, h.addHold⟩
  case dropHold => exact ⟨_, rfl, h.dropHold⟩
  case setProtectMode => exact ⟨_, rfl, h.setProtectMode⟩
  case startArchive => exact ⟨_, rfl, h.startArchive⟩
  case closeDay => exact ⟨_, rfl, h.closeDayDirective (hc.closes (.inl (by simp)))⟩
  case waive => exact ⟨_, rfl, h.waive⟩
  case flush => exact ⟨_, rfl, h.flush⟩
  case sweepNow => exact ⟨_, rfl, h.sweepNow⟩
  case scrubNow => exact ⟨_, rfl, h.scrubNow⟩
  case verify => exact ⟨_, rfl, h.verify⟩
  case retrieve => exact ⟨_, rfl, h.retrieve⟩
  case retryCommits => exact ⟨_, rfl, h.retryCommits⟩
  case clearSuspect => exact ⟨_, rfl, h.clearSuspect⟩
  case engineReset => exact ⟨_, rfl, h.engineResetDirective⟩
  case intakeReset => exact ⟨_, rfl, h.intakeResetDirective⟩
  case readClock => exact ⟨_, rfl, h.readClock⟩
  case readStatus => exact ⟨_, rfl, h.readStatus⟩
  case readEvents => exact ⟨_, rfl, h.readEvents⟩
  case readGapSummary => exact ⟨_, rfl, h.readGapSummary⟩
  case readSegment => exact ⟨_, rfl, h.readSegment⟩
  case readDay => exact ⟨_, rfl, h.readDay⟩
  case readContinuity => exact ⟨_, rfl, h.readContinuity⟩
  case readTarget => exact ⟨_, rfl, h.readTarget⟩
  case readHolds => exact ⟨_, rfl, h.readHolds⟩
  case readLink => exact ⟨_, rfl, h.readLink⟩

theorem exec_meets {c : Instr} {t : State} (h : s.Meets k) (hc : Instr.Allowed c s k) (ht : exec c s = .next t) :
    t.Meets k := by
  obtain ⟨u, hu, hk⟩ := exec_next_meets c h hc
  rw [hu, Host.Outcome.next.injEq] at ht
  exact ht ▸ hk

/-- A claim of the audit rule, the suspend budget and the EXPIRING ids alone, the days being free. -/
def Standing.ofDays (audit budget : Prop) (expiring : Nat → Prop) : Standing :=
  { audit := audit, budget := budget, expiring := expiring, days := fun _ _ _ => True, settles := fun _ _ _ => trivial }

theorem Instr.allowed_ofDays {c : Instr} {audit budget : Prop} {expiring : Nat → Prop}
    (hx : c = .sweepExamination → ∀ p e, s.expiry.pass = some p → e ∈ s.dir → e.state = .stored →
      s.mayExpire p.oldest e → expiring e.id) : Instr.Allowed c s (.ofDays audit budget expiring) :=
  ⟨fun _ _ => trivial, fun _ _ _ _ => trivial, fun _ _ _ _ _ => trivial, fun _ _ _ _ _ => trivial, hx⟩

/-- A step keeps the audit rule and the suspend budget. -/
theorem step_meets {t : State} {audit budget : Prop} (h : s.Meets (.ofDays audit budget fun _ => True))
    (ht : step s = .next t) : t.Meets (.ofDays audit budget fun _ => True) := by
  unfold step at ht
  split at ht
  · rw [Host.Outcome.next.injEq] at ht
    exact ht ▸ h.tick
  · exact exec_meets (h.withPending _) (Instr.allowed_ofDays fun _ _ _ _ _ _ _ => trivial) ht

end

/-! ### The obligations -/

/-- Settles O27: the claim that only ids EXPIRING before, or made so by a sweep examination, are EXPIRING. -/
theorem onlyEligibleSegmentsExpire : Obligations.OnlyEligibleSegmentsExpire := by
  intro c s t ht
  have hs : s.Meets (.ofDays False False fun i => (∃ e ∈ s.dir, e.id = i ∧ e.state = .expiring)
      ∨ (c = .sweepExamination ∧ ∃ p, s.expiry.pass = some p
        ∧ ∃ e ∈ s.dir, e.id = i ∧ e.state = .stored ∧ s.mayExpire p.oldest e)) :=
    ⟨False.elim, False.elim, fun e he hst => .inl ⟨e, he, rfl, hst⟩, fun _ => trivial⟩
  refine (exec_meets hs (Instr.allowed_ofDays ?_) ht).expiring
  exact fun hc p e hp he hstored hmay => .inr ⟨hc, p, hp, e, he, rfl, hstored, hmay⟩

/-- Settles O38: the claim of the suspend budget alone. -/
theorem suspendBudgetIsKept : Obligations.SuspendBudgetIsKept := by
  intro s t hs ht
  have hk : s.Meets (.ofDays False True fun _ => True) :=
    ⟨False.elim, fun _ => s.suspendsSound_iff.mp hs, fun _ _ _ => trivial, fun _ => trivial⟩
  exact t.suspendsSound_iff.mpr ((step_meets hk ht).budget trivial)

/-- Settles O56: the claim of the audit rule alone. -/
theorem auditQueueIsKept : Obligations.AuditQueueIsKept := by
  intro s t hs ht
  have hk : s.Meets (.ofDays True False fun _ => True) :=
    ⟨fun _ => hs, False.elim, fun _ _ _ => trivial, fun _ => trivial⟩
  exact (step_meets hk ht).audit trivial

end Sys2Proof.Machine
end

section
/-! The machine as a whole: a step and the state after power-on (O1, O3, O4, O57), what the commands leave of the clock, the
tables, the Hold Store and the queue of commands (O2), and the archive clock (O55). -/

namespace Sys2Proof.Machine

/-! ### A step, and the state after power-on -/

/-- Settles O1: the two branches of a step. -/
theorem stepRunsTheFrontCommand : Obligations.StepRunsTheFrontCommand := by
  refine ⟨fun _ _ _ => rfl, fun s hs => ?_⟩
  have hidle : step s = .next s.tick := by unfold step; rw [hs]
  exact hidle.trans rfl

theorem vget_replicate {α : Type} {n : Nat} (x : α) (i : Fin n) : vget (Vector.replicate n x) i = x := by simp [vget]

/-- Settles O3: the power-on values, the tables read at any index. -/
theorem resetValues : Obligations.ResetValues := by
  simp only [Obligations.ResetValues, State.reset, State.powerOnWith, State.lane, State.target, State.isSettled,
    Assembler.reset, Tables.reset, Tracker.reset, Notices.reset, vget_replicate]
  simp [Port.reset, Builder.reset, Expiry.reset, Audit.reset, Lane.reset, Target.reset, SourceEntry.reset,
    HoldStore.powerOn, NvStore.factory]

/-- Settles O57: the three invariants at power-on. -/
theorem resetMeetsTheInvariants : Obligations.ResetMeetsTheInvariants := ⟨rfl, rfl, rfl, rfl⟩

/-- Settles O4: the power-on values, and the two cases of a change of the line. -/
theorem powerOnLinkUpAndProtectLine : Obligations.PowerOnLinkUpAndProtectLine := by
  refine ⟨fun s => rfl, fun s => ⟨rfl, ?_, fun v hv => ?_⟩⟩
  · exact congrArg Host.Outcome.next (if_pos rfl)
  · exact congrArg Host.Outcome.next ((if_neg hv).trans rfl)

/-! ### The lasting state -/

/-- The queue of commands, the clock, the tables and the Hold Store. -/
def State.lasting (s : State) : List Instr × Clock × Tables × HoldStore := (s.pending, s.clock, s.tables, s.hold)

theorem State.lasting_of_still {s t : State} (h : t.still = s.still) : t.lasting = s.lasting := by
  obtain ⟨hpending, -, hclock, htables, hhold⟩ := State.still_eq h
  simp only [State.lasting, hpending, hclock, htables, hhold]

/-- A field of the state that taking and answering a directive leave alone is left alone by a directive whose work leaves it
alone. -/
theorem State.directive_keeps {α β : Type} (field : State → β) (hport : ∀ u f, field (State.onPort u f) = field u)
    (hcurrent : ∀ u d, field (State.setCurrent u d) = field u) (s : State) (code) (read : List Byte → Option α) {work}
    (hw : ∀ tag a u, field (work tag a u) = field u) : field (s.directive code read work) = field s := by
  rcases s.directive_cases code read work with h | ⟨d, -, h | ⟨a, -, h⟩⟩ <;> rw [h]
  · rw [hcurrent, State.answer, State.putReply, hport, State.takeDirective, hcurrent, hport]
  · rw [hcurrent, hw, State.takeDirective, hcurrent, hport]

theorem State.directive_lasting {α : Type} (s : State) (code) (read : List Byte → Option α) {work}
    (hw : ∀ tag a u, (work tag a u).still = u.still) : (s.directive code read work).lasting = s.lasting :=
  State.directive_keeps _ (fun _ _ => rfl) (fun _ _ => rfl) s code read fun tag a u => State.lasting_of_still (hw tag a u)

/-! ### Operations that the still part has no lemma for yet -/

@[simp] theorem State.refuse_still (s : State) (a b) : (s.refuse a b).still = s.still := rfl
@[simp] theorem State.report_still (s : State) (a b) : (s.report a b).still = s.still := rfl
@[simp] theorem State.answerClamped_still (s : State) (a b c) : (s.answerClamped a b c).still = s.still := rfl
@[simp] theorem State.setForward_expireLanes_still (s : State) (ls) : (s.expireLanes ls).still = s.still :=
  State.foldl_still _ (fun s l => State.abortFile_still s l _) ls s
@[simp] theorem State.closeDays_still (s : State) (ds) : (s.closeDays ds).still = s.still :=
  State.foldl_still _ State.closeDay_still ds s
@[simp] theorem closeDeadlineReached_still (s : State) (d) : (closeDeadlineReached d s).still = s.still := by
  unfold closeDeadlineReached
  split
  · split <;> simp
  · rfl
@[simp] theorem State.applyRescue_still (s : State) (t r) : (s.applyRescue t r).still = s.still := rfl
@[simp] theorem State.rescueTarget_still (s : State) (covers t) : (State.rescueTarget covers s t).1.still = s.still := rfl
@[simp] theorem State.rescue_still (s : State) (covers) : (s.rescue covers).1.still = s.still := by
  have hfold (l : List TargetNo) (a : State × Figures) : (l.foldl (fun a t =>
      ((State.rescueTarget covers a.1 t).1, a.2.plus (State.rescueTarget covers a.1 t).2)) a).1.still = a.1.still := by
    induction l generalizing a with
    | nil => rfl
    | cons t l ih => exact (ih _).trans (State.rescueTarget_still ..)
  exact hfold _ _
@[simp] theorem State.applyTarget_still (s : State) (tag p t) : (s.applyTarget tag p t).still = s.still := by
  unfold State.applyTarget
  split
  case h_5 => split <;> rfl
  all_goals rfl
@[simp] theorem State.applySetTarget_still (s : State) (tag t o) : (s.applySetTarget tag t o).still = s.still := by
  unfold State.applySetTarget
  split <;> simp
@[simp] theorem State.startRebuild_still (s : State) (tag) : (s.startRebuild tag).still = s.still := rfl
@[simp] theorem State.applyWaive_still (s : State) (p r) : (s.applyWaive p r).still = s.still := by
  simp only [State.applyWaive, State.testSettlement_still, State.testRetirement_still, State.raiseAll_still]
  exact State.foldl_still _ (by exact fun _ _ => rfl) _ s
@[simp] theorem State.flushNow_still (s : State) (tag p) : (s.flushNow tag p).still = s.still := by
  unfold State.flushNow
  dsimp only
  split
  · simp
  · split <;> simp
@[simp] theorem State.request_still (s : State) (tag x i f) : (s.request tag x i f).still = s.still := by
  unfold State.request
  split
  · rfl
  · split
    · rfl
    · split
      · rfl
      · split_ifs <;> rfl
@[simp] theorem State.passNow_still (s : State) (tag x) : (s.passNow tag x).still = s.still := by
  unfold State.passNow
  split_ifs <;> simp
@[simp] theorem State.clearFlag_still (s : State) (e) : (s.clearFlag e).still = s.still := rfl
@[simp] theorem State.resetCommit_still (s : State) : s.resetCommit.still = s.still := by
  unfold State.resetCommit
  split
  · rfl
  · dsimp only
    split <;> rfl
@[simp] theorem State.rescueHead_still (s : State) (t) : (s.rescueHead t).still = s.still := by
  unfold State.rescueHead
  split <;> rfl
@[simp] theorem State.resetTarget_still (s : State) (t) : (s.resetTarget t).still = s.still := by
  unfold State.resetTarget
  dsimp only
  split <;> simp
@[simp] theorem State.resetTargets_still (s : State) : s.resetTargets.still = s.still :=
  State.foldl_still _ State.resetTarget_still _ s
@[simp] theorem State.restartScan_still (s : State) (t) : (s.restartScan t).still = s.still := by
  unfold State.restartScan
  split <;> rfl
@[simp] theorem State.resetEngine_still (s : State) : s.resetEngine.still = s.still := by
  unfold State.resetEngine
  split
  · rfl
  · rfl
  · exact State.foldl_still _ State.restartScan_still _ s

/-- An engine reset leaves the lasting state; it clears the current directive (R167). -/
theorem State.engineReset_still (s : State) : s.engineReset.still = (s.setCurrent none).still := by
  have hlanes (u : State) : (u.resetLanes.resetCommit.resetTargets.resetEngine.resetExpiry.resetFlow).still = u.still := by
    simp [State.resetExpiry, State.resetFlow]
  exact (hlanes _).trans rfl

theorem State.engineReset_lasting (s : State) : s.engineReset.lasting = s.lasting :=
  (State.lasting_of_still s.engineReset_still).trans rfl

/-! ### Directives that leave the lasting state -/

theorem directiveUnknown_lasting (s : State) : (directiveUnknown s).lasting = s.lasting := by
  rcases s.onDirective_cases (fun c => c = 0 || 0x24 < c) (fun d s =>
    (s.onCounters fun c => { c with unknownDirectives := up c.unknownDirectives }).answer d.tag .unknown [])
    with h | ⟨d, -, h⟩ <;> rw [directiveUnknown, h]
  rfl
theorem loadSources_lasting (s : State) : (loadSources s).lasting = s.lasting :=
  s.directive_lasting _ _ fun tag l u => by
    split
    · exact (State.answer_still ..).trans (State.foldl_still _ (by exact fun _ _ => rfl) l u)
    · rfl
theorem loadTarget_lasting (s : State) : (loadTarget s).lasting = s.lasting :=
  s.directive_lasting _ _ fun tag p u => by split <;> simp
theorem setTarget_lasting (s : State) : (setTarget s).lasting = s.lasting :=
  s.directive_lasting _ _ fun tag p u => by split <;> simp
theorem setDayPolicy_lasting (s : State) : (setDayPolicy s).lasting = s.lasting :=
  s.directive_lasting _ _ fun _ _ _ => rfl
theorem setSweep_lasting (s : State) : (setSweep s).lasting = s.lasting := s.directive_lasting _ _ fun _ _ _ => rfl
theorem setNotices_lasting (s : State) : (setNotices s).lasting = s.lasting := s.directive_lasting _ _ fun _ _ _ => rfl
theorem startArchive_lasting (s : State) : (startArchive s).lasting = s.lasting :=
  s.directive_lasting _ _ fun tag _ u => by split <;> rfl
theorem closeDayDirective_lasting (s : State) : (closeDayDirective s).lasting = s.lasting :=
  s.directive_lasting _ _ fun tag day u => by
    split
    · split <;> simp [State.closeDayNow]
    · split <;> rfl
theorem waive_lasting (s : State) : (waive s).lasting = s.lasting :=
  s.directive_lasting _ _ fun tag p u => by
    split
    · rfl
    · split
      · rfl
      · split_ifs <;> simp
theorem flush_lasting (s : State) : (flush s).lasting = s.lasting :=
  s.directive_lasting _ _ fun tag p u => by split_ifs <;> simp
theorem sweepNow_lasting (s : State) : (sweepNow s).lasting = s.lasting := s.directive_lasting _ _ fun _ _ _ => by simp
theorem scrubNow_lasting (s : State) : (scrubNow s).lasting = s.lasting := s.directive_lasting _ _ fun _ _ _ => by simp
theorem verify_lasting (s : State) : (verify s).lasting = s.lasting := s.directive_lasting _ _ fun _ _ _ => by simp
theorem retrieve_lasting (s : State) : (retrieve s).lasting = s.lasting := s.directive_lasting _ _ fun _ _ _ => by simp
theorem retryCommits_lasting (s : State) : (retryCommits s).lasting = s.lasting :=
  s.directive_lasting _ _ fun _ _ _ => rfl
theorem clearSuspect_lasting (s : State) : (clearSuspect s).lasting = s.lasting :=
  s.directive_lasting _ _ fun tag i u => by
    split
    · rfl
    · split
      · rfl
      · split <;> rfl
theorem engineResetDirective_lasting (s : State) : (engineResetDirective s).lasting = s.lasting :=
  State.directive_keeps State.lasting (fun _ _ => rfl) (fun _ _ => rfl) s _ _ fun tag _ u =>
    (State.lasting_of_still (State.answer_still u.engineReset tag .done [])).trans u.engineReset_lasting
theorem intakeResetDirective_lasting (s : State) : (intakeResetDirective s).lasting = s.lasting :=
  s.directive_lasting _ _ fun _ _ _ => by simp
theorem readClock_lasting (s : State) : (readClock s).lasting = s.lasting := s.directive_lasting _ _ fun _ _ _ => rfl
theorem readStatus_lasting (s : State) : (readStatus s).lasting = s.lasting :=
  s.directive_lasting _ _ fun tag _ u => u.report_still tag u.statusOctets
theorem readEvents_lasting (s : State) : (readEvents s).lasting = s.lasting :=
  s.directive_lasting _ _ fun _ _ _ => by split <;> rfl
theorem readGapSummary_lasting (s : State) : (readGapSummary s).lasting = s.lasting :=
  s.directive_lasting _ _ fun _ _ _ => rfl
theorem readSegment_lasting (s : State) : (readSegment s).lasting = s.lasting :=
  s.directive_lasting _ _ fun tag i u => by
    split
    · rfl
    · split <;> rfl
theorem readDay_lasting (s : State) : (readDay s).lasting = s.lasting :=
  s.directive_lasting _ _ fun tag i u => by
    split
    · rfl
    · split <;> rfl
theorem readContinuity_lasting (s : State) : (readContinuity s).lasting = s.lasting :=
  s.directive_lasting _ _ fun tag i u => by
    split
    · rfl
    · split <;> rfl
theorem readTarget_lasting (s : State) : (readTarget s).lasting = s.lasting :=
  s.directive_lasting _ _ fun _ _ _ => by split <;> rfl
theorem readHolds_lasting (s : State) : (readHolds s).lasting = s.lasting := s.directive_lasting _ _ fun _ _ _ => rfl
theorem readLink_lasting (s : State) : (readLink s).lasting = s.lasting :=
  s.directive_lasting _ _ fun _ c _ => by cases c <;> rfl

/-! ### The owners of the lasting state -/

theorem HoldStore.beginLapse_nv (h : HoldStore) : h.beginLapse.nv = h.nv := by
  unfold HoldStore.beginLapse
  split <;> rfl
theorem HoldStore.lapse_nv (day : Nat) (h : HoldStore) : (h.lapse day).nv = h.nv := by
  unfold HoldStore.lapse
  dsimp only
  split
  · rfl
  · exact HoldStore.beginLapse_nv _
theorem HoldStore.fail_nv (op : HoldOp) (h : HoldStore) : (h.fail op).nv = h.nv := by cases op <;> rfl

/-- What the commands that own a part of the lasting state leave of the rest. -/
def State.leaves (s : State) : List Instr × Tables × NvStore := (s.pending, s.tables, s.hold.nv)

theorem clockSecond_leaves (s : State) : (clockSecond s).leaves = s.leaves := by
  unfold clockSecond
  split
  · split
    · rfl
    · unfold State.advanceTo
      dsimp only
      split <;> split <;> simp [State.leaves, HoldStore.lapse_nv]
  all_goals rfl
theorem holdRemainderEnd_leaves (s : State) :
    (holdRemainderEnd s).leaves = s.leaves ∧ (holdRemainderEnd s).hold = s.hold := by
  unfold holdRemainderEnd
  split <;> exact ⟨rfl, rfl⟩
theorem State.setForward_leaves (s : State) (t) : (s.setForward t).1.leaves = s.leaves := by
  have hdays (ls ds) : (((s.setReading t).expireLanes ls).closeDays ds).leaves = s.leaves := by
    obtain ⟨hpending, -, -, htables, hhold⟩ :=
      State.still_eq (((s.setReading t).expireLanes ls).closeDays_still ds |>.trans (State.setForward_expireLanes_still ..))
    simp only [State.leaves, hpending, htables, hhold]
    rfl
  unfold State.setForward
  dsimp only
  split <;> split <;> simpa [State.leaves, HoldStore.lapse_nv] using hdays _ _
theorem setClock_leaves (s : State) : (setClock s).leaves = s.leaves :=
  State.directive_keeps _ (fun _ _ => rfl) (fun _ _ => rfl) s _ _ fun tag t u => by
    have hforward (x y) : ((u.setForward t).1.answer tag x y).leaves = u.leaves := u.setForward_leaves t
    split
    · rfl
    · unfold State.clockTo
      split
      · split_ifs
        · exact hforward ..
        · rfl
        · rfl
      · exact hforward ..
theorem protectLineChange_leaves (v) (s : State) :
    (protectLineChange v s).leaves = s.leaves ∧ (protectLineChange v s).clock = s.clock := by
  unfold protectLineChange
  split <;> exact ⟨rfl, rfl⟩
theorem State.holdReport_still (s : State) (op ok) : (s.holdReport op ok).still = s.still := by
  unfold State.holdReport
  cases op <;> rfl
theorem holdProgramEnd_leaves (ok) (s : State) :
    (holdProgramEnd ok s).pending = s.pending ∧ (holdProgramEnd ok s).clock = s.clock
    ∧ (holdProgramEnd ok s).tables = s.tables ∧ (ok = false → (holdProgramEnd ok s).hold.nv = s.hold.nv) := by
  unfold holdProgramEnd
  split
  · exact ⟨rfl, rfl, rfl, fun _ => rfl⟩
  · next op _ =>
    obtain ⟨hpending, -, hclock, htables, hhold⟩ := State.still_eq ((s.onHold fun h =>
        { (if ok then h.complete op else h.fail op) with unit := none }).holdReport_still op ok)
    refine ⟨hpending, hclock, htables, fun hok => ?_⟩
    rw [State.onHold_hold, hhold, HoldStore.beginLapse_nv]
    subst hok
    exact HoldStore.fail_nv op s.hold
/-- What the loads of the tables leave. -/
def State.besidesTables (s : State) : List Instr × Clock × HoldStore := (s.pending, s.clock, s.hold)

theorem State.besidesTables_of_still {s t : State} (h : t.still = s.still) : t.besidesTables = s.besidesTables := by
  obtain ⟨hpending, -, hclock, -, hhold⟩ := State.still_eq h
  simp only [State.besidesTables, hpending, hclock, hhold]

theorem State.applyClass_besidesTables (s : State) (i) : (s.applyClass i).besidesTables = s.besidesTables := by
  unfold State.applyClass
  dsimp only
  split
  · rfl
  · exact (State.besidesTables_of_still (s.sealAll_still ..) : _)

theorem loadTypeMap_besidesTables (s : State) : (loadTypeMap s).besidesTables = s.besidesTables :=
  State.directive_keeps _ (fun _ _ => rfl) (fun _ _ => rfl) s _ _ fun tag l u => by split <;> rfl
theorem loadClasses_besidesTables (s : State) : (loadClasses s).besidesTables = s.besidesTables :=
  State.directive_keeps _ (fun _ _ => rfl) (fun _ _ => rfl) s _ _ fun tag l u => by
    have hfold (l : List ClassItem) (u : State) : (l.foldl State.applyClass u).besidesTables = u.besidesTables := by
      induction l generalizing u with
      | nil => rfl
      | cons i l ih => exact (ih _).trans (u.applyClass_besidesTables i)
    split
    · exact hfold l u
    · rfl
theorem loadDictionary_besidesTables (s : State) : (loadDictionary s).besidesTables = s.besidesTables :=
  State.directive_keeps _ (fun _ _ => rfl) (fun _ _ => rfl) s _ _ fun tag d u => by
    split
    · exact (State.besidesTables_of_still (u.sealAll_still ..) : _)
    · rfl

/-- What the directives of the Hold Store leave. -/
def State.besidesHolds (s : State) : List Instr × Clock × Tables × NvStore := (s.pending, s.clock, s.tables, s.hold.nv)

theorem State.besidesHolds_of_still {s t : State} (h : t.still = s.still) : t.besidesHolds = s.besidesHolds := by
  obtain ⟨hpending, -, hclock, htables, hhold⟩ := State.still_eq h
  simp only [State.besidesHolds, hpending, hclock, htables, hhold]

theorem State.onHold_besidesHolds (s : State) {f : HoldStore → HoldStore} (hf : (f s.hold).nv = s.hold.nv) :
    (s.onHold f).besidesHolds = s.besidesHolds := by
  simp only [State.besidesHolds, State.onHold_hold, hf, State.onHold_pending, State.onHold_clock, State.onHold_tables]
theorem State.acceptGuard_besidesHolds (s : State) (tag g) : (s.acceptGuard tag g).besidesHolds = s.besidesHolds := by
  unfold State.acceptGuard
  dsimp only
  rw [State.onHold_besidesHolds _ rfl, State.besidesHolds_of_still (State.rescue_still ..),
    State.onHold_besidesHolds _ rfl]
  rfl
theorem State.acceptHold_besidesHolds (s : State) (tag x) : (s.acceptHold tag x).besidesHolds = s.besidesHolds := by
  unfold State.acceptHold
  dsimp only
  rw [State.onHold_besidesHolds _ rfl, State.besidesHolds_of_still (State.rescue_still ..),
    State.onHold_besidesHolds _ rfl]
  rfl
theorem setGuard_besidesHolds (s : State) : (setGuard s).besidesHolds = s.besidesHolds :=
  State.directive_keeps _ (fun _ _ => rfl) (fun _ _ => rfl) s _ _ fun tag g u => by
    split_ifs
    · rfl
    · rfl
    · exact u.acceptGuard_besidesHolds tag g
theorem addHold_besidesHolds (s : State) : (addHold s).besidesHolds = s.besidesHolds :=
  State.directive_keeps _ (fun _ _ => rfl) (fun _ _ => rfl) s _ _ fun tag x u => by
    split_ifs
    · rfl
    · rfl
    · rfl
    · rfl
    · exact u.acceptHold_besidesHolds tag x
theorem dropHold_besidesHolds (s : State) : (dropHold s).besidesHolds = s.besidesHolds :=
  State.directive_keeps _ (fun _ _ => rfl) (fun _ _ => rfl) s _ _ fun tag i u => by
    split
    · rfl
    · split
      · rfl
      · split_ifs <;> rfl
theorem setProtectMode_besidesHolds (s : State) : (setProtectMode s).besidesHolds = s.besidesHolds :=
  State.directive_keeps _ (fun _ _ => rfl) (fun _ _ => rfl) s _ _ fun tag p u => by split_ifs <;> rfl

/-! ### The obligation -/

/-- What a command that takes `s` to `t` may change of the lasting state. -/
def Owns (c : Instr) (s t : State) : Prop :=
  t.pending = s.pending
  ∧ (t.clock ≠ s.clock → c ∈ [.powerOn, .clockSecond, .holdRemainderEnd, .setClock])
  ∧ (t.hold.nv ≠ s.hold.nv → c = .holdProgramEnd true)
  ∧ (t.tables ≠ s.tables → c ∈ [.powerOn, .loadTypeMap, .loadClasses, .loadDictionary])
  ∧ (t.hold ≠ s.hold → c ∈ [.powerOn, .clockSecond, .setClock, .setGuard, .addHold, .dropHold, .setProtectMode]
      ∨ (∃ v, c = .protectLineChange v) ∨ ∃ ok, c = .holdProgramEnd ok)

theorem owns_of_lasting {c : Instr} {s t : State} (h : t.lasting = s.lasting) : Owns c s t := by
  simp only [State.lasting, Prod.mk.injEq] at h
  obtain ⟨hpending, hclock, htables, hhold⟩ := h
  exact ⟨hpending, fun hne => absurd hclock hne, fun hne => absurd (congrArg HoldStore.nv hhold) hne,
    fun hne => absurd htables hne, fun hne => absurd hhold hne⟩

theorem owns_of_still {c : Instr} {s t : State} (h : t.still = s.still) : Owns c s t :=
  owns_of_lasting (State.lasting_of_still h)

theorem owns_of_besidesTables {c : Instr} {s t : State} (h : t.besidesTables = s.besidesTables)
    (hc : c ∈ [.powerOn, .loadTypeMap, .loadClasses, .loadDictionary]) : Owns c s t := by
  simp only [State.besidesTables, Prod.mk.injEq] at h
  obtain ⟨hpending, hclock, hhold⟩ := h
  exact ⟨hpending, fun hne => absurd hclock hne, fun hne => absurd (congrArg HoldStore.nv hhold) hne,
    fun _ => hc, fun hne => absurd hhold hne⟩

theorem owns_of_besidesHolds {c : Instr} {s t : State} (h : t.besidesHolds = s.besidesHolds)
    (hc : c ∈ [.powerOn, .clockSecond, .setClock, .setGuard, .addHold, .dropHold, .setProtectMode]) :
    Owns c s t := by
  simp only [State.besidesHolds, Prod.mk.injEq] at h
  obtain ⟨hpending, hclock, htables, hnv⟩ := h
  exact ⟨hpending, fun hne => absurd hclock hne, fun hne => absurd hnv hne, fun hne => absurd htables hne,
    fun _ => .inl hc⟩

theorem owns_of_leaves {c : Instr} {s t : State} (h : t.leaves = s.leaves)
    (hclock : c ∈ [.powerOn, .clockSecond, .holdRemainderEnd, .setClock])
    (hhold : t.hold ≠ s.hold →
      c ∈ [.powerOn, .clockSecond, .setClock, .setGuard, .addHold, .dropHold, .setProtectMode]) :
    Owns c s t := by
  simp only [State.leaves, Prod.mk.injEq] at h
  obtain ⟨hpending, htables, hnv⟩ := h
  exact ⟨hpending, fun _ => hclock, fun hne => absurd hnv hne, fun hne => absurd htables hne,
    fun hne => .inl (hhold hne)⟩

theorem exec_next_owns (c : Instr) (s : State) : ∃ t, exec c s = .next t ∧ Owns c s t := by
  cases c
  case powerOn => exact ⟨_, rfl, rfl, fun _ => by simp, fun hne => absurd rfl hne, fun _ => by simp, fun _ => by simp⟩
  case resetInput => exact ⟨_, rfl, owns_of_lasting s.engineReset_lasting⟩
  case linkLoss => exact ⟨_, rfl, owns_of_still (linkLoss_still s)⟩
  case linkUp => exact ⟨_, rfl, owns_of_still (linkUp_still s)⟩
  case protectLineChange v =>
    obtain ⟨hleaves, hclock⟩ := protectLineChange_leaves v s
    simp only [State.leaves, Prod.mk.injEq] at hleaves
    obtain ⟨hpending, htables, hnv⟩ := hleaves
    exact ⟨_, rfl, hpending, fun hne => absurd hclock hne, fun hne => absurd hnv hne, fun hne => absurd htables hne,
      fun _ => .inr (.inl ⟨v, rfl⟩)⟩
  case frameArrival => exact ⟨_, rfl, owns_of_still (frameArrival_still ..)⟩
  case linkReset => exact ⟨_, rfl, owns_of_still (linkReset_still s)⟩
  case takeFileOpen => exact ⟨_, rfl, owns_of_still (takeFileOpen_still s)⟩
  case takeFileData => exact ⟨_, rfl, owns_of_still (takeFileData_still s)⟩
  case takeFileClose => exact ⟨_, rfl, owns_of_still (takeFileClose_still s)⟩
  case takeFileAbort => exact ⟨_, rfl, owns_of_still (takeFileAbort_still s)⟩
  case overrunMarkTaken => exact ⟨_, rfl, owns_of_still (overrunMarkTaken_still ..)⟩
  case stallEnd => exact ⟨_, rfl, owns_of_still (stallEnd_still s)⟩
  case laneIdleTimerExpiry => exact ⟨_, rfl, owns_of_still (laneIdleTimerExpiry_still ..)⟩
  case clockSecond => exact ⟨_, rfl, owns_of_leaves (clockSecond_leaves s) (by simp) fun _ => by simp⟩
  case holdRemainderEnd =>
    obtain ⟨hleaves, hhold⟩ := holdRemainderEnd_leaves s
    exact ⟨_, rfl, owns_of_leaves hleaves (by simp) fun hne => absurd hhold hne⟩
  case closeDeadlineReached => exact ⟨_, rfl, owns_of_still (closeDeadlineReached_still ..)⟩
  case sweepTimerMatch => exact ⟨_, rfl, owns_of_still (sweepTimerMatch_still s)⟩
  case sweepExamination => exact ⟨_, rfl, owns_of_still (sweepExamination_still s)⟩
  case commitBegin => exact ⟨_, rfl, owns_of_still (commitBegin_still s)⟩
  case arbiterBegin => exact ⟨_, rfl, owns_of_still (arbiterBegin_still ..)⟩
  case beatAccept => exact ⟨_, rfl, owns_of_still (beatAccept_still ..)⟩
  case beatError => exact ⟨_, rfl, owns_of_still (beatError_still ..)⟩
  case ackTimerExpiry => exact ⟨_, rfl, owns_of_still (ackTimerExpiry_still ..)⟩
  case eraseDone => exact ⟨_, rfl, owns_of_still (eraseDone_still ..)⟩
  case eraseError => exact ⟨_, rfl, owns_of_still (eraseError_still ..)⟩
  case suspended => exact ⟨_, rfl, owns_of_still (targetSuspended_still ..)⟩
  case resumed => exact ⟨_, rfl, owns_of_still (targetResumed_still ..)⟩
  case eraseTimerExpiry => exact ⟨_, rfl, owns_of_still (eraseTimerExpiry_still ..)⟩
  case decodeActivate => exact ⟨_, rfl, owns_of_still (decodeActivate_still s)⟩
  case decodeComplete => exact ⟨_, rfl, owns_of_still (decodeComplete_still s)⟩
  case returnFrameBegin => exact ⟨_, rfl, owns_of_still (returnFrameBegin_still s)⟩
  case returnFrameSent => exact ⟨_, rfl, owns_of_still (returnFrameSent_still s)⟩
  case holdProgramEnd ok =>
    obtain ⟨hpending, hclock, htables, hnv⟩ := holdProgramEnd_leaves ok s
    refine ⟨_, rfl, hpending, fun hne => absurd hclock hne, ?_, fun hne => absurd htables hne,
      fun _ => .inr (.inr ⟨ok, rfl⟩)⟩
    cases ok with
    | true => exact fun _ => rfl
    | false => exact fun hne => absurd (hnv rfl) hne
  case directiveUnknown => exact ⟨_, rfl, owns_of_lasting (directiveUnknown_lasting s)⟩
  case setClock => exact ⟨_, rfl, owns_of_leaves (setClock_leaves s) (by simp) fun _ => by simp⟩
  case loadSources => exact ⟨_, rfl, owns_of_lasting (loadSources_lasting s)⟩
  case loadTypeMap => exact ⟨_, rfl, owns_of_besidesTables (loadTypeMap_besidesTables s) (by simp)⟩
  case loadClasses => exact ⟨_, rfl, owns_of_besidesTables (loadClasses_besidesTables s) (by simp)⟩
  case loadDictionary => exact ⟨_, rfl, owns_of_besidesTables (loadDictionary_besidesTables s) (by simp)⟩
  case loadTarget => exact ⟨_, rfl, owns_of_lasting (loadTarget_lasting s)⟩
  case setTarget => exact ⟨_, rfl, owns_of_lasting (setTarget_lasting s)⟩
  case setDayPolicy => exact ⟨_, rfl, owns_of_lasting (setDayPolicy_lasting s)⟩
  case setSweep => exact ⟨_, rfl, owns_of_lasting (setSweep_lasting s)⟩
  case setNotices => exact ⟨_, rfl, owns_of_lasting (setNotices_lasting s)⟩
  case setGuard => exact ⟨_, rfl, owns_of_besidesHolds (setGuard_besidesHolds s) (by simp)⟩
  case addHold => exact ⟨_, rfl, owns_of_besidesHolds (addHold_besidesHolds s) (by simp)⟩
  case dropHold => exact ⟨_, rfl, owns_of_besidesHolds (dropHold_besidesHolds s) (by simp)⟩
  case setProtectMode => exact ⟨_, rfl, owns_of_besidesHolds (setProtectMode_besidesHolds s) (by simp)⟩
  case startArchive => exact ⟨_, rfl, owns_of_lasting (startArchive_lasting s)⟩
  case closeDay => exact ⟨_, rfl, owns_of_lasting (closeDayDirective_lasting s)⟩
  case waive => exact ⟨_, rfl, owns_of_lasting (waive_lasting s)⟩
  case flush => exact ⟨_, rfl, owns_of_lasting (flush_lasting s)⟩
  case sweepNow => exact ⟨_, rfl, owns_of_lasting (sweepNow_lasting s)⟩
  case scrubNow => exact ⟨_, rfl, owns_of_lasting (scrubNow_lasting s)⟩
  case verify => exact ⟨_, rfl, owns_of_lasting (verify_lasting s)⟩
  case retrieve => exact ⟨_, rfl, owns_of_lasting (retrieve_lasting s)⟩
  case retryCommits => exact ⟨_, rfl, owns_of_lasting (retryCommits_lasting s)⟩
  case clearSuspect => exact ⟨_, rfl, owns_of_lasting (clearSuspect_lasting s)⟩
  case engineReset => exact ⟨_, rfl, owns_of_lasting (engineResetDirective_lasting s)⟩
  case intakeReset => exact ⟨_, rfl, owns_of_lasting (intakeResetDirective_lasting s)⟩
  case readClock => exact ⟨_, rfl, owns_of_lasting (readClock_lasting s)⟩
  case readStatus => exact ⟨_, rfl, owns_of_lasting (readStatus_lasting s)⟩
  case readEvents => exact ⟨_, rfl, owns_of_lasting (readEvents_lasting s)⟩
  case readGapSummary => exact ⟨_, rfl, owns_of_lasting (readGapSummary_lasting s)⟩
  case readSegment => exact ⟨_, rfl, owns_of_lasting (readSegment_lasting s)⟩
  case readDay => exact ⟨_, rfl, owns_of_lasting (readDay_lasting s)⟩
  case readContinuity => exact ⟨_, rfl, owns_of_lasting (readContinuity_lasting s)⟩
  case readTarget => exact ⟨_, rfl, owns_of_lasting (readTarget_lasting s)⟩
  case readHolds => exact ⟨_, rfl, owns_of_lasting (readHolds_lasting s)⟩
  case readLink => exact ⟨_, rfl, owns_of_lasting (readLink_lasting s)⟩

theorem exec_owns {c : Instr} {s t : State} (ht : exec c s = .next t) : Owns c s t := by
  obtain ⟨u, hu, howns⟩ := exec_next_owns c s
  rw [hu, Host.Outcome.next.injEq] at ht
  exact ht ▸ howns

/-- Settles O2: every command owns its part of the lasting state alone. -/
theorem everyCommandTakesANextState : Obligations.EveryCommandTakesANextState := by
  refine ⟨fun c s => ?_, fun c s t ht => (exec_owns ht).2⟩
  obtain ⟨t, ht, hpending, -⟩ := exec_next_owns c s
  exact ⟨t, ht, hpending⟩

/-! ### The archive clock -/

/-- The clock's form (10.1). -/
def Clock.formed (c : Clock) : Prop := c.sound = true ∧ c.ranged = true

/-- A clock that runs at a reading in range. -/
theorem Clock.formed_running {t : Time} (hd : t.day ≤ 65535) (hsec : t.second ≤ 86399) :
    ({ mode := .running, reading := some t, remainder := 0 } : Clock).formed := by
  simp [Clock.formed, Clock.sound, Clock.ranged, hd, hsec]

/-- A clock in its form, taken apart: no reading while NOT_SET, else a reading in range; a remainder only while HOLDING. -/
theorem Clock.formed_iff (c : Clock) : c.formed ↔
    (c.mode = .notSet ↔ c.reading = none) ∧ (c.mode ≠ .holding → c.remainder = 0)
    ∧ (∀ t, c.reading = some t → t.day ≤ 65535 ∧ t.second ≤ 86399) ∧ c.remainder ≤ 600 := by
  cases c with
  | mk mode reading remainder =>
    cases mode <;> cases reading <;> simp [Clock.formed, Clock.sound, Clock.ranged]

/-- The clock after a step: in its form, and no earlier. -/
def Clock.follows (c d : Clock) : Prop :=
  d.formed ∧ ∀ r, c.reading = some r → ∃ r', d.reading = some r' ∧ r.seconds ≤ r'.seconds

theorem Clock.follows_refl {c : Clock} (h : c.formed) : c.follows c := ⟨h, fun r hr => ⟨r, hr, le_rfl⟩⟩

theorem nextReading_seconds (t : Time) : t.seconds ≤ (nextReading t).seconds := by
  unfold nextReading Time.seconds
  split
  · exact le_rfl
  · split <;> simp only <;> omega

theorem nextReading_ranged {t : Time} (hd : t.day ≤ 65535) (hsec : t.second ≤ 86399) :
    (nextReading t).day ≤ 65535 ∧ (nextReading t).second ≤ 86399 := by
  unfold nextReading
  split
  · exact ⟨hd, hsec⟩
  · next hlast =>
    simp only [lastReading, Bool.and_eq_true, decide_eq_true_eq] at hlast
    split <;> simp only <;> omega

theorem State.advanceTo_clock (s : State) (t) : (s.advanceTo t).clock = { s.clock with reading := some t } := by
  unfold State.advanceTo
  dsimp only
  split <;> split <;> rfl

theorem clockSecond_follows {s : State} (h : s.clock.formed) : s.clock.follows (clockSecond s).clock := by
  obtain ⟨habsent, hrem, hrange, hcap⟩ := s.clock.formed_iff.mp h
  unfold clockSecond
  split
  · next t hmode hread =>
    split
    · exact Clock.follows_refl h
    · obtain ⟨hd, hsec⟩ := nextReading_ranged (hrange t hread).1 (hrange t hread).2
      rw [State.advanceTo_clock]
      have hform := Clock.formed_running hd hsec
      have hrem0 : s.clock.remainder = 0 := hrem (by simp [hmode])
      refine ⟨by simpa only [hmode, hrem0] using hform, fun r hr => ?_⟩
      obtain rfl : t = r := Option.some.inj (hread.symm.trans hr)
      exact ⟨_, rfl, nextReading_seconds t⟩
  · exact Clock.follows_refl h
  · next hmode =>
    refine ⟨(Clock.formed_iff _).mpr ?_, fun r hr => ⟨r, hr, le_rfl⟩⟩
    simp only [State.onClock_clock, Clock.countDown]
    refine ⟨?_, ?_, hrange, by omega⟩
    · rw [← habsent, hmode]; split <;> simp
    · split
      · intro _; omega
      · exact fun hne => absurd rfl hne
  · exact Clock.follows_refl h

theorem holdRemainderEnd_follows {s : State} (h : s.clock.formed) : s.clock.follows (holdRemainderEnd s).clock := by
  obtain ⟨habsent, -, hrange, -⟩ := s.clock.formed_iff.mp h
  unfold holdRemainderEnd
  split
  · next hmode =>
    refine ⟨(Clock.formed_iff _).mpr ⟨?_, fun _ => rfl, hrange, Nat.zero_le _⟩, fun r hr => ⟨r, hr, le_rfl⟩⟩
    rw [State.onClock_clock]
    simp only [← habsent, hmode.1]
    simp
  · exact Clock.follows_refl h

theorem State.setForward_clock (s : State) (t) :
    (s.setForward t).1.clock = { mode := .running, reading := some t, remainder := 0 } := by
  have hdays (ls ds) : (((s.setReading t).expireLanes ls).closeDays ds).clock
      = { mode := .running, reading := some t, remainder := 0 } :=
    (State.still_eq ((State.closeDays_still ..).trans (State.setForward_expireLanes_still ..))).2.2.1
  unfold State.setForward
  dsimp only
  split <;> split <;> exact hdays _ _

theorem State.clockTo_follows {s : State} (h : s.clock.formed) (tag) {t : Time} (hd : t.day ≤ 65535)
    (hsec : t.second ≤ 86399) : s.clock.follows (s.clockTo tag t).clock := by
  obtain ⟨habsent, -, hrange, -⟩ := s.clock.formed_iff.mp h
  have hforward : (s.setForward t).1.clock.formed := by
    rw [State.setForward_clock]
    exact Clock.formed_running hd hsec
  unfold State.clockTo
  split
  · next now hnow =>
    split_ifs with hle hshort
    · refine ⟨hforward, fun r hr => ⟨t, by exact congrArg Clock.reading (s.setForward_clock t), ?_⟩⟩
      exact Option.some.inj (hnow.symm.trans hr) ▸ hle
    · refine ⟨(Clock.formed_iff _).mpr ⟨?_, fun hne => absurd rfl hne, hrange, hshort⟩, fun r hr => ⟨r, hr, le_rfl⟩⟩
      simp [State.holdClock, State.answer, State.putReply, hnow]
    · exact Clock.follows_refl h
  · next hnone => exact ⟨hforward, fun r hr => by simp [hnone] at hr⟩

/-- SET CLOCK reads a day of two octets. -/
theorem readSetClock_day {l : List Byte} {t : Time} (h : readSetClock l = some t) : t.day ≤ 65535 := by
  unfold readSetClock at h
  split at h
  · cases h
    exact Nat.le_of_lt_succ (fieldAt_lt l 0 2)
  · cases h

theorem setClock_follows {s : State} (h : s.clock.formed) : s.clock.follows (setClock s).clock := by
  rcases s.directive_cases 0x01 readSetClock (fun tag t s =>
    if 86399 < t.second then s.refuse tag .refusedRange else s.clockTo tag t) with hs | ⟨d, -, hs | ⟨t, ht, hs⟩⟩ <;>
    rw [setClock, hs]
  · exact Clock.follows_refl h
  · exact Clock.follows_refl h
  · split
    · exact Clock.follows_refl h
    · exact State.clockTo_follows (s := s.takeDirective d) h d.tag (readSetClock_day ht) (by omega)

/-- Settles O55: the four commands that can change the clock, and POWER_ON's reset of it. -/
theorem clockNeverGoesBack : Obligations.ClockNeverGoesBack := by
  intro s t hsound hranged ht
  have hform : s.clock.formed := ⟨hsound, hranged⟩
  unfold step at ht
  split at ht
  · next hidle =>
    rw [Host.Outcome.next.injEq] at ht
    subst ht
    obtain ⟨hf, hr⟩ := Clock.follows_refl hform
    exact ⟨hf.1, hf.2, fun r h _ => hr r h⟩
  · next c rest hfront =>
    have hkept : s.clock.follows t.clock ∨ c = .powerOn := by
      by_cases hclock : t.clock = s.clock
      · rw [hclock]; exact .inl (Clock.follows_refl hform)
      · obtain ⟨-, hown, -⟩ := exec_owns ht
        have hmem := hown hclock
        simp only [List.mem_cons, List.not_mem_nil, or_false] at hmem
        rcases hmem with rfl | rfl | rfl | rfl
        · exact .inr rfl
        · exact .inl (Host.Outcome.next.inj ht ▸ clockSecond_follows (s := s.withPending rest) hform)
        · exact .inl (Host.Outcome.next.inj ht ▸ holdRemainderEnd_follows (s := s.withPending rest) hform)
        · exact .inl (Host.Outcome.next.inj ht ▸ setClock_follows (s := s.withPending rest) hform)
    rcases hkept with ⟨hf, hr⟩ | rfl
    · exact ⟨hf.1, hf.2, fun r h _ => hr r h⟩
    · obtain rfl := Host.Outcome.next.inj ht
      exact ⟨rfl, rfl, fun r _ hne => absurd (by rw [hfront]; rfl) hne⟩

end Sys2Proof.Machine
end

section
/-! The Settlement Map: what a command makes of a day's flag and entry (R41, R42). -/

namespace Sys2Proof.Machine

/-! ### An accepted file settles no day -/

theorem State.startTimer_settled (s : State) (l) : (s.startTimer l).tracker.settled = s.tracker.settled := by
  unfold State.startTimer
  split <;> rfl
theorem State.raiseAll_tracker (s : State) (es) : (s.raiseAll es).tracker = s.tracker := by
  unfold State.raiseAll
  induction es generalizing s with
  | nil => rfl
  | cons e es ih => exact ih _
theorem State.checkSequence_settled (s : State) (f) : (s.checkSequence f).tracker.settled = s.tracker.settled := by
  unfold State.checkSequence
  dsimp only
  split
  · rfl
  · split_ifs <;> rfl
theorem State.ensureDay_settled (s : State) (d) : (s.ensureDay d).tracker.settled = s.tracker.settled := by
  unfold State.ensureDay
  split <;> rfl
theorem State.ensureRecord_settled (s : State) (f) : (s.ensureRecord f).tracker.settled = s.tracker.settled := by
  unfold State.ensureRecord
  split
  · rfl
  · rfl
  · dsimp only
    split
    · rfl
    · split
      · rfl
      · rw [State.addLateRecord, State.raiseAll_tracker]; rfl
theorem State.enterFile_settled (s : State) (l f r) : (s.enterFile l f r).tracker.settled = s.tracker.settled := by
  unfold State.enterFile
  split <;> rfl
theorem State.openOutcome_settled (s : State) (l f r) : (s.openOutcome l f r).tracker.settled = s.tracker.settled := by
  unfold State.openOutcome
  split
  · exact s.checkSequence_settled f
  · rw [State.checkSequence_settled]
    exact (State.enterFile_settled ..).trans ((State.ensureRecord_settled ..).trans (s.ensureDay_settled _))
theorem State.acceptFile_isSettled (s : State) (l f day) : (s.acceptFile l f).isSettled day = s.isSettled day := by
  simp only [State.isSettled, State.acceptFile, State.startTimer_settled, State.openOutcome_settled]
  rfl

/-! ### How a day comes to be settled -/

/-- A claim of one day: how it may stand, by its flag and the state of its entry. -/
def Standing.ofDay (day : Nat) (stands : Bool → Option DayState → Prop)
    (hsettles : ∀ flag, stands flag (some .closed) → stands (flag || decide (day < 65536)) none) : Standing :=
  { audit := False, budget := False, expiring := fun _ => True, days := fun d flag x => d = day → stands flag x
    settles := fun _ flag h hd => by subst hd; exact hsettles flag (h rfl) }

theorem State.meets_ofDay {s : State} {day : Nat} {stands hsettles}
    (h : stands (s.isSettled day) ((s.day? day).map DayEntry.state)) : s.Meets (.ofDay day stands hsettles) :=
  ⟨False.elim, False.elim, fun _ _ _ => trivial, fun _ hd => hd ▸ h⟩

theorem State.Meets.stands {s : State} {day : Nat} {stands hsettles} (h : s.Meets (.ofDay day stands hsettles)) :
    stands (s.isSettled day) ((s.day? day).map DayEntry.state) := h.days day rfl

/-- A settled day. -/
def Standing.settledDay (day : Nat) : Standing :=
  .ofDay day (fun flag _ => flag = true) fun _ h => by rw [h]; rfl

/-- A day as it stands in `s`, or without its entry where that is CLOSED. -/
def Standing.testedDay (s : State) (day : Nat) : Standing :=
  .ofDay day (fun flag x => (flag = s.isSettled day ∧ x = (s.day? day).map DayEntry.state)
    ∨ ((s.day? day).map DayEntry.state = some .closed ∧ x = none)) fun _ h => by
      rcases h with ⟨-, h⟩ | ⟨-, h⟩
      · exact .inr ⟨h.symm, rfl⟩
      · cases h

/-- A day as it stands in `s` but for its state, or without its entry. -/
def Standing.shutDay (s : State) (day : Nat) : Standing :=
  .ofDay day (fun flag x => (flag = s.isSettled day ∧ x.isSome = (s.day? day).isSome)
    ∨ ((s.day? day).isSome = true ∧ x = none)) fun _ h => by
      rcases h with ⟨-, h⟩ | ⟨-, h⟩
      · exact .inr ⟨h.symm, rfl⟩
      · cases h

/-- Nothing but POWER_ON clears a Settlement Map flag. -/
theorem exec_keeps_settled {c : Instr} {s t : State} {day : Nat} (ht : exec c s = .next t) (hc : c ≠ .powerOn)
    (hday : s.isSettled day = true) : t.isSettled day = true := by
  have hs : s.Meets (.settledDay day) := State.meets_ofDay hday
  refine (exec_meets hs ⟨fun h => absurd h hc, ?_, ?_, ?_, fun _ _ _ _ _ _ _ => trivial⟩ ht).stands
  · exact fun _ d x h hd => h hd
  · exact fun _ d flag x h hd => h hd
  · exact fun _ d flag x h hd => rfl

/-- The opening of a file settles a day only by the abort of the file that is open on the lane. -/
theorem State.openFile_settles {s u : State} {day : Nat} (hs : s.isSettled day = false)
    (hm : u.Meets (.testedDay s day)) (l : LaneNo) (f : FileInfo) (time : Option Time)
    (ht : (u.openFile l f time).isSettled day = true) :
    ∃ d, s.day? day = some d ∧ d.state = .closed ∧ (u.openFile l f time).day? day = none := by
  have hu := hm.abortFile l .superseded
  cases hrefuse : (u.abortFile l .superseded).refusal f with
  | some c =>
    simp only [State.openFile, hrefuse] at ht ⊢
    rcases (hu.refuseFile l f time c).stands with ⟨hflag, -⟩ | ⟨hclosed, hnone⟩
    · rw [ht, hs] at hflag; cases hflag
    · obtain ⟨d, hd, hst⟩ := Option.map_eq_some_iff.mp hclosed
      exact ⟨d, hd, hst, Option.map_eq_none_iff.mp hnone⟩
  | none =>
    simp only [State.openFile, hrefuse] at ht ⊢
    rw [State.acceptFile_isSettled] at ht
    rcases hu.stands with ⟨hflag, -⟩ | ⟨hclosed, hnone⟩
    · rw [ht, hs] at hflag; cases hflag
    · obtain ⟨d, hd, hst⟩ := Option.map_eq_some_iff.mp hclosed
      have hgone : (u.abortFile l .superseded).Meets
          (.ofDay day (fun flag x => flag = true ∧ x = none) fun _ h => nomatch h.2) :=
        State.meets_ofDay ⟨ht, hnone⟩
      have hnot : Standing.Opens (.ofDay day (fun flag x => flag = true ∧ x = none) fun _ h => nomatch h.2) :=
        fun _ _ h hday => nomatch (h hday).1
      exact ⟨d, hd, hst, Option.map_eq_none_iff.mp (hgone.acceptFile hnot l f).stands.2⟩

/-- A FILE_OPEN settles a day only by the abort of the file that is open on the lane. -/
theorem takeFileOpen_settles {s : State} {day : Nat} (hs : s.isSettled day = false)
    (ht : (takeFileOpen s).isSettled day = true) :
    ∃ d, s.day? day = some d ∧ d.state = .closed ∧ (takeFileOpen s).day? day = none := by
  have hm : s.Meets (.testedDay s day) := State.meets_ofDay (.inl ⟨rfl, rfl⟩)
  cases hhead : s.headFrame with
  | none => simp only [takeFileOpen, hhead, hs, Bool.false_eq_true] at ht
  | some fr =>
    obtain ⟨l, body, time⟩ := fr
    cases body with
    | opening source n slot seq =>
      simp only [takeFileOpen, hhead] at ht ⊢
      exact State.openFile_settles hs hm.popFrame l _ time ht
    | data _ | closing _ _ | aborting => simp only [takeFileOpen, hhead, hs, Bool.false_eq_true] at ht

/-- A command other than those of a scan settles a day only whose entry is CLOSED, or closed by the command, and frees it. -/
theorem exec_settles {c : Instr} {s t : State} {day : Nat} (ht : exec c s = .next t) (hs : s.isSettled day = false)
    (hday : t.isSettled day = true) (hscan : ¬ (c = .decodeComplete ∨ (∃ u a data, c = .beatAccept u a data)
      ∨ (∃ u a, c = .beatError u a) ∨ ∃ u k, c = .ackTimerExpiry u k)) :
    ∃ d, s.day? day = some d ∧ (d.state = .closed ∨ c ∈ [.closeDay, .setClock] ∨ ∃ n, c = .closeDeadlineReached n)
      ∧ t.day? day = none := by
  by_cases hcloses : c ∈ [.closeDay, .setClock] ∨ ∃ n, c = .closeDeadlineReached n
  · have hm : s.Meets (.shutDay s day) := State.meets_ofDay (.inl ⟨rfl, by simp⟩)
    have hc : Instr.Allowed c s (.shutDay s day) := by
      refine ⟨?_, ?_, fun _ d flag x h hd => ?_, fun h => absurd h hscan, fun _ _ _ _ _ _ _ => trivial⟩
      · rintro rfl; simp at hcloses
      · rintro rfl; simp at hcloses
      · exact (h hd).imp id fun h => nomatch h.2
    rcases (exec_meets hm hc ht).stands with ⟨hflag, -⟩ | ⟨hsome, hnone⟩
    · rw [hday, hs] at hflag; cases hflag
    · obtain ⟨d, hd⟩ := Option.isSome_iff_exists.mp hsome
      exact ⟨d, hd, .inr hcloses, Option.map_eq_none_iff.mp hnone⟩
  · by_cases hopen : c = .takeFileOpen
    · subst hopen
      obtain rfl := Host.Outcome.next.inj ht
      obtain ⟨d, hd, hst, hnone⟩ := takeFileOpen_settles hs hday
      exact ⟨d, hd, .inl hst, hnone⟩
    · by_cases hpower : c = .powerOn
      · subst hpower
        obtain rfl := Host.Outcome.next.inj ht
        have hclear : (powerOn s).isSettled day = false := BitVec.getLsbD_zero
        rw [hclear] at hday
        cases hday
      · have hm : s.Meets (.testedDay s day) := State.meets_ofDay (.inl ⟨rfl, rfl⟩)
        have hc : Instr.Allowed c s (.testedDay s day) :=
          ⟨fun h => absurd h hpower, fun h => absurd h hopen, fun h => absurd h hcloses, fun h => absurd h hscan,
            fun _ _ _ _ _ _ _ => trivial⟩
        rcases (exec_meets hm hc ht).stands with ⟨hflag, -⟩ | ⟨hclosed, hnone⟩
        · rw [hday, hs] at hflag; cases hflag
        · obtain ⟨d, hd, hst⟩ := Option.map_eq_some_iff.mp hclosed
          exact ⟨d, hd, .inl hst, Option.map_eq_none_iff.mp hnone⟩

/-! ### The tests of a day, as the statements say them -/

/-- The settlement test does what `settledIn` says. -/
theorem State.testSettlement_eq (s : State) (day : Nat) : s.testSettlement day = s.settledIn day := by
  unfold State.testSettlement State.settledIn
  cases s.day? day with
  | none => rfl
  | some d =>
    simp only [Option.any_some, DayEntry.canSettle]
    rfl

/-- Settles O23: each day is followed through a command by a claim of how it may stand. -/
theorem settlementIsForGood : Obligations.SettlementIsForGood := by
  refine ⟨fun c s t day => exec_keeps_settled, fun c s t day ht hs hday => ?_, fun s day => ?_⟩
  · by_cases hscan : c = .decodeComplete ∨ (∃ u a data, c = .beatAccept u a data)
      ∨ (∃ u a, c = .beatError u a) ∨ ∃ u k, c = .ackTimerExpiry u k
    · exact .inl hscan
    · exact .inr (exec_settles ht hs hday hscan)
  · rw [State.testSettlement_eq, State.settledIn]
    congr 1
    simp [Option.any_eq_true, and_assoc]

end Sys2Proof.Machine
end

section
/-! The intake link: arriving frames and the return direction (R158 to R166, R174, R180). -/

namespace Sys2Proof.Machine

/-! ### The findings of an arriving frame -/

/-- Header, payload and frame check are there. -/
theorem frameWhole_iff (f : List Byte) :
    ¬ (f.length < 8 ∨ frameShort f = true) ↔ 8 ≤ f.length ∧ 12 + fieldAt f 4 2 ≤ f.length := by
  have hshort : frameShort f = true ↔ f.length < 12 + fieldAt f 4 2 := decide_eq_true_iff
  rw [hshort]
  omega

theorem length_framePayload {f : List Byte} (h : 12 + fieldAt f 4 2 ≤ f.length) :
    (framePayload f).length = fieldAt f 4 2 :=
  length_slice (by simp only [frameLength]; omega)

theorem slice_slice (l : List Byte) {off len i n : Nat} (h : i + n ≤ len) :
    slice (slice l off len) i n = slice l (off + i) n := by
  simp only [slice, List.drop_take, List.take_take, List.drop_drop]
  congr 1
  omega

/-- A field inside the payload of a frame. -/
theorem fieldAt_framePayload (f : List Byte) {i n : Nat} (h : i + n ≤ fieldAt f 4 2) :
    fieldAt (framePayload f) i n = fieldAt f (8 + i) n :=
  congrArg beNat (slice_slice f h)

/-- A frame is a length fault, fails its check, or is routed. -/
theorem frameFinding_cases (f : List Byte) :
    let whole := 8 ≤ f.length ∧ 12 + fieldAt f 4 2 ≤ f.length
    let checked := fieldAt f (8 + fieldAt f 4 2) 4 = (crc32 (f.take (8 + fieldAt f 4 2))).toNat
    (¬ whole ∧ frameFinding f = .lengthFault)
    ∨ (whole ∧ ¬ checked ∧ frameFinding f = .checkFailure)
    ∨ (whole ∧ checked ∧ 8192 < fieldAt f 4 2 ∧ frameFinding f = .lengthFault)
    ∨ (whole ∧ checked ∧ fieldAt f 4 2 ≤ 8192 ∧ frameFinding f = routeFrame f) := by
  intro whole checked
  have hw := frameWhole_iff f
  have hc : frameCheckOk f = true ↔ checked := decide_eq_true_iff
  unfold frameFinding
  by_cases h1 : f.length < 8 ∨ frameShort f = true
  · exact .inl ⟨fun h => hw.mpr h h1, if_pos h1⟩
  · rw [if_neg h1]
    by_cases h2 : frameCheckOk f = true
    · rw [if_neg (not_not_intro h2)]
      by_cases h3 : 8192 < frameLength f
      · exact .inr (.inr (.inl ⟨hw.mp h1, hc.mp h2, h3, if_pos h3⟩))
      · exact .inr (.inr (.inr ⟨hw.mp h1, hc.mp h2, Nat.le_of_not_lt h3, if_neg h3⟩))
    · exact .inr (.inl ⟨hw.mp h1, fun h => h2 (hc.mpr h), if_pos h2⟩)

/-- What the routing of a FILE frame on a lane finds. -/
theorem routeFrame_file {f : List Byte} (hfam : octetAt f 0 = 1) (l : LaneNo) (hl : fieldAt f 2 2 = l.val) :
    routeFrame f = fileFinding l (octetAt f 1) (framePayload f) := by
  have h8 : fieldAt f 2 2 < 8 := hl ▸ l.isLt
  have hfin : (⟨fieldAt f 2 2, h8⟩ : LaneNo) = l := Fin.ext hl
  simp only [routeFrame, hfam, familyFile, if_true, h8, dif_pos, hfin]

theorem routeFrame_badLane {f : List Byte} (hfam : octetAt f 0 = 1) (hl : ¬ fieldAt f 2 2 ≤ 7) :
    routeFrame f = .unknownKind := by
  have h8 : ¬ fieldAt f 2 2 < 8 := by omega
  simp [routeFrame, hfam, familyFile, h8]

theorem routeFrame_directive {f : List Byte} (hfam : octetAt f 0 = 2) :
    routeFrame f = if octetAt f 1 = 0 then .sound .linkReset
      else .sound (.directive { code := octetAt f 1, tag := BitVec.ofNat 16 (fieldAt f 2 2), payload := framePayload f }) := by
  simp [routeFrame, hfam, familyFile, familyDirective]

theorem routeFrame_other {f : List Byte} (h1 : octetAt f 0 ≠ 1) (h2 : octetAt f 0 ≠ 2) : routeFrame f = .unknownKind := by
  simp [routeFrame, familyFile, familyDirective, h1, h2]

/-- The body of a FILE frame of a kind and a fitting length, by the octets of the frame. -/
def fileBodyOf (octets : List Byte) : FileBody :=
  if octetAt octets 1 = 1 then
    .opening (fieldAt octets 8 2) (fieldAt octets 10 2) (octetAt octets 12) (fieldAt octets 14 2)
  else if octetAt octets 1 = 2 then .data ((octets.drop 8).take (fieldAt octets 4 2))
  else if octetAt octets 1 = 3 then .closing (fieldAt octets 8 4) (BitVec.ofNat 32 (fieldAt octets 12 4))
  else .aborting

/-- The finding of a FILE frame: a wrong length of its kind, no such kind, or the body as its octets give it. -/
theorem fileFinding_eq {f : List Byte} (l : LaneNo) (h : 12 + fieldAt f 4 2 ≤ f.length) :
    fileFinding l (octetAt f 1) (framePayload f) =
      if ¬ ((octetAt f 1 = 1 ∨ octetAt f 1 = 3 → fieldAt f 4 2 = 8) ∧ (octetAt f 1 = 4 → fieldAt f 4 2 = 0)) then
        .lengthFault
      else if 1 ≤ octetAt f 1 ∧ octetAt f 1 ≤ 4 then .sound (.file l (fileBodyOf f)) else .unknownKind := by
  have hlen := length_framePayload h
  unfold fileFinding fileBodyOf
  rw [hlen]
  by_cases k1 : octetAt f 1 = 1
  · by_cases h8 : fieldAt f 4 2 = 8
    · have hsource := fieldAt_framePayload f (show 0 + 2 ≤ fieldAt f 4 2 by omega)
      have hday := fieldAt_framePayload f (show 2 + 2 ≤ fieldAt f 4 2 by omega)
      have hslot : octetAt (framePayload f) 4 = octetAt f 12 := fieldAt_framePayload f (by omega)
      have hseq := fieldAt_framePayload f (show 6 + 2 ≤ fieldAt f 4 2 by omega)
      simp [k1, h8, hsource, hday, hslot, hseq]
    · simp [k1, h8]
  by_cases k2 : octetAt f 1 = 2
  · simp [k2, framePayload, slice, frameLength]
  by_cases k3 : octetAt f 1 = 3
  · by_cases h8 : fieldAt f 4 2 = 8
    · have hdeclared := fieldAt_framePayload f (show 0 + 4 ≤ fieldAt f 4 2 by omega)
      have hcrc := fieldAt_framePayload f (show 4 + 4 ≤ fieldAt f 4 2 by omega)
      simp [k3, h8, hdeclared, hcrc]
    · simp [k3, h8]
  by_cases k4 : octetAt f 1 = 4
  · by_cases h0 : fieldAt f 4 2 = 0 <;> simp [k4, h0]
  · have hk : ¬ (1 ≤ octetAt f 1 ∧ octetAt f 1 ≤ 4) := by omega
    simp [k1, k2, k3, k4, hk]

/-- What the routing of a frame finds, by its family, kind and lane. -/
theorem routeFrame_cases {f : List Byte} (h : 12 + fieldAt f 4 2 ≤ f.length) :
    let fits := octetAt f 0 = 1 → fieldAt f 2 2 ≤ 7 →
      (octetAt f 1 = 1 ∨ octetAt f 1 = 3 → fieldAt f 4 2 = 8) ∧ (octetAt f 1 = 4 → fieldAt f 4 2 = 0)
    (¬ fits ∧ routeFrame f = .lengthFault)
    ∨ (fits ∧ ¬ (octetAt f 0 = 2 ∨ octetAt f 0 = 1 ∧ fieldAt f 2 2 ≤ 7 ∧ 1 ≤ octetAt f 1 ∧ octetAt f 1 ≤ 4)
      ∧ routeFrame f = .unknownKind)
    ∨ (fits ∧ octetAt f 0 = 1 ∧ (1 ≤ octetAt f 1 ∧ octetAt f 1 ≤ 4)
      ∧ ∃ l : LaneNo, fieldAt f 2 2 = l.val ∧ routeFrame f = .sound (.file l (fileBodyOf f)))
    ∨ (fits ∧ octetAt f 0 = 2 ∧ octetAt f 1 = 0 ∧ routeFrame f = .sound .linkReset)
    ∨ (fits ∧ octetAt f 0 = 2 ∧ octetAt f 1 ≠ 0 ∧ routeFrame f = .sound (.directive
        { code := octetAt f 1, tag := BitVec.ofNat 16 (fieldAt f 2 2), payload := framePayload f })) := by
  intro fits
  by_cases h1 : octetAt f 0 = 1
  · by_cases hl : fieldAt f 2 2 ≤ 7
    · have hroute := routeFrame_file h1 ⟨fieldAt f 2 2, by omega⟩ rfl
      rw [fileFinding_eq _ h] at hroute
      by_cases hfit : (octetAt f 1 = 1 ∨ octetAt f 1 = 3 → fieldAt f 4 2 = 8) ∧ (octetAt f 1 = 4 → fieldAt f 4 2 = 0)
      · rw [if_neg (not_not_intro hfit)] at hroute
        by_cases hk : 1 ≤ octetAt f 1 ∧ octetAt f 1 ≤ 4
        · exact .inr (.inr (.inl ⟨fun _ _ => hfit, h1, hk, _, rfl, by rw [hroute, if_pos hk]⟩))
        · refine .inr (.inl ⟨fun _ _ => hfit, ?_, by rw [hroute, if_neg hk]⟩)
          rintro (h2 | ⟨-, -, hk'⟩)
          · omega
          · exact hk hk'
      · exact .inl ⟨fun hf => hfit (hf h1 hl), by rw [hroute, if_pos hfit]⟩
    · refine .inr (.inl ⟨fun _ hl' => absurd hl' hl, ?_, routeFrame_badLane h1 hl⟩)
      rintro (h2 | ⟨-, hl', -⟩)
      · omega
      · exact hl hl'
  by_cases h2 : octetAt f 0 = 2
  · have hroute := routeFrame_directive h2
    by_cases h0 : octetAt f 1 = 0
    · exact .inr (.inr (.inr (.inl ⟨fun h => absurd h h1, h2, h0, by rw [hroute, if_pos h0]⟩)))
    · exact .inr (.inr (.inr (.inr ⟨fun h => absurd h h1, h2, h0, by rw [hroute, if_neg h0]⟩)))
  · refine .inr (.inl ⟨fun h => absurd h h1, ?_, routeFrame_other h1 h2⟩)
    rintro (h | ⟨h, -⟩)
    · exact h2 h
    · exact h1 h

/-- Each finding, in the octets of the frame. -/
theorem frameFinding_iff (octets : List Byte) :
    let family := octetAt octets 0
    let kind := octetAt octets 1
    let lane := fieldAt octets 2 2
    let len := fieldAt octets 4 2
    let whole : Prop := 8 ≤ octets.length ∧ 12 + len ≤ octets.length
    let checked : Prop := fieldAt octets (8 + len) 4 = (crc32 (octets.take (8 + len))).toNat
    let routed : Prop := family = 2 ∨ family = 1 ∧ lane ≤ 7 ∧ 1 ≤ kind ∧ kind ≤ 4
    let fitting : Prop := len ≤ 8192
      ∧ (family = 1 → lane ≤ 7 → (kind = 1 ∨ kind = 3 → len = 8) ∧ (kind = 4 → len = 0))
    (frameFinding octets = .checkFailure ↔ whole ∧ ¬ checked)
    ∧ (frameFinding octets = .lengthFault ↔ ¬ whole ∨ checked ∧ ¬ fitting)
    ∧ (frameFinding octets = .unknownKind ↔ whole ∧ checked ∧ fitting ∧ ¬ routed)
    ∧ (frameFinding octets = .sound .linkReset ↔ whole ∧ checked ∧ fitting ∧ family = 2 ∧ kind = 0)
    ∧ (∀ d, frameFinding octets = .sound (.directive d) ↔ whole ∧ checked ∧ fitting ∧ family = 2 ∧ kind ≠ 0
        ∧ d = { code := kind, tag := BitVec.ofNat 16 lane, payload := (octets.drop 8).take len })
    ∧ ∀ (l : LaneNo) (b : FileBody), frameFinding octets = .sound (.file l b) ↔
        whole ∧ checked ∧ fitting ∧ routed ∧ family = 1 ∧ lane = l.val ∧ b = fileBodyOf octets := by
  intro family kind lane len whole checked routed fitting
  have hcases : (¬ whole ∧ frameFinding octets = .lengthFault)
      ∨ (whole ∧ ¬ checked ∧ frameFinding octets = .checkFailure)
      ∨ (whole ∧ checked ∧ ¬ fitting ∧ frameFinding octets = .lengthFault)
      ∨ (whole ∧ checked ∧ fitting ∧ ¬ routed ∧ frameFinding octets = .unknownKind)
      ∨ (whole ∧ checked ∧ fitting ∧ routed ∧ family = 1
        ∧ ∃ l : LaneNo, lane = l.val ∧ frameFinding octets = .sound (.file l (fileBodyOf octets)))
      ∨ (whole ∧ checked ∧ fitting ∧ family = 2 ∧ kind = 0 ∧ frameFinding octets = .sound .linkReset)
      ∨ (whole ∧ checked ∧ fitting ∧ family = 2 ∧ kind ≠ 0 ∧ frameFinding octets = .sound (.directive
        { code := kind, tag := BitVec.ofNat 16 lane, payload := (octets.drop 8).take len })) := by
    rcases frameFinding_cases octets with h | h | ⟨hw, hc, hlen, h⟩ | ⟨hw, hc, hlen, h⟩
    · exact .inl h
    · exact .inr (.inl h)
    · exact .inr (.inr (.inl ⟨hw, hc, fun hf => Nat.not_lt.mpr hf.1 hlen, h⟩))
    · rcases routeFrame_cases hw.2 with ⟨hf, hr⟩ | ⟨hf, hnot, hr⟩ | ⟨hf, hfam, hk, l, hl, hr⟩ | ⟨hf, hfam, hk, hr⟩ | ⟨hf, hfam, hk, hr⟩
      · exact .inr (.inr (.inl ⟨hw, hc, fun hfit => hf hfit.2, h.trans hr⟩))
      · exact .inr (.inr (.inr (.inl ⟨hw, hc, ⟨hlen, hf⟩, hnot, h.trans hr⟩)))
      · exact .inr (.inr (.inr (.inr (.inl ⟨hw, hc, ⟨hlen, hf⟩,
          .inr ⟨hfam, by simp only [lane]; omega, hk⟩, hfam, l, hl, h.trans hr⟩))))
      · exact .inr (.inr (.inr (.inr (.inr (.inl ⟨hw, hc, ⟨hlen, hf⟩, hfam, hk, h.trans hr⟩)))))
      · exact .inr (.inr (.inr (.inr (.inr (.inr ⟨hw, hc, ⟨hlen, hf⟩, hfam, hk, h.trans hr⟩)))))
  have hdirective : family = 2 → routed := Or.inl
  clear_value whole checked routed fitting
  rcases hcases with ⟨hw, h⟩ | ⟨hw, hc, h⟩ | ⟨hw, hc, hf, h⟩ | ⟨hw, hc, hf, hr, h⟩ | ⟨hw, hc, hf, hr, hfam, l, hl, h⟩
    | ⟨hw, hc, hf, hfam, hk, h⟩ | ⟨hw, hc, hf, hfam, hk, h⟩
  · simp [h, hw]
  · simp [h, hw, hc]
  · simp [h, hw, hc, hf]
  · have h2 : family ≠ 2 := fun h2 => hr (hdirective h2)
    simp [h, hw, hc, hf, hr, h2]
  · simp [h, hw, hc, hf, hr, hfam, hl, Fin.ext_iff, eq_comm]
  · simp [h, hw, hc, hf, hfam, hk, hdirective hfam]
  · simp [h, hw, hc, hf, hfam, hk, hdirective hfam, eq_comm]

/-! ### Directives that arrive -/

theorem frameArrival_of_up {s : State} (h : s.port.link = .up) {octets : List Byte} {a : Arrival}
    (hf : frameFinding octets = .sound a) : exec (.frameArrival octets) s = .next (s.routeArrival a) := by
  refine congrArg Host.Outcome.next (?_ : frameArrival octets s = s.routeArrival a)
  simp only [frameArrival, h, hf]

theorem up_eq (n : Nat) : up n = min (n + 1) 4294967295 := rfl

/-- Settles O8: the decoder's queue, a BUSY place, or neither. -/
theorem directiveArrival : Obligations.DirectiveArrival := by
  intro s octets d hlink hfind free s1
  rw [frameArrival_of_up hlink hfind]
  have hbusy : (s.onCounters fun c => { c with received := up c.received }).port.busyPlaces = free := rfl
  refine congrArg Host.Outcome.next ?_
  simp only [State.routeArrival, State.directiveArrives, hbusy]
  by_cases h8 : s.port.directives.length < 8
  · exact (if_pos h8).trans (if_pos h8).symm
  by_cases hfree : 0 < free
  · exact (if_neg h8).trans (((if_pos hfree).trans (if_pos hfree).symm).trans (if_neg h8).symm)
  · exact (if_neg h8).trans (((if_neg hfree).trans (if_neg hfree).symm).trans (if_neg h8).symm)

/-! ### The return direction -/

theorem Notices.sendable_iff (n : Notices) (i : Fin 8) :
    n.sendable i = true ↔ (vget n.sources i).flag = true ∧ (vget n.sources i).enable = true ∧ n.master = true := by
  simp [Notices.sendable, and_assoc]

/-- The lowest sendable source is sendable, and none below it is. -/
theorem Notices.lowest_eq_some {n : Notices} {i : Fin 8} (h : n.lowest = some i) :
    n.sendable i = true ∧ ∀ j < i, n.sendable j = false := by
  have hall : ∀ i : Fin 8, allSources[i.val]? = some i := by decide
  obtain ⟨hi, k, hk, hget, hbefore⟩ := List.find?_eq_some_iff_getElem.mp h
  refine ⟨hi, fun j hj => ?_⟩
  have hk8 : k < 8 := hk
  have hki : (⟨k, hk8⟩ : Fin 8) = i := by
    have := hall ⟨k, hk8⟩
    rw [List.getElem?_eq_getElem hk, hget] at this
    exact (Option.some.inj this).symm
  have hjk : j.val < k := by rw [← hki] at hj; exact hj
  have hj8 : j.val < allSources.length := j.isLt
  have hjget : allSources[j.val] = j := by
    have := hall j
    rwa [List.getElem?_eq_getElem hj8, Option.some.injEq] at this
  have := hbefore j.val hjk
  simpa [hjget] using this

theorem Notices.lowest_eq_none {n : Notices} (h : n.lowest = none) (j : Fin 8) : n.sendable j = false := by
  have hall : ∀ i : Fin 8, i ∈ allSources := by decide
  simpa using List.find?_eq_none.mp h j (hall j)

/-- The arbiter's choice in each mode. -/
theorem Notices.choose_spec (n : Notices) :
    (n.mode = .silent → n.choose = none)
    ∧ (∀ i, n.choose = some i →
        (vget n.sources i).flag = true ∧ (vget n.sources i).enable = true ∧ n.master = true ∧ n.mode ≠ .silent
        ∧ (n.mode = .promote ∧ i = n.promoted
          ∨ ∀ j : Fin 8, j < i → ¬ ((vget n.sources j).flag = true ∧ (vget n.sources j).enable = true)))
    ∧ (n.mode = .promote → n.master = true → (vget n.sources n.promoted).flag = true →
        (vget n.sources n.promoted).enable = true → n.choose = some n.promoted)
    ∧ (n.choose = none → n.mode ≠ .silent → n.master = true →
        ∀ j, ¬ ((vget n.sources j).flag = true ∧ (vget n.sources j).enable = true)) := by
  have hlowest : ∀ i, n.lowest = some i → n.mode ≠ .silent →
      (vget n.sources i).flag = true ∧ (vget n.sources i).enable = true ∧ n.master = true ∧ n.mode ≠ .silent
      ∧ (n.mode = .promote ∧ i = n.promoted
        ∨ ∀ j : Fin 8, j < i → ¬ ((vget n.sources j).flag = true ∧ (vget n.sources j).enable = true)) := by
    intro i hi hmode
    obtain ⟨hs, hbelow⟩ := Notices.lowest_eq_some hi
    obtain ⟨hflag, henable, hmaster⟩ := (n.sendable_iff i).mp hs
    refine ⟨hflag, henable, hmaster, hmode, .inr fun j hj ⟨hf, he⟩ => ?_⟩
    exact absurd ((n.sendable_iff j).mpr ⟨hf, he, hmaster⟩) (by simp [hbelow j hj])
  have hnone : n.lowest = none → n.master = true →
      ∀ j, ¬ ((vget n.sources j).flag = true ∧ (vget n.sources j).enable = true) :=
    fun h hmaster j ⟨hf, he⟩ =>
      absurd ((n.sendable_iff j).mpr ⟨hf, he, hmaster⟩) (by simp [Notices.lowest_eq_none h j])
  cases hmode : n.mode with
  | fixed =>
    have hchoose : n.choose = n.lowest := by simp only [Notices.choose, hmode]
    rw [hmode] at hlowest
    rw [hchoose]
    exact ⟨nofun, fun i hi => hlowest i hi nofun, nofun, fun h _ => hnone h⟩
  | silent =>
    have hchoose : n.choose = none := by simp only [Notices.choose, hmode]
    rw [hchoose]
    exact ⟨fun _ => rfl, nofun, nofun, fun _ h => absurd rfl h⟩
  | promote =>
    have hchoose : n.choose = if n.sendable n.promoted then some n.promoted else n.lowest := by
      simp only [Notices.choose, hmode]
    rw [hmode] at hlowest
    rw [hchoose]
    by_cases hp : n.sendable n.promoted = true
    · obtain ⟨hflag, henable, hmaster⟩ := (n.sendable_iff _).mp hp
      rw [if_pos hp]
      exact ⟨nofun, fun i hi => Option.some.inj hi ▸ ⟨hflag, henable, hmaster, nofun, .inl ⟨rfl, rfl⟩⟩,
        fun _ _ _ _ => rfl, nofun⟩
    · rw [if_neg hp]
      exact ⟨nofun, fun i hi => hlowest i hi nofun,
        fun _ hm hf he => absurd ((n.sendable_iff _).mpr ⟨hf, he, hm⟩) hp, fun h _ => hnone h⟩

section
variable {s : State}

theorem returnFrameBegin_idle (h : s.port.link = .lost ∨ s.port.sending ≠ none) : returnFrameBegin s = s := by
  unfold returnFrameBegin
  split
  · next hlink hsend => simp_all
  · rfl

theorem returnFrameBegin_flow (hlink : s.port.link = .up) (hsend : s.port.sending = none) {f : Flow}
    (hf : s.port.flowSlot = some f) :
    returnFrameBegin s = s.onPort fun p => { p with sending := some (.flow f), flowSlot := none } := by
  simp only [returnFrameBegin, hlink, hsend, hf]

theorem returnFrameBegin_afterFlow (hlink : s.port.link = .up) (hsend : s.port.sending = none)
    (hf : s.port.flowSlot = none) : returnFrameBegin s = s.beginAfterFlow := by
  simp only [returnFrameBegin, hlink, hsend, hf]

theorem State.beginAfterFlow_reply {r : Reply} {rs : List Reply} (h : s.port.replies = r :: rs) :
    s.beginAfterFlow = s.onPort fun p => { p with sending := some (.reply r true) } := by
  simp only [State.beginAfterFlow, h]

theorem State.beginAfterFlow_notice (h : s.port.replies = []) {i : Fin 8} (hi : s.notices.choose = some i) :
    s.beginAfterFlow = s.beginNotice i := by
  simp only [State.beginAfterFlow, h, hi]

theorem State.beginAfterFlow_records (h : s.port.replies = []) (hi : s.notices.choose = none) :
    s.beginAfterFlow = s.beginRecords := by
  simp only [State.beginAfterFlow, h, hi]

theorem State.beginRecords_offered {f : RecordsFrame} {fs : List RecordsFrame} (h : s.audit.output = f :: fs) :
    s.beginRecords = s.onPort fun p => { p with sending := some (.records f true) } := by
  simp only [State.beginRecords, h]

theorem State.beginRecords_none (h : s.audit.output = []) : s.beginRecords = s := by
  simp only [State.beginRecords, h]

end

/-- Settles O9: the order of R164, and the arbiter's choice. -/
theorem returnFrameOrder : Obligations.ReturnFrameOrder := by
  refine ⟨fun s => ⟨fun h => ?_, fun hlink hsend => ⟨fun f hf => ?_, fun hflow => ⟨fun r rs hr => ?_, fun hr =>
    ⟨fun i hi => ?_, fun hi => ⟨fun f fs ho => ?_, fun ho => ?_⟩⟩⟩⟩⟩, Notices.choose_spec⟩
  all_goals refine congrArg Host.Outcome.next (?_ : returnFrameBegin s = _)
  · exact returnFrameBegin_idle h
  · exact returnFrameBegin_flow hlink hsend hf
  all_goals refine (returnFrameBegin_afterFlow hlink hsend hflow).trans ?_
  · exact State.beginAfterFlow_reply hr
  · exact State.beginAfterFlow_notice hr hi
  all_goals refine (State.beginAfterFlow_records hr hi).trans ?_
  · exact State.beginRecords_offered ho
  · exact State.beginRecords_none ho

/-- The return direction with the frame in progress sent and counted. -/
def State.sentOne (s : State) : State :=
  (s.onCounters fun c => { c with sent := up c.sent }).onPort fun p => { p with sending := none }

theorem returnFrameSent_reply {s : State} {r : Reply} (h : s.port.sending = some (.reply r true)) :
    returnFrameSent s = s.sentOne.onPort Port.freePlace := by
  simp only [returnFrameSent, h]; rfl

theorem returnFrameSent_records {s : State} {g : RecordsFrame} (h : s.port.sending = some (.records g true)) :
    returnFrameSent s = s.sentOne.recordsSent := by
  simp only [returnFrameSent, h]; rfl

/-- A frame that holds no place and no live output is only counted. -/
theorem returnFrameSent_plain {s : State} {f : Sending} (h : s.port.sending = some f) (hreply : ∀ r, f ≠ .reply r true)
    (hrecords : ∀ g, f ≠ .records g true) : returnFrameSent s = s.sentOne := by
  simp only [returnFrameSent, h]
  cases f with
  | flow f => rfl
  | notice src count time snap => rfl
  | reply r placed =>
    cases placed with
    | false => rfl
    | true => exact absurd rfl (hreply r)
  | records g live =>
    cases live with
    | false => rfl
    | true => exact absurd rfl (hrecords g)

theorem State.dequeueRequest_cons {s : State} {r : Request} {rs : List Request} (h : s.audit.requests = r :: rs) :
    s.dequeueRequest = (s.onAudit fun a => { a with requests := rs, active := none, readBuffer := [], output := [] }).onEntry
      r.segId fun e => { e with pins := e.pins - 1 } := by
  simp only [State.dequeueRequest, h]

theorem State.recordsSent_goesOn {s : State} (h : s.audit.output.tail ≠ []) :
    s.recordsSent = s.onAudit fun a => { a with output := a.output.tail } := if_neg h

theorem State.recordsSent_last {s : State} (h : s.audit.output.tail = []) :
    s.recordsSent = (s.onAudit fun a => { a with output := a.output.tail }).dequeueRequest := if_pos h

theorem Port.freePlaces_eq_zero (p : Port) : p.freePlaces = 0 ↔ 16 ≤ p.replies.length + p.reserved.length :=
  Nat.sub_eq_zero_iff_le

/-- Settles O10: by the frame that has been sent. -/
theorem returnFrameIsSent : Obligations.ReturnFrameSent := by
  intro s f hf p
  refine ⟨fun hreply hrecords => ?_, ?_, ?_, ?_⟩
  · exact congrArg Host.Outcome.next (returnFrameSent_plain hf hreply hrecords)
  · rintro r rfl
    refine congrArg Host.Outcome.next ((returnFrameSent_reply hf).trans ?_)
    have hfull := Port.freePlaces_eq_zero s.sentOne.port
    simp only [State.onPort, Port.freePlace, hfull]
    rfl
  · rintro g rfl hmore
    exact congrArg Host.Outcome.next ((returnFrameSent_records hf).trans (State.recordsSent_goesOn hmore))
  · rintro g r rs rfl hlast hr
    refine congrArg Host.Outcome.next ((returnFrameSent_records hf).trans ((State.recordsSent_last (s := s.sentOne) hlast).trans ?_))
    have hrest : (s.sentOne.onAudit fun a => { a with output := a.output.tail }).audit.requests = r :: rs := hr
    rw [State.dequeueRequest_cons hrest]
    simp only [State.onEntry, State.onDir, State.onAudit, State.sentOne, State.onCounters, State.onPort, up_eq, p]

end Sys2Proof.Machine
end

section
/-! The Segment Builder in the words of the statements: the ends a FLUSH counts, seals, discards and the resolving of
runs (R70 to R78). -/

namespace Sys2Proof.Machine

/-! ### Steps one after another -/

theorem through_foldl {α : Type} {r : α → State → State → Prop} {f : State → α → State} (h : ∀ s a, r a s (f s a))
    (l : List α) (s : State) : Through r l s (l.foldl f s) := by
  induction l generalizing s with
  | nil => rfl
  | cons a l ih => exact ⟨f s a, h s a, ih _⟩

/-! ### Flow state and waiting FLUSH -/

/-- The test of the flow state does what `flowTested` says. -/
theorem State.checkFlow_eq (s : State) : s.checkFlow = s.flowTested := by
  unfold State.checkFlow State.flowTested flowNext State.buffersInUse Config.flowHigh Config.flowLow
  cases hflow : s.port.flow with
  | go => by_cases h : 30 ≤ s.builder.buffers.length <;> simp [h, State.onPort]
  | pause => by_cases h : s.builder.buffers.length ≤ 26 ∧ s.engine = .running <;> simp [h, State.onPort]

/-- What the end of a segment adds to the counts of a waiting FLUSH. -/
theorem State.flushEnd_eq (s : State) (id : Nat) (k : FlushEnd) :
    s.flushEnd id k = s.flushCounts id (if k = .stored then 1 else 0) (if k = .stranded then 1 else 0)
      (if k = .discarded then 1 else 0) := by
  unfold State.flushEnd State.flushCounts
  cases s.builder.flush with
  | none => rfl
  | some w =>
    by_cases h : id ∈ w.awaited
    · cases k <;> simp only [List.contains_iff_mem, h, if_true, not_true, if_false, reduceCtorEq] <;> rfl
    · simp [h]

/-! ### Seals -/

theorem getElem?_fixDigests (rs : List RunRec) (bs : List BufRun) (i : Nat) :
    (fixDigests rs bs)[i]? = rs[i]?.map fun r => (bs[i]?).elim r (fixDigest r) := by
  induction rs generalizing bs i with
  | nil => cases bs <;> rfl
  | cons r rs ih =>
    cases bs with
    | nil => simp [fixDigests]
    | cons b bs =>
      cases i with
      | zero => rfl
      | succ i => exact ih bs i

/-- The runs as a seal leaves them. -/
theorem SegEntry.sealedBy_runs (e : SegEntry) (bits : List BufRun) (reason : SealReason) :
    (e.sealedBy bits reason).runs = fixDigests e.runs bits := by
  refine List.ext_getElem? fun i => ?_
  rw [getElem?_fixDigests]
  simp only [SegEntry.sealedBy, List.getElem?_mapIdx]
  refine Option.map_congr fun r _ => ?_
  cases bits[i]? with
  | none => rfl
  | some b =>
    obtain ⟨coded, ctx, reg⟩ := b
    cases reg <;> rfl

theorem SegEntry.hasProvisional_iff (e : SegEntry) : e.hasProvisional = true ↔ ∃ r ∈ e.runs, r.status = .provisional := by
  simp [SegEntry.hasProvisional, RunRec.isProvisional]

theorem SegEntry.allVoid_iff (e : SegEntry) : e.allVoid = true ↔ ∀ r ∈ e.runs, r.status = .void := by
  simp [SegEntry.allVoid]

/-- The entry as a seal leaves it. -/
theorem SegEntry.seal_eq (e : SegEntry) (bits : List BufRun) (reason : SealReason) :
    e.seal bits reason = e.sealedBy bits reason := by
  have hruns := e.sealedBy_runs bits reason
  unfold SegEntry.seal
  simp only [← hruns, e.hasProvisional_iff]
  rfl

/-- What a seal leaves. -/
theorem State.sealSegment_sealedTo (s : State) (reason : SealReason) (id : Nat) :
    s.SealedTo id reason (s.sealSegment reason id) := by
  unfold State.SealedTo State.sealSegment
  simp only [State.unindex, State.onEntry, State.onBuffer, State.onBuilder, State.onDir, State.onCommit, updateEntry,
    SegEntry.seal_eq]
  rfl

theorem State.sealAll_allSealedTo (s : State) (reason : SealReason) (ids : List Nat) :
    s.AllSealedTo ids reason (s.sealAll reason ids) :=
  through_foldl (fun s id => s.sealSegment_sealedTo reason id) ids s

/-! ### Discards -/

/-- A discard does what `withoutSegment` says. -/
theorem State.discardSegment_eq (s : State) (id : Nat) : s.discardSegment id = s.withoutSegment id := by
  unfold State.discardSegment State.withoutSegment
  rw [State.checkFlow_eq, State.flushEnd_eq]
  rfl

/-! ### Resolving the runs of a file -/

/-- The runs of the file on a lane resolved, and the counts of the FIRM ones added. -/
theorem SegEntry.resolve_eq (e : SegEntry) (l : LaneNo) (st : RunStatus) : e.resolve l st = e.resolvedAs l st := by
  unfold SegEntry.resolve SegEntry.resolvedAs SegEntry.firmed
  by_cases h : st = .firm <;> simp only [h, if_true, if_false, Nat.add_zero] <;> rfl

theorem getElem?_dropContexts (l : LaneNo) (rs : List RunRec) (bs : List BufRun) (i : Nat) :
    (dropContexts l rs bs)[i]? = bs[i]?.map fun b =>
      if (rs[i]?).any (fun y => y.lane = some l) then { b with ctx := none } else b := by
  induction rs generalizing bs i with
  | nil => cases bs <;> simp [dropContexts]
  | cons r rs ih =>
    cases bs with
    | nil => simp [dropContexts]
    | cons b bs =>
      cases i with
      | zero => simp [dropContexts]
      | succ i => simpa [dropContexts] using ih bs i

/-- The contexts of the file's runs are dropped. -/
theorem dropContexts_eq (l : LaneNo) (rs : List RunRec) (bs : List BufRun) :
    dropContexts l rs bs = bs.mapIdx fun i r =>
      if (rs[i]?).any (fun y => y.lane = some l) then { r with ctx := none } else r := by
  refine List.ext_getElem? fun i => ?_
  rw [getElem?_dropContexts, List.getElem?_mapIdx]

theorem find?_map_of_keeps {α : Type} {p : α → Bool} {f : α → α} (h : ∀ x, p (f x) = p x) (l : List α) :
    (l.map f).find? p = (l.find? p).map f := by
  rw [List.find?_map]
  exact congrArg _ (congrArg (fun q => l.find? q) (funext h))

/-- The entry of an id after a change of that entry that keeps its id. -/
theorem State.entry?_onEntry (s : State) (id j : Nat) {f : SegEntry → SegEntry} (hf : ∀ e, (f e).id = e.id) :
    (s.onEntry id f).entry? j = (s.entry? j).map fun e => if e.id = id then f e else e :=
  find?_map_of_keeps (fun e => by split <;> simp [hf]) s.dir

theorem State.entry?_onEntry_same (s : State) (id : Nat) {f : SegEntry → SegEntry} (hf : ∀ e, (f e).id = e.id) :
    (s.onEntry id f).entry? id = (s.entry? id).map f := by
  rw [State.entry?_onEntry s id id hf]
  refine Option.map_congr fun e he => if_pos ?_
  simpa using List.find?_some he

theorem State.dayIsOpen_eq (s : State) (day : Nat) : s.dayIsOpen day = (s.day? day).any fun d => d.state = .opened := by
  unfold State.dayIsOpen
  cases s.day? day <;> rfl

/-- R74 on one segment. -/
theorem State.resolveIn_resolvedIn (l : LaneNo) (st : RunStatus) (s : State) (id : Nat) :
    State.ResolvedIn l st id s (s.resolveIn l st id) := by
  intro e he
  dsimp only
  unfold State.resolveIn
  simp only [he]
  have hu : ((s.onBuffer id fun b => { b with runs := dropContexts l e.runs b.runs }).onEntry id fun e => e.resolve l st)
      = { s with
        dir := s.dir.map fun y => if y.id = id then y.resolvedAs l st else y
        builder := { s.builder with buffers := s.builder.buffers.map fun b => if b.segId = id then { b with
          runs := b.runs.mapIdx fun i r => if (e.runs[i]?).any (fun y => y.lane = some l) then { r with ctx := none } else r }
          else b } } := by
    simp only [State.onBuffer, State.onEntry, State.onBuilder, State.onDir, updateEntry, SegEntry.resolve_eq,
      dropContexts_eq]
  have hentry : ((s.onBuffer id fun b => { b with runs := dropContexts l e.runs b.runs }).onEntry id
      fun e => e.resolve l st).entry? id = some (e.resolvedAs l st) := by
    rw [State.entry?_onEntry_same _ _ (f := fun e => e.resolve l st) fun _ => rfl, show (s.onBuffer id _).entry? id = some e from he,
      Option.map_some, SegEntry.resolve_eq]
  rw [← hu]
  generalize (s.onBuffer id fun b => { b with runs := dropContexts l e.runs b.runs }).onEntry id
      (fun e => e.resolve l st) = u at hentry hu ⊢
  have hday : u.dayIsOpen e.day = (s.day? e.day).any fun d => d.state = .opened := by
    rw [State.dayIsOpen_eq, hu]; rfl
  have hprov : ¬ (e.resolvedAs l st).hasProvisional = true ↔ ∀ r ∈ (e.resolvedAs l st).runs, r.status ≠ .provisional := by
    simp [SegEntry.hasProvisional_iff]
  unfold State.testSegment
  simp only [hentry, SegEntry.allVoid_iff, hprov, show (e.resolvedAs l st).day = e.day from rfl, hday]
  by_cases hvoid : ((e.resolvedAs l st).state = .opened ∨ (e.resolvedAs l st).state = .held)
      ∧ ∀ r ∈ (e.resolvedAs l st).runs, r.status = .void
  · rw [if_pos hvoid, if_pos hvoid]
    exact u.discardSegment_eq id
  rw [if_neg hvoid, if_neg hvoid]
  by_cases hheld : (e.resolvedAs l st).state = .held ∧ ∀ r ∈ (e.resolvedAs l st).runs, r.status ≠ .provisional
  · rw [if_pos hheld, if_pos hheld, hu]
    rfl
  rw [if_neg hheld, if_neg hheld]
  split
  · exact u.sealSegment_sealedTo .dayClosed id
  · rfl

/-- What of a run its end resolves or leaves. -/
def RunRec.facts (r : RunRec) : Nat × Nat × Nat × RunStatus × Option LaneNo := (r.source, r.slot, r.count, r.status, r.lane)

/-- An entry `e'` with the id, the record count and the runs, but for their digests, of `e`. -/
def SegEntry.Carries (e e' : SegEntry) : Prop :=
  e'.id = e.id ∧ e'.runs.map RunRec.facts = e.runs.map RunRec.facts ∧ e'.recordCount = e.recordCount

theorem SegEntry.Carries.refl (e : SegEntry) : e.Carries e := ⟨rfl, rfl, rfl⟩

theorem SegEntry.Carries.trans {a b c : SegEntry} (h : a.Carries b) (h' : b.Carries c) : a.Carries c :=
  ⟨h'.1.trans h.1, h'.2.1.trans h.2.1, h'.2.2.trans h.2.2⟩

/-- What the end of the file on a lane makes of the facts of a run. -/
def resolveFacts (l : LaneNo) (st : RunStatus) (x : Nat × Nat × Nat × RunStatus × Option LaneNo) :
    Nat × Nat × Nat × RunStatus × Option LaneNo :=
  if x.2.2.2.2 = some l then (x.1, x.2.1, x.2.2.1, st, none) else x

/-- What a run of the file on a lane adds to a record count. -/
def countFacts (l : LaneNo) (x : Nat × Nat × Nat × RunStatus × Option LaneNo) : Nat :=
  if x.2.2.2.2 = some l then x.2.2.1 else 0

theorem RunRec.facts_resolve (l : LaneNo) (st : RunStatus) (r : RunRec) :
    (r.resolve l st).facts = resolveFacts l st r.facts := by
  unfold RunRec.resolve resolveFacts RunRec.facts
  split <;> rfl

theorem SegEntry.resolve_facts (e : SegEntry) (l : LaneNo) (st : RunStatus) :
    (e.resolve l st).runs.map RunRec.facts = (e.runs.map RunRec.facts).map (resolveFacts l st) := by
  simp only [SegEntry.resolve, List.map_map]
  exact List.map_congr_left fun r _ => r.facts_resolve l st

theorem SegEntry.resolve_recordCount (e : SegEntry) (l : LaneNo) (st : RunStatus) :
    (e.resolve l st).recordCount
      = e.recordCount + if st = .firm then ((e.runs.map RunRec.facts).map (countFacts l)).sum else 0 := by
  have hcount : (e.runs.map RunRec.facts).map (countFacts l) = e.runs.map fun r => if r.lane = some l then r.count else 0 := by
    rw [List.map_map]; rfl
  rw [hcount, SegEntry.resolve_eq]
  rfl

theorem SegEntry.Carries.resolve {e e' : SegEntry} (h : e.Carries e') (l : LaneNo) (st : RunStatus) :
    (e.resolve l st).Carries (e'.resolve l st) := by
  obtain ⟨hid, hruns, hcount⟩ := h
  refine ⟨hid, ?_, ?_⟩
  · rw [SegEntry.resolve_facts, SegEntry.resolve_facts, hruns]
  · rw [SegEntry.resolve_recordCount, SegEntry.resolve_recordCount, hruns, hcount]

/-- A run resolved is so no more than once. -/
theorem SegEntry.resolve_resolve (e : SegEntry) (l : LaneNo) (st : RunStatus) :
    (e.resolve l st).Carries ((e.resolve l st).resolve l st) := by
  have hnone : countFacts l ∘ resolveFacts l st = fun _ => 0 := by
    funext x
    by_cases hx : x.2.2.2.2 = some l <;> simp [countFacts, resolveFacts, hx]
  have hsame : ∀ x, resolveFacts l st (resolveFacts l st x) = resolveFacts l st x := by
    intro x
    by_cases hx : x.2.2.2.2 = some l <;> simp [resolveFacts, hx]
  refine ⟨rfl, ?_, ?_⟩
  · rw [SegEntry.resolve_facts, SegEntry.resolve_facts, List.map_map]
    exact List.map_congr_left fun x _ => hsame x
  · rw [SegEntry.resolve_recordCount, SegEntry.resolve_facts, List.map_map, hnone]
    simp [Function.comp_def]

/-- An entry without a run of the file on the lane is resolved as it stands. -/
theorem SegEntry.resolve_of_not_hasLane {e : SegEntry} {l : LaneNo} (h : e.hasLane l = false) (st : RunStatus) :
    (e.resolve l st).Carries e := by
  have hlane : ∀ x ∈ e.runs.map RunRec.facts, x.2.2.2.2 ≠ some l := by
    simpa [SegEntry.hasLane, RunRec.facts] using h
  have hsame : (e.runs.map RunRec.facts).map (resolveFacts l st) = e.runs.map RunRec.facts :=
    (List.map_congr_left (g := fun x => x) (show ∀ x ∈ e.runs.map RunRec.facts, resolveFacts l st x = x from
      fun x hx => if_neg (hlane x hx))).trans (List.map_id' _)
  have hzero : (e.runs.map RunRec.facts).map (countFacts l) = (e.runs.map RunRec.facts).map fun _ => 0 :=
    List.map_congr_left fun x hx => if_neg (hlane x hx)
  refine ⟨rfl, by rw [SegEntry.resolve_facts, hsame], ?_⟩
  rw [SegEntry.resolve_recordCount, hzero]
  simp [Function.comp_def]

theorem fixDigests_facts (rs : List RunRec) (bs : List BufRun) : (fixDigests rs bs).map RunRec.facts = rs.map RunRec.facts := by
  induction rs generalizing bs with
  | nil => cases bs <;> rfl
  | cons r rs ih =>
    cases bs with
    | nil => rfl
    | cons b bs =>
      have hfix : (fixDigest r b).facts = r.facts := by
        unfold fixDigest
        split <;> rfl
      simp [fixDigests, hfix, ih bs]

theorem SegEntry.carries_seal (e : SegEntry) (bits : List BufRun) (reason : SealReason) : e.Carries (e.seal bits reason) :=
  ⟨rfl, fixDigests_facts _ _, rfl⟩

theorem State.checkFlow_dir (s : State) : s.checkFlow.dir = s.dir := by
  unfold State.checkFlow
  dsimp only
  split <;> rfl

theorem State.flushEnd_dir (s : State) (id : Nat) (k : FlushEnd) : (s.flushEnd id k).dir = s.dir := by
  unfold State.flushEnd
  split
  · rfl
  · split
    · dsimp only
      split <;> rfl
    · rfl

theorem State.discardSegment_dir (s : State) (id : Nat) : (s.discardSegment id).dir = removeEntry id s.dir := by
  unfold State.discardSegment
  rw [State.checkFlow_dir, State.flushEnd_dir]
  rfl

/-- The entries a change of one entry leaves. -/
theorem State.carried_onEntry (s : State) (id : Nat) {f : SegEntry → SegEntry} (hf : ∀ e : SegEntry, e.Carries (f e)) {e' : SegEntry}
    (h : e' ∈ (s.onEntry id f).dir) : ∃ e ∈ s.dir, e.Carries e' := by
  obtain ⟨e, he, rfl⟩ := (mem_updateEntry id f e' s.dir).mp h
  refine ⟨e, he, ?_⟩
  split
  · exact hf e
  · exact .refl e

/-- The test of a segment makes no entry, and leaves the runs and counts of those that stay. -/
theorem State.carried_testSegment (s : State) (id : Nat) {e' : SegEntry} (h : e' ∈ (s.testSegment id).dir) :
    ∃ e ∈ s.dir, e.Carries e' := by
  unfold State.testSegment at h
  split at h
  · exact ⟨e', h, .refl e'⟩
  split at h
  · rw [State.discardSegment_dir, mem_removeEntry] at h
    exact ⟨e', h.1, .refl e'⟩
  split at h
  · exact s.carried_onEntry id (by exact fun e => ⟨rfl, rfl, rfl⟩) h
  split at h
  · exact (s.unindex id).carried_onEntry id (fun e => e.carries_seal _ _) h
  · exact ⟨e', h, .refl e'⟩

/-- The resolving of one segment makes no entry, and resolves the runs of the segment alone. -/
theorem State.carried_resolveIn (s : State) (l : LaneNo) (st : RunStatus) (id : Nat) {e' : SegEntry}
    (h : e' ∈ (s.resolveIn l st id).dir) :
    ∃ e ∈ s.dir, (if e.id = id then e.resolve l st else e).Carries e' := by
  unfold State.resolveIn at h
  split at h
  · next hnone =>
    have hid : e'.id ≠ id := by simpa using List.find?_eq_none.mp hnone e' h
    exact ⟨e', h, by rw [if_neg hid]; exact .refl e'⟩
  · next e he =>
    obtain ⟨x, hx, hcarry⟩ := State.carried_testSegment _ id h
    obtain ⟨y, hy, rfl⟩ := (mem_updateEntry id _ x s.dir).mp hx
    exact ⟨y, hy, hcarry⟩

/-- The resolving of several segments, each at least once. -/
theorem State.carried_resolveAll (l : LaneNo) (st : RunStatus) (ids : List Nat) (s : State) {e' : SegEntry}
    (h : e' ∈ (ids.foldl (fun s id => s.resolveIn l st id) s).dir) :
    ∃ e ∈ s.dir, (if e.id ∈ ids then e.resolve l st else e).Carries e' := by
  induction ids generalizing s with
  | nil => exact ⟨e', h, .refl e'⟩
  | cons id ids ih =>
    obtain ⟨e1, h1, hcarry1⟩ := ih _ h
    obtain ⟨e, he, hcarry⟩ := s.carried_resolveIn l st id h1
    refine ⟨e, he, ?_⟩
    have hid : e1.id = e.id := by
      have := hcarry.1
      split at this <;> exact this
    rw [hid] at hcarry1
    by_cases h2 : e.id ∈ ids <;> by_cases h1 : e.id = id
    · rw [if_pos h2] at hcarry1
      rw [if_pos h1] at hcarry
      rw [if_pos (List.mem_cons_of_mem _ h2)]
      exact (e.resolve_resolve l st).trans ((hcarry.resolve l st).trans hcarry1)
    · rw [if_pos h2] at hcarry1
      rw [if_neg h1] at hcarry
      rw [if_pos (List.mem_cons_of_mem _ h2)]
      exact (hcarry.resolve l st).trans hcarry1
    · rw [if_neg h2] at hcarry1
      rw [if_pos h1] at hcarry
      rw [if_pos (h1 ▸ List.mem_cons_self)]
      exact hcarry.trans hcarry1
    · rw [if_neg h2] at hcarry1
      rw [if_neg h1] at hcarry
      rw [if_neg (by simp [h1, h2])]
      exact hcarry.trans hcarry1

/-- What the end of the file on a lane leaves is the Directory with every run of the file resolved. -/
theorem State.carried_resolveRuns (s : State) (l : LaneNo) (st : RunStatus) {e' : SegEntry}
    (h : e' ∈ (s.resolveRuns l st).dir) : ∃ e ∈ s.dir, (e.resolve l st).Carries e' := by
  obtain ⟨e, he, hcarry⟩ := State.carried_resolveAll l st _ s h
  refine ⟨e, he, ?_⟩
  split at hcarry
  · exact hcarry
  · next hnot =>
    have hlane : e.hasLane l = false := by
      by_contra hl
      exact hnot (List.mem_map.mpr ⟨e, List.mem_filter.mpr ⟨he, by simpa using hl⟩, rfl⟩)
    exact (SegEntry.resolve_of_not_hasLane hlane st).trans hcarry

/-- R74, at the end of the file on a lane. -/
theorem State.resolveRuns_runsResolved {s t : State} {l : LaneNo} {st : RunStatus} (hdir : t.dir = (s.resolveRuns l st).dir)
    (hbuilder : t.builder = (s.resolveRuns l st).builder) (hcommit : t.commit = (s.resolveRuns l st).commit)
    (hport : t.port = (s.resolveRuns l st).port) : s.RunsResolved l st t := by
  refine ⟨⟨s.resolveRuns l st, through_foldl (fun s id => s.resolveIn_resolvedIn l st id) _ s, hdir, hbuilder, hcommit,
    hport⟩, fun e' he' => ?_⟩
  rw [hdir] at he'
  obtain ⟨e, he, hid, hruns, hcount⟩ := s.carried_resolveRuns l st he'
  refine ⟨e, he, hid, ?_, ?_⟩
  · have := congrArg (List.map fun x : Nat × Nat × Nat × RunStatus × Option LaneNo => (x.1, x.2.1, x.2.2.1, x.2.2.2.1)) hruns
    rw [SegEntry.resolve_facts, List.map_map, List.map_map, List.map_map] at this
    refine this.trans (List.map_congr_left fun r _ => ?_)
    by_cases hr : r.lane = some l <;> simp [resolveFacts, RunRec.facts, hr]
  · rw [hcount, SegEntry.resolve_eq]
    rfl

/-- No run of the file is left. -/
theorem State.resolveRuns_noneLeft (s : State) (l : LaneNo) (st : RunStatus) :
    ∀ e ∈ (s.resolveRuns l st).dir, ∀ r ∈ e.runs, r.lane ≠ some l := by
  intro e' he' r hr hlane
  obtain ⟨e, -, -, hruns, -⟩ := s.carried_resolveRuns l st he'
  have hmem : r.facts ∈ (e.runs.map RunRec.facts).map (resolveFacts l st) := by
    rw [← SegEntry.resolve_facts, ← hruns]
    exact List.mem_map_of_mem hr
  obtain ⟨x, -, hx⟩ := List.mem_map.mp hmem
  have hsome : (resolveFacts l st x).2.2.2.2 = some l := by rw [hx]; exact hlane
  unfold resolveFacts at hsome
  split at hsome
  · cases hsome
  · next h => exact h hsome

end Sys2Proof.Machine
end

section
/-! The Continuity Tracker in the words of the statements: slots, days and the ends of files (R25, R28 to R34, R40, R41). -/

namespace Sys2Proof.Machine

/-! ### The tests of a day -/

theorem State.dayIsClosed_eq (s : State) (day : Nat) : s.dayIsClosed day = s.inClosedDay day := by
  unfold State.dayIsClosed State.inClosedDay
  cases s.day? day <;> rfl

theorem ContRecord.retires_eq (day : Nat) : ContRecord.retires day = ContRecord.doneFor day := by
  funext r
  exact (Bool.and_assoc _ _ _).symm

/-- The retirement test does what `retiredIn` says. -/
theorem State.testRetirement_eq (s : State) (day : Nat) : s.testRetirement day = s.retiredIn day := by
  unfold State.testRetirement State.retiredIn State.inClosedDay
  rw [ContRecord.retires_eq]
  cases s.day? day with
  | none => rfl
  | some d =>
    by_cases hclosed : d.state = .closed
    · simp only [hclosed, if_true, Option.any_some, decide_true]
      rfl
    · simp [hclosed]

/-- The end of a file counted in a day's files in progress. -/
theorem State.fileEnded_eq (s : State) (day : Nat) : s.fileEnded day = s.oneEnds day := by
  unfold State.fileEnded State.oneEnds State.tested
  rw [State.testRetirement_eq, State.testSettlement_eq]
  rfl

/-! ### The file sequence -/

/-- The check of the file sequence does what `sequenced` says. -/
theorem State.checkSequence_eq (s : State) (f : FileInfo) : s.checkSequence f = s.sequenced f := by
  unfold State.checkSequence State.sequenced
  cases he : (s.source f.source).expected with
  | none => rfl
  | some e =>
    unfold seqDistance
    by_cases h0 : (f.seq + 65536 - e) % 65536 = 0
    · simp only [h0, if_true]; rfl
    by_cases h1 : (f.seq + 65536 - e) % 65536 ≤ 32767
    · simp only [h0, h1, if_true, if_false, State.raise_eq]; rfl
    · simp only [h0, h1, if_false]

/-! ### The abort outcome -/

/-- The abort outcome does what `handedBack` says. -/
theorem State.abortOutcome_eq (s : State) (f : FileInfo) (reason : Option Routing) :
    s.abortOutcome f reason = s.handedBack f reason := by
  unfold State.abortOutcome State.handedBack
  cases reason with
  | none =>
    have hopens : (((s.slotOf f).getD Slot.new).opensGap (s.inClosedDay f.day))
        = (s.inClosedDay f.day && (s.slotOf f).all fun x => x.prior.getD .missing = .missing && !x.gapOpen) := by
      cases s.slotOf f with
      | none => cases s.inClosedDay f.day <;> rfl
      | some x => simp [Slot.opensGap, Bool.and_comm, Bool.and_assoc]
    simp only [State.abortNormal, State.fileEnded_eq, State.dayIsClosed_eq, State.raise_eq,
      show ((s.record? f.source f.day).bind fun r => r.slot? f.slot) = s.slotOf f from rfl, hopens]
    rfl
  | some why =>
    cases why with
    | settled => rfl
    | occupied | inProgress => exact State.fileEnded_eq _ _

/-! ### The close outcomes of suspect files -/

theorem State.isDuplicate_eq (s : State) (o : CloseFacts) :
    ((((s.record? o.file.source o.file.day).bind (·.slot? o.file.slot)).getD Slot.new).duplicates o.digest)
      = s.isDuplicate o.file o.digest := by
  unfold State.isDuplicate
  rw [show ((s.record? o.file.source o.file.day).bind fun r => r.slot? o.file.slot) = s.slotOf o.file from rfl]
  cases s.slotOf o.file with
  | none => rfl
  | some x =>
    obtain ⟨st, holder, prior, facts, gap⟩ := x
    cases facts <;> simp [Slot.duplicates, Slot.occupied]

theorem State.conflictCause_eq (s : State) (o : CloseFacts) :
    ((((s.record? o.file.source o.file.day).bind (·.slot? o.file.slot)).getD Slot.new).conflictCause)
      = if ((s.slotOf o.file).any fun x => (x.state = .received || x.state = .defective) && x.facts.isSome) then .digest
        else .noDigest := by
  rw [show ((s.record? o.file.source o.file.day).bind fun r => r.slot? o.file.slot) = s.slotOf o.file from rfl]
  cases s.slotOf o.file <;> rfl

/-! ### The books of the Tracker and the Audit Unit

The outcomes of a file change the tracker, the audit trail and the notices, and read nothing else but the clock: they do the
same whatever the rest of the state holds. -/

/-- The state with the clock, the tracker, the audit trail and the notices of another. -/
def State.withBooks (u s : State) : State :=
  { u with clock := s.clock, tracker := s.tracker, audit := s.audit, notices := s.notices }

section
variable (u s : State)

theorem State.withBooks_recorded (e) : (u.withBooks s).recorded e = u.withBooks (s.recorded e) := rfl
theorem State.withBooks_withRecord (f g) : (u.withBooks s).withRecord f g = u.withBooks (s.withRecord f g) := rfl
theorem State.withBooks_withDay (d g) : (u.withBooks s).withDay d g = u.withBooks (s.withDay d g) := rfl

theorem State.withBooks_about (c st ca f x) : (u.withBooks s).about c st ca f x = s.about c st ca f x := rfl
theorem State.withBooks_onTracker (g) : (u.withBooks s).onTracker g = u.withBooks (s.onTracker g) := rfl

theorem State.withBooks_foldl_recorded (es : List AuditEvent) :
    es.foldl State.recorded (u.withBooks s) = u.withBooks (es.foldl State.recorded s) := by
  induction es generalizing s with
  | nil => rfl
  | cons e es ih => exact ih (s.recorded e)

theorem State.withBooks_retiredIn (d) : (u.withBooks s).retiredIn d = u.withBooks (s.retiredIn d) := by
  unfold State.retiredIn
  rw [show (u.withBooks s).inClosedDay d = s.inClosedDay d from rfl]
  split <;> rfl

theorem State.withBooks_settledIn (d) : (u.withBooks s).settledIn d = u.withBooks (s.settledIn d) := by
  unfold State.settledIn
  rw [show (u.withBooks s).day? d = s.day? d from rfl]
  split <;> rfl

theorem State.withBooks_tested (d) : (u.withBooks s).tested d = u.withBooks (s.tested d) := by
  unfold State.tested
  rw [State.withBooks_retiredIn, State.withBooks_settledIn]

theorem State.withBooks_oneEnds (d) : (u.withBooks s).oneEnds d = u.withBooks (s.oneEnds d) := by
  unfold State.oneEnds
  rw [State.withBooks_withDay, State.withBooks_tested]

theorem State.withBooks_handedBack (f reason) :
    (u.withBooks s).handedBack f reason = u.withBooks (s.handedBack f reason) := by
  cases reason with
  | none =>
    unfold State.handedBack
    dsimp only
    rw [show (u.withBooks s).inClosedDay f.day = s.inClosedDay f.day from rfl,
      show (u.withBooks s).slotOf f = s.slotOf f from rfl]
    split <;> simp only [State.withBooks_withRecord, State.withBooks_about, State.withBooks_recorded, State.withBooks_oneEnds]
  | some why =>
    cases why with
    | settled => rfl
    | occupied | inProgress => simp only [State.handedBack, State.withBooks_withRecord, State.withBooks_oneEnds]

theorem State.withBooks_sequenced (f) : (u.withBooks s).sequenced f = u.withBooks (s.sequenced f) := by
  unfold State.sequenced
  dsimp only
  rw [show (u.withBooks s).source f.source = s.source f.source from rfl]
  split
  · rfl
  · split
    · rfl
    · split <;> rfl

theorem State.withBooks_judged (f digest why) :
    (u.withBooks s).judged f digest why = u.withBooks (s.judged f digest why) := by
  unfold State.judged
  dsimp only
  rw [show (u.withBooks s).isDuplicate f digest = s.isDuplicate f digest from rfl,
    show (u.withBooks s).slotOf f = s.slotOf f from rfl]
  have hsource (x : State) (g) : { u.withBooks x with tracker := { (u.withBooks x).tracker with
      sources := vmod (u.withBooks x).tracker.sources f.source g } } = u.withBooks { x with tracker := { x.tracker with
      sources := vmod x.tracker.sources f.source g } } := rfl
  split
  · rfl
  · split <;> simp only [State.withBooks_withRecord, State.withBooks_about, hsource, State.withBooks_recorded,
      State.withBooks_oneEnds]

end

end Sys2Proof.Machine
end

section
/-! The ends of files: what the resolving of runs leaves alone, and the aborts (R17, R22, R31, R74). -/

namespace Sys2Proof.Machine

/-! ### What seals, discards and the ends of runs leave alone -/

/-- The state with the Builder, the Directory, the Commit Engine and the Intake Port of another. -/
def State.withStores (s t : State) : State := { s with port := t.port, builder := t.builder, dir := t.dir, commit := t.commit }

/-- The port with the flow state, the replies and the reserved places of another. -/
def Port.withReplies (p q : Port) : Port :=
  { p with flow := q.flow, flowSlot := q.flowSlot, replies := q.replies, reserved := q.reserved }

/-- `t` comes from `s` by seals, discards and resolved runs. -/
structure State.Sealing (s t : State) : Prop where
  rest : t = s.withStores t
  port : t.port = s.port.withReplies t.port
  replies : s.port.replies <+: t.port.replies
  commit : t.commit = { s.commit with queue := t.commit.queue }

namespace State.Sealing

variable {s t u : State}

theorem refl (s : State) : s.Sealing s := ⟨rfl, rfl, List.prefix_rfl, rfl⟩

theorem trans (h : s.Sealing t) (h' : t.Sealing u) : s.Sealing u where
  rest := calc
    u = t.withStores u := h'.rest
    _ = (s.withStores t).withStores u := by rw [← h.rest]
  port := calc
    u.port = t.port.withReplies u.port := h'.port
    _ = (s.port.withReplies t.port).withReplies u.port := by rw [← h.port]
  replies := h.replies.trans h'.replies
  commit := calc
    u.commit = { t.commit with queue := u.commit.queue } := h'.commit
    _ = { s.commit with queue := u.commit.queue } := by rw [h.commit]

theorem foldl {α : Type} {f : State → α → State} (hf : ∀ (s : State) a, s.Sealing (f s a)) (l : List α) (s : State) :
    s.Sealing (l.foldl f s) := by
  induction l generalizing s with
  | nil => exact refl s
  | cons a l ih => exact (hf s a).trans (ih _)

theorem onBuilder (s : State) (f) : s.Sealing (s.onBuilder f) := ⟨rfl, rfl, List.prefix_rfl, rfl⟩
theorem onDir (s : State) (f) : s.Sealing (s.onDir f) := ⟨rfl, rfl, List.prefix_rfl, rfl⟩

theorem completeWith (s : State) (tag r figs) : s.Sealing (s.completeWith tag r figs) :=
  ⟨rfl, rfl, List.prefix_append _ _, rfl⟩

theorem checkFlow (s : State) : s.Sealing s.checkFlow := by
  unfold State.checkFlow
  dsimp only
  split
  · exact refl s
  · exact ⟨rfl, rfl, List.prefix_rfl, rfl⟩

theorem flushEnd (s : State) (id k) : s.Sealing (s.flushEnd id k) := by
  unfold State.flushEnd
  split
  · exact refl s
  · split
    · dsimp only
      split
      · exact (onBuilder s _).trans (completeWith _ _ _ _)
      · exact onBuilder s _
    · exact refl s

theorem sealSegment (s : State) (reason id) : s.Sealing (s.sealSegment reason id) := ⟨rfl, rfl, List.prefix_rfl, rfl⟩

theorem discardSegment (s : State) (id) : s.Sealing (s.discardSegment id) :=
  .trans (t := (((s.unindex id).onCommit fun c => { c with queue := c.queue.filter (·.segId ≠ id) }).onDir
    (removeEntry id)).freeBuffer id) ⟨rfl, rfl, List.prefix_rfl, rfl⟩ ((flushEnd _ id .discarded).trans (checkFlow _))

theorem testSegment (s : State) (id) : s.Sealing (s.testSegment id) := by
  unfold State.testSegment
  split
  · exact refl s
  split
  · exact discardSegment s id
  split
  · exact onDir s _
  split
  · exact sealSegment s _ id
  · exact refl s

theorem resolveIn (s : State) (l st id) : s.Sealing (s.resolveIn l st id) := by
  unfold State.resolveIn
  split
  · exact refl s
  · exact (onBuilder s _).trans ((onDir _ _).trans (testSegment _ id))

theorem resolveRuns (s : State) (l st) : s.Sealing (s.resolveRuns l st) := foldl (fun s id => resolveIn s l st id) _ s

end State.Sealing

/-! ### Seals and the ends of runs beside a change of other blocks -/

/-- A change of the state that seals, discards and the ends of runs neither see nor touch. -/
structure Beside (φ : State → State) : Prop where
  dir : ∀ s, (φ s).dir = s.dir
  builder : ∀ s, (φ s).builder = s.builder
  engine : ∀ s, (φ s).engine = s.engine
  flow : ∀ s, (φ s).port.flow = s.port.flow
  days : ∀ s, (φ s).tracker.days = s.tracker.days
  onDir : ∀ s f, (φ s).onDir f = φ (s.onDir f)
  onBuilder : ∀ s f, (φ s).onBuilder f = φ (s.onBuilder f)
  onCommit : ∀ s f, (φ s).onCommit f = φ (s.onCommit f)
  setFlow : ∀ s f, (φ s).onPort (fun p => { p with flow := f, flowSlot := some f })
    = φ (s.onPort fun p => { p with flow := f, flowSlot := some f })
  completeWith : ∀ s tag r figs, (φ s).completeWith tag r figs = φ (s.completeWith tag r figs)

namespace Beside

theorem setCurrent (c : Option Directive) : Beside (State.setCurrent · c) :=
  ⟨fun _ => rfl, fun _ => rfl, fun _ => rfl, fun _ => rfl, fun _ => rfl, fun _ _ => rfl, fun _ _ => rfl, fun _ _ => rfl,
    fun _ _ => rfl, fun _ _ _ _ => rfl⟩

theorem popFrame : Beside State.popFrame :=
  ⟨fun _ => rfl, fun _ => rfl, fun _ => rfl, fun _ => rfl, fun _ => rfl, fun _ _ => rfl, fun _ _ => rfl, fun _ _ => rfl,
    fun _ _ => rfl, fun _ _ _ _ => rfl⟩

theorem onTracker {g : Tracker → Tracker} (hg : ∀ k, (g k).days = k.days) : Beside (State.onTracker · g) :=
  ⟨fun _ => rfl, fun _ => rfl, fun _ => rfl, fun _ => rfl, fun s => hg s.tracker, fun _ _ => rfl, fun _ _ => rfl,
    fun _ _ => rfl, fun _ _ => rfl, fun _ _ _ _ => rfl⟩

variable {φ : State → State} (h : Beside φ)
include h

theorem entry? (s : State) (id) : (φ s).entry? id = s.entry? id := by
  unfold State.entry?
  rw [h.dir]

theorem buffer? (s : State) (id) : (φ s).buffer? id = s.buffer? id := by
  unfold State.buffer?
  rw [h.builder]

theorem checkFlow (s : State) : (φ s).checkFlow = φ s.checkFlow := by
  have hnext : flowNext (φ s).engine (φ s).buffersInUse (φ s).port.flow = flowNext s.engine s.buffersInUse s.port.flow := by
    unfold State.buffersInUse
    rw [h.engine, h.flow, h.builder]
  unfold State.checkFlow
  dsimp only
  rw [hnext, h.flow]
  split
  · rfl
  · exact h.setFlow _ _

theorem flushEnd (s : State) (id k) : (φ s).flushEnd id k = φ (s.flushEnd id k) := by
  unfold State.flushEnd
  rw [h.builder]
  split
  · rfl
  · split
    · dsimp only
      split
      · rw [h.onBuilder, h.completeWith]
      · exact h.onBuilder _ _
    · rfl

theorem onEntry (s : State) (id f) : (φ s).onEntry id f = φ (s.onEntry id f) := h.onDir _ _

theorem onBuffer (s : State) (id f) : (φ s).onBuffer id f = φ (s.onBuffer id f) := h.onBuilder _ _

theorem discardSegment (s : State) (id) : (φ s).discardSegment id = φ (s.discardSegment id) := by
  unfold State.discardSegment State.unindex State.freeBuffer
  rw [h.onBuilder, h.onCommit, h.onDir, h.onBuilder, h.flushEnd, h.checkFlow]

theorem sealSegment (s : State) (reason id) : (φ s).sealSegment reason id = φ (s.sealSegment reason id) := by
  unfold State.sealSegment State.unindex
  dsimp only
  rw [h.buffer?, h.onBuilder, h.onEntry, h.onBuffer, h.onCommit]

theorem sealAll (s : State) (reason ids) : (φ s).sealAll reason ids = φ (s.sealAll reason ids) := by
  unfold State.sealAll
  induction ids generalizing s with
  | nil => rfl
  | cons id ids ih => rw [List.foldl_cons, List.foldl_cons, h.sealSegment, ih]

theorem dayIsOpen (s : State) (day) : (φ s).dayIsOpen day = s.dayIsOpen day := by
  unfold State.dayIsOpen State.day?
  rw [h.days]

theorem testSegment (s : State) (id) : (φ s).testSegment id = φ (s.testSegment id) := by
  unfold State.testSegment
  rw [h.entry?]
  split
  · rfl
  · rw [h.dayIsOpen]
    split
    · exact h.discardSegment s id
    split
    · exact h.onEntry s id _
    split
    · exact h.sealSegment s _ id
    · rfl

theorem resolveIn (s : State) (l st id) : (φ s).resolveIn l st id = φ (s.resolveIn l st id) := by
  unfold State.resolveIn
  rw [h.entry?]
  split
  · rfl
  · rw [h.onBuffer, h.onEntry, h.testSegment]

theorem resolveRuns (s : State) (l st) : (φ s).resolveRuns l st = φ (s.resolveRuns l st) := by
  unfold State.resolveRuns
  rw [h.dir]
  generalize ((s.dir.filter fun e => e.hasLane l).map SegEntry.id) = ids
  induction ids generalizing s with
  | nil => rfl
  | cons id ids ih => rw [List.foldl_cons, List.foldl_cons, h.resolveIn, ih]

end Beside

/-- The books are as they were. -/
theorem State.Sealing.withBooks {s t : State} (h : s.Sealing t) : t = t.withBooks s := by
  have hrest := h.rest
  generalize t = x at hrest ⊢
  rw [hrest]
  rfl

/-! ### Aborts -/

theorem State.handedBack_clock (s : State) (f reason) : (s.handedBack f reason).clock = s.clock := by
  rw [← State.abortOutcome_eq]
  exact (State.still_eq (State.abortOutcome_still s f reason)).2.2.1

theorem State.abortFile_of_file {s : State} {l : LaneNo} {f : FileInfo} (hopen : (s.lane l).hasFile = true)
    (hf : (s.lane l).file = some f) (cause : AbortCause) :
    s.abortFile l cause = ((s.resolveRuns l .void).withBooks ((s.handedBack f (s.lane l).reason).recorded
      (s.about .fileAborted .point (some (.abort cause)) f none))).onLane l (Lane.clear (abortState cause)) := by
  have hbooks := (State.Sealing.resolveRuns s l .void).withBooks
  have hclock : ((s.resolveRuns l .void).withBooks (s.handedBack f (s.lane l).reason)).clock = s.clock :=
    s.handedBack_clock f _
  unfold State.abortFile
  simp only [hopen, hf]
  rw [State.abortOutcome_eq, hbooks, State.withBooks_handedBack, State.raise_eq, ← State.withBooks_recorded]
  have hevent : { (((s.resolveRuns l .void).withBooks (s.handedBack f (s.lane l).reason)).slotEvent .fileAborted .point
      f.source f.day f.slot) with cause := some (.abort cause) } = s.about .fileAborted .point (some (.abort cause)) f none := by
    simp only [State.slotEvent, State.event, State.about, hclock]
  rw [hevent]
  rfl

/-- The stores of one state and the books of another, with the clock as it was. -/
theorem State.withStores_withBooks {s r told : State} (hr : r = s.withStores r) (hclock : told.clock = s.clock) :
    r.withBooks told = { s with
      port := r.port, builder := r.builder, dir := r.dir, commit := r.commit
      tracker := told.tracker, audit := told.audit, notices := told.notices } := by
  have hrest : r.withBooks told = (s.withStores r).withBooks told := congrArg (·.withBooks told) hr
  rw [hrest, State.withBooks, hclock]
  rfl

/-- R17: what an abort leaves. -/
theorem State.abortFile_abortedTo {s : State} {l : LaneNo} {f : FileInfo} (hopen : (s.lane l).hasFile = true)
    (hf : (s.lane l).file = some f) (cause : AbortCause) :
    s.AbortedTo l f cause (abortState cause) (s.abortFile l cause) := by
  have hseal := State.Sealing.resolveRuns s l .void
  have hasm : (s.resolveRuns l .void).asm = s.asm := by rw [hseal.rest]; rfl
  have hclock : ((s.handedBack f (s.lane l).reason).recorded
      (s.about .fileAborted .point (some (.abort cause)) f none)).clock = s.clock := s.handedBack_clock f (s.lane l).reason
  rw [State.abortFile_of_file hopen hf cause]
  refine ⟨?_, State.resolveRuns_runsResolved rfl rfl rfl rfl, s.resolveRuns_noneLeft l .void, rfl, rfl, rfl, ?_, ?_, ?_,
    hseal.commit⟩
  · simp only [State.onLane, State.onAsm, State.withBooks, hasm]
    rfl
  · rw [State.withStores_withBooks hseal.rest hclock]
    rfl
  · exact (congrArg Port.fifo hseal.port :)
  · exact (congrArg Port.directives hseal.port :)

end Sys2Proof.Machine
end

section
/-! Frames taken by the File Assembler on a lane with a file or without one: strays, aborts and closes (R14 to R18, R21). -/

namespace Sys2Proof.Machine

/-! ### Taking the head frame -/

section
variable {s : State} {l : LaneNo} {body : FileBody} {arrival : Option Time} {rest : List FileFrame}

theorem State.headFrame_of_takes (h : s.TakesFrame l body arrival rest) :
    s.headFrame = some { lane := l, body := body, arrival := arrival } := by
  obtain ⟨hhand, hmarks, hfifo⟩ := h
  have hfree : s.assemblerFree = true := by
    simp [State.assemblerFree, hhand, Lane.markDue, hmarks, allLanes]
  simp [State.headFrame, hfree, hfifo]

theorem State.popFrame_of_takes (h : s.TakesFrame l body arrival rest) : s.popFrame = s.popped rest := by
  obtain ⟨-, -, hfifo⟩ := h
  simp only [State.popFrame, State.popped, State.onPort, State.onAsm, hfifo, List.tail_cons]

theorem takeFileOpen_of_takes {source day slot seq : Nat} (h : s.TakesFrame l (.opening source day slot seq) arrival rest) :
    takeFileOpen s = (s.popped rest).openFile l { source := source, day := day, slot := slot, seq := seq } arrival := by
  simp only [takeFileOpen, State.headFrame_of_takes h, State.popFrame_of_takes h]

theorem State.partWay_of_takes (h : s.TakesFrame l body arrival rest) : s.partWay = none := by
  simp [State.partWay, h.1]

theorem takeFileData_of_takes {payload : List Byte} (h : s.TakesFrame l (.data payload) arrival rest) :
    takeFileData s = (s.popped rest).dataFrame l payload := by
  simp only [takeFileData, State.headFrame_of_takes h, State.popFrame_of_takes h, State.partWay_of_takes h]

theorem takeFileClose_of_takes {declared : Nat} {crc : Crc} (h : s.TakesFrame l (.closing declared crc) arrival rest) :
    takeFileClose s = (s.popped rest).closeFrame l declared crc arrival := by
  simp only [takeFileClose, State.headFrame_of_takes h, State.popFrame_of_takes h]

theorem takeFileAbort_of_takes (h : s.TakesFrame l .aborting arrival rest) :
    takeFileAbort s = (s.popped rest).abortFrame l := by
  simp only [takeFileAbort, State.headFrame_of_takes h, State.popFrame_of_takes h]

theorem exec_takeFileOpen_of_takes {source day slot seq : Nat}
    (h : s.TakesFrame l (.opening source day slot seq) arrival rest) : exec .takeFileOpen s = .next
      ((s.popped rest).openFile l { source := source, day := day, slot := slot, seq := seq } arrival) :=
  congrArg Host.Outcome.next (takeFileOpen_of_takes h)

theorem exec_takeFileData_of_takes {payload : List Byte} (h : s.TakesFrame l (.data payload) arrival rest) :
    exec .takeFileData s = .next ((s.popped rest).dataFrame l payload) :=
  congrArg Host.Outcome.next (takeFileData_of_takes h)

theorem exec_takeFileClose_of_takes {declared : Nat} {crc : Crc}
    (h : s.TakesFrame l (.closing declared crc) arrival rest) :
    exec .takeFileClose s = .next ((s.popped rest).closeFrame l declared crc arrival) :=
  congrArg Host.Outcome.next (takeFileClose_of_takes h)

theorem exec_takeFileAbort_of_takes (h : s.TakesFrame l .aborting arrival rest) :
    exec .takeFileAbort s = .next ((s.popped rest).abortFrame l) :=
  congrArg Host.Outcome.next (takeFileAbort_of_takes h)

/-- A lane as a frame leaves the FIFO: its overrun mark moves up. -/
theorem State.lane_popped (s : State) (rest : List FileFrame) (m : LaneNo) :
    (s.popped rest).lane m = { s.lane m with overrun := (s.lane m).overrun.map (· - 1) } := by
  simp [State.popped, State.lane, vget]

theorem State.lane_popped_state (s : State) (rest m) : ((s.popped rest).lane m).state = (s.lane m).state := by
  rw [State.lane_popped]
theorem State.lane_popped_file (s : State) (rest m) : ((s.popped rest).lane m).file = (s.lane m).file := by
  rw [State.lane_popped]
theorem State.lane_popped_reason (s : State) (rest m) : ((s.popped rest).lane m).reason = (s.lane m).reason := by
  rw [State.lane_popped]
theorem State.lane_popped_digest (s : State) (rest m) : ((s.popped rest).lane m).digest = (s.lane m).digest := by
  rw [State.lane_popped]
theorem State.lane_popped_appended (s : State) (rest m) : ((s.popped rest).lane m).appended = (s.lane m).appended := by
  rw [State.lane_popped]
theorem State.lane_popped_rejected (s : State) (rest m) : ((s.popped rest).lane m).rejected = (s.lane m).rejected := by
  rw [State.lane_popped]

end

theorem Lane.hasFile_iff (x : Lane) : x.hasFile = true ↔ x.state = .receiving ∨ x.state = .suspect := by
  simp [Lane.hasFile]

/-- Change of a lane context, as the statements write it. -/
theorem State.onLane_eq (s : State) (l : LaneNo) (g : Lane → Lane) : s.onLane l g = s.withLane l (g (s.lane l)) := rfl

/-! ### Frames on a lane without a file -/

section
variable {s : State} {l : LaneNo}

theorem State.dataFrame_idle (h : (s.lane l).state = .idle) (payload) : s.dataFrame l payload = s.countStray := by
  simp only [State.dataFrame, h]
theorem State.dataFrame_discarding (h : (s.lane l).state = .discarding) (payload) :
    s.dataFrame l payload = s.countDiscarded := by
  simp only [State.dataFrame, h]
theorem State.closeFrame_idle (h : (s.lane l).state = .idle) (d c a) : s.closeFrame l d c a = s.countStray := by
  simp only [State.closeFrame, h]
theorem State.closeFrame_discarding (h : (s.lane l).state = .discarding) (d c a) :
    s.closeFrame l d c a = s.countDiscarded.onLane l (Lane.clear .idle) := by
  simp only [State.closeFrame, h]
theorem State.abortFrame_idle (h : (s.lane l).state = .idle) : s.abortFrame l = s.countStray := by
  simp only [State.abortFrame, h]
theorem State.abortFrame_discarding (h : (s.lane l).state = .discarding) :
    s.abortFrame l = s.countDiscarded.onLane l (Lane.clear .idle) := by
  simp only [State.abortFrame, h]

theorem State.dataFrame_malformed (h : (s.lane l).hasFile = true) {payload : List Byte}
    (hbad : payload = [] ∨ payload.length % 49 ≠ 0 ∨ 8183 < payload.length) :
    s.dataFrame l payload = s.abortFile l .format := by
  have hmal : dataMalformed payload = true := by
    simp [dataMalformed, Config.recordOctets]
    tauto
  rcases (Lane.hasFile_iff _).mp h with h | h <;> simp only [State.dataFrame, h, hmal, if_true]

theorem State.lane_unmarked (s : State) (l : LaneNo) :
    (s.onLane l fun x => { x with overrun := none }).lane l = { s.lane l with overrun := none } :=
  State.lane_onLane_same s l _

theorem State.takeMark_open (h : (s.lane l).hasFile = true) :
    s.takeMark l = (s.onLane l fun x => { x with overrun := none }).abortFile l .overrun := by
  have hst := congrArg Lane.state (s.lane_unmarked l)
  rcases (Lane.hasFile_iff _).mp h with h | h <;> simp only [State.takeMark, hst, h]

theorem State.takeMark_idle (h : (s.lane l).state = .idle) :
    s.takeMark l = (s.onLane l fun x => { x with overrun := none }).onLane l (Lane.clear .discarding) := by
  have hst := congrArg Lane.state (s.lane_unmarked l)
  simp only [State.takeMark, hst, h]

theorem State.takeMark_discarding (h : (s.lane l).state = .discarding) :
    s.takeMark l = s.onLane l fun x => { x with overrun := none } := by
  have hst := congrArg Lane.state (s.lane_unmarked l)
  simp only [State.takeMark, hst, h]

theorem State.abortFrame_open (h : (s.lane l).hasFile = true) : s.abortFrame l = s.abortFile l .aborted := by
  rcases (Lane.hasFile_iff _).mp h with h | h <;> simp only [State.abortFrame, h]

theorem State.closeFrame_open (h : (s.lane l).hasFile = true) {f : FileInfo} (hf : (s.lane l).file = some f) (d c a) :
    s.closeFrame l d c a = if ~~~ (s.lane l).digest = c then
      (s.closeOutcome (s.closeFacts l f d a) (s.lane l).reason).onLane l (Lane.clear .idle) else s.abortFile l .corrupt := by
  rcases (Lane.hasFile_iff _).mp h with h | h <;> simp only [State.closeFrame, h, hf]

end

/-! ### Aborts -/

/-- A lane without a file is left alone by an abort. -/
theorem State.abortFile_of_not_hasFile {s : State} {l : LaneNo} (h : (s.lane l).hasFile = false) (cause : AbortCause) :
    s.abortFile l cause = s := by
  unfold State.abortFile
  split
  · next htrue _ => rw [h] at htrue; cases htrue
  · rfl

section
variable (s : State)

theorem State.lane_popFrame (m : LaneNo) :
    s.popFrame.lane m = { s.lane m with overrun := (s.lane m).overrun.map (· - 1) } := by
  simp [State.popFrame, State.lane, State.onAsm, State.onPort, vget]

theorem map_vset {α β : Type} {n : Nat} (g : α → β) (v : Vector α n) (i : Fin n) (x : α) :
    (vset v i x).map g = vset (v.map g) i (g x) := by
  simp [vset]

theorem vget_map {α β : Type} {n : Nat} (g : α → β) (v : Vector α n) (i : Fin n) : vget (v.map g) i = g (vget v i) := by
  simp [vget]

/-- The head frame may leave the FIFO before or after the file open on its lane is aborted. -/
theorem State.popFrame_abortFile {l : LaneNo} {f : FileInfo} (hopen : (s.lane l).hasFile = true)
    (hf : (s.lane l).file = some f) (cause) : s.popFrame.abortFile l cause = (s.abortFile l cause).popFrame := by
  have hlane := s.lane_popFrame l
  have hopen' : (s.popFrame.lane l).hasFile = true := by rw [hlane]; exact hopen
  have hf' : (s.popFrame.lane l).file = some f := by rw [hlane]; exact hf
  have hreason : (s.popFrame.lane l).reason = (s.lane l).reason := by rw [hlane]
  have hback : s.popFrame.handedBack f (s.lane l).reason = s.popFrame.withBooks (s.handedBack f (s.lane l).reason) :=
    s.popFrame.withBooks_handedBack s f _
  rw [State.abortFile_of_file hopen hf, State.abortFile_of_file hopen' hf', Beside.popFrame.resolveRuns, hreason, hback]
  simp only [State.popFrame, State.onLane, State.onAsm, State.onPort, State.withBooks, map_vset, vget_map]
  rfl

/-- The decoder's current directive is none of an abort's business. -/
theorem State.setCurrent_abortFile (c l cause) : (s.setCurrent c).abortFile l cause = (s.abortFile l cause).setCurrent c := by
  by_cases hopen : (s.lane l).hasFile = true
  · cases hf : (s.lane l).file with
    | none =>
      have hnone (u : State) (hu : (u.lane l).file = none) : u.abortFile l cause = u := by
        unfold State.abortFile
        split
        · next hsome => rw [hu] at hsome; cases hsome
        · rfl
      rw [hnone s hf]
      exact hnone _ hf
    | some f =>
      have hback : (s.setCurrent c).handedBack f (s.lane l).reason
          = (s.setCurrent c).withBooks (s.handedBack f (s.lane l).reason) := (s.setCurrent c).withBooks_handedBack s f _
      rw [State.abortFile_of_file hopen hf, State.abortFile_of_file (s := s.setCurrent c) hopen hf,
        (Beside.setCurrent c).resolveRuns, show ((s.setCurrent c).lane l).reason = (s.lane l).reason from rfl, hback]
      rfl
  · have hshut : (s.lane l).hasFile = false := by simpa using hopen
    rw [State.abortFile_of_not_hasFile hshut]
    exact State.abortFile_of_not_hasFile (s := s.setCurrent c) hshut cause

/-- An abort leaves the lane without a file, its overrun mark as it was, and the other lanes alone. -/
theorem State.abortFile_lane {l : LaneNo} {f : FileInfo} (hopen : (s.lane l).hasFile = true)
    (hf : (s.lane l).file = some f) (cause) (m : LaneNo) :
    (s.abortFile l cause).lane m = if m = l then Lane.clear (abortState cause) (s.lane l) else s.lane m := by
  have hasm := (State.abortFile_abortedTo hopen hf cause).1
  unfold State.lane at hasm ⊢
  rw [hasm, vget_vset]
  rfl

end

/-- Settles O19: each abort is that of its cause. -/
theorem fileAborted : Obligations.FileAborted := by
  intro s l f hstate hf
  have hopen := (Lane.hasFile_iff _).mpr hstate
  have hpop (rest) : ((s.popped rest).lane l).hasFile = true ∧ ((s.popped rest).lane l).file = some f := by
    rw [State.lane_popped]
    exact ⟨hopen, hf⟩
  refine ⟨fun arrival rest h => ⟨_, exec_takeFileAbort_of_takes h, ?_⟩,
    fun payload arrival rest h hbad => ⟨_, exec_takeFileData_of_takes h, ?_⟩,
    fun declared crc arrival rest h hcrc => ⟨_, exec_takeFileClose_of_takes h, ?_⟩,
    fun due now htimer hreading hmode hdue => ⟨laneIdleTimerExpiry l s, rfl, ?_⟩,
    fun hhand hmark => ⟨overrunMarkTaken l s, rfl, ?_⟩, fun source day slot seq arrival rest h => ?_⟩
  · rw [State.abortFrame_open (hpop rest).1]
    exact State.abortFile_abortedTo (hpop rest).1 (hpop rest).2 .aborted
  · rw [State.dataFrame_malformed (hpop rest).1 hbad]
    exact State.abortFile_abortedTo (hpop rest).1 (hpop rest).2 .format
  · have hne : ¬ ~~~ ((s.popped rest).lane l).digest = crc := by
      rw [State.lane_popped_digest]
      exact fun h => hcrc h.symm
    rw [State.closeFrame_open (hpop rest).1 (hpop rest).2, if_neg hne]
    exact State.abortFile_abortedTo (hpop rest).1 (hpop rest).2 .corrupt
  · have htimerDue : s.timerDue l = true := by
      simp only [State.timerDue, htimer, hreading, hmode, Time.seconds, decide_true, Bool.true_and]
      exact decide_eq_true hdue
    rw [laneIdleTimerExpiry, if_pos htimerDue]
    exact State.abortFile_abortedTo hopen hf .stalled
  · have hdue : (s.lane l).markDue = true := by simp [Lane.markDue, hmark]
    rw [overrunMarkTaken, if_pos ⟨hhand, hdue⟩, State.takeMark_open hopen]
    have hlane : (s.withLane l { s.lane l with overrun := none }).lane l = { s.lane l with overrun := none } :=
      vget_vset_same _ _ _
    exact State.abortFile_abortedTo (by rw [hlane]; exact hopen) (by rw [hlane]; exact hf) .overrun
  · obtain ⟨hasm, -, -, -, -, -, -, hfifo, -⟩ := State.abortFile_abortedTo hopen hf .superseded
    have htakes : (s.abortFile l .superseded).TakesFrame l (.opening source day slot seq) arrival rest := by
      obtain ⟨hhand, hmarks, hhead⟩ := h
      refine ⟨by rw [hasm]; exact hhand, fun m => ?_, hfifo.trans hhead⟩
      rw [State.abortFile_lane s hopen hf]
      split
      · exact hmarks l
      · exact hmarks m
    refine ⟨_, State.abortFile_abortedTo hopen hf .superseded, htakes, ?_⟩
    have hshut : (((s.abortFile l .superseded).popped rest).lane l).hasFile = false := by
      rw [State.lane_popped, State.abortFile_lane s hopen hf, if_pos rfl]
      rfl
    rw [exec_takeFileOpen_of_takes h, exec_takeFileOpen_of_takes htakes]
    unfold State.openFile
    rw [State.abortFile_of_not_hasFile hshut, ← State.popFrame_of_takes h, ← State.popFrame_of_takes htakes,
      State.popFrame_abortFile s hopen hf]

/-! ### Strays -/

/-- A lane with a file is neither IDLE nor DISCARDING. -/
theorem Lane.hasFile_eq_false {x : Lane} (h : x.state = .idle ∨ x.state = .discarding) : x.hasFile = false := by
  rcases h with h | h <;> simp [Lane.hasFile, h]

/-- Settles O11: the first check of R8 that applies. -/
theorem fileRefused : Obligations.FileRefused := by
  intro s l f arrival rest c h hstate hrefuse s1
  have hshut : ((s.popped rest).lane l).hasFile = false :=
    Lane.hasFile_eq_false (by rw [State.lane_popped_state]; exact hstate)
  have hcheck : (s.popped rest).refusal f = some c := by
    rw [← hrefuse]
    unfold State.refusal State.expectedCount
    simp only [Bool.not_eq_true]
    rfl
  rw [exec_takeFileOpen_of_takes h, State.openFile]
  simp only [State.abortFile_of_not_hasFile hshut, hcheck, State.refuseFile, State.raise_eq]
  rfl

theorem exec_overrunMarkTaken {s : State} {l : LaneNo} (hhand : s.asm.hand = none) (hmark : (s.lane l).overrun = some 0) :
    exec (.overrunMarkTaken l) s = .next (s.takeMark l) :=
  congrArg Host.Outcome.next (if_pos ⟨hhand, by simp [Lane.markDue, hmark]⟩)

/-- A lane cleared behind an update of its context. -/
theorem State.onLane_onLane (s : State) (l : LaneNo) (g k : Lane → Lane) :
    (s.onLane l g).onLane l k = s.withLane l (k (g (s.lane l))) := by
  simp only [State.onLane, State.onAsm, State.withLane, vset_vset_same, vget_vset_same]
  rfl

/-! ### What aborts leave alone -/

/-- The state with the blocks of another that the end of a file changes. -/
def State.withEnds (s t : State) : State :=
  { s with
    port := t.port, asm := t.asm, tracker := t.tracker, builder := t.builder, dir := t.dir, commit := t.commit
    audit := t.audit, notices := t.notices }

/-- The Audit Unit with the Event Queue and the Gap Summary of another. -/
def Audit.withTrail (a b : Audit) : Audit := { a with events := b.events, lost := b.lost, gaps := b.gaps }

/-- `t` comes from `s` by the ends of files: the audit trail, the AUDIT and DAY notices, the lanes and the stores change. -/
structure State.Ending (s t : State) : Prop where
  rest : t = s.withEnds t
  port : t.port = s.port.withReplies t.port
  replies : s.port.replies <+: t.port.replies
  commit : t.commit = { s.commit with queue := t.commit.queue }
  asm : t.asm = { s.asm with lanes := t.asm.lanes }
  audit : t.audit = s.audit.withTrail t.audit
  notices : t.notices = { s.notices with sources := t.notices.sources }
  sources : ∀ i : Fin 8, 2 ≤ i.val → vget t.notices.sources i = vget s.notices.sources i

/-- An event offered changes the Event Queue and the Gap Summary. -/
theorem Audit.offer_trail (a : Audit) (e : AuditEvent) : a.offer e = a.withTrail (a.offer e) := by
  by_cases hmarks : e.marksGap = true <;> by_cases hroom : a.events.length < Config.eventCap <;>
    simp [Audit.offer, Audit.withTrail, hmarks, hroom]

namespace State.Ending

variable {s t u : State}

theorem refl (s : State) : s.Ending s := ⟨rfl, rfl, List.prefix_rfl, rfl, rfl, rfl, rfl, fun _ _ => rfl⟩

theorem trans (h : s.Ending t) (h' : t.Ending u) : s.Ending u where
  rest := calc
    u = t.withEnds u := h'.rest
    _ = (s.withEnds t).withEnds u := by rw [← h.rest]
  port := calc
    u.port = t.port.withReplies u.port := h'.port
    _ = (s.port.withReplies t.port).withReplies u.port := by rw [← h.port]
  replies := h.replies.trans h'.replies
  commit := by rw [h'.commit, h.commit]
  asm := by rw [h'.asm, h.asm]
  audit := calc
    u.audit = t.audit.withTrail u.audit := h'.audit
    _ = (s.audit.withTrail t.audit).withTrail u.audit := by rw [← h.audit]
  notices := by rw [h'.notices, h.notices]
  sources := fun i hi => (h'.sources i hi).trans (h.sources i hi)

theorem foldl {α : Type} {f : State → α → State} (hf : ∀ (s : State) a, s.Ending (f s a)) (l : List α) (s : State) :
    s.Ending (l.foldl f s) := by
  induction l generalizing s with
  | nil => exact refl s
  | cons a l ih => exact (hf s a).trans (ih _)

theorem of_sealing (h : s.Sealing t) : s.Ending t where
  rest := by
    have hrest := h.rest
    generalize t = x at hrest ⊢
    rw [hrest]
    rfl
  port := h.port
  replies := h.replies
  commit := h.commit
  asm := by rw [h.rest]; rfl
  audit := by rw [h.rest]; rfl
  notices := by rw [h.rest]; rfl
  sources := fun i _ => by rw [h.rest]; rfl

theorem onTracker (s : State) (g) : s.Ending (s.onTracker g) :=
  ⟨rfl, rfl, List.prefix_rfl, rfl, rfl, rfl, rfl, fun _ _ => rfl⟩

theorem onLane (s : State) (l g) : s.Ending (s.onLane l g) :=
  ⟨rfl, rfl, List.prefix_rfl, rfl, rfl, rfl, rfl, fun _ _ => rfl⟩

theorem notify (s : State) {n : Fin 8} (hn : n.val < 2) (x) : s.Ending (s.notify n x) :=
  ⟨rfl, rfl, List.prefix_rfl, rfl, rfl, rfl, rfl, fun i hi => by
    have hne : i ≠ n := fun h => by rw [h] at hi; omega
    exact (vget_vset _ _ _ _).trans (if_neg hne)⟩

theorem raise (s : State) (e) : s.Ending (s.raise e) := by
  have hoffer : s.Ending (s.onAudit (·.offer e)) :=
    ⟨rfl, rfl, List.prefix_rfl, rfl, rfl, s.audit.offer_trail e, rfl, fun _ _ => rfl⟩
  exact hoffer.trans (notify _ (by decide) _)

theorem testRetirement (s : State) (day) : s.Ending (s.testRetirement day) := by
  unfold State.testRetirement
  split
  · exact refl s
  · split
    · exact (onTracker s _).trans (onTracker _ _)
    · exact refl s

theorem testSettlement (s : State) (day) : s.Ending (s.testSettlement day) := by
  unfold State.testSettlement
  split
  · exact refl s
  · split
    · exact (onTracker s _).trans ((onTracker _ _).trans (notify _ (by decide) _))
    · exact refl s

theorem fileEnded (s : State) (day) : s.Ending (s.fileEnded day) :=
  (onTracker s _).trans ((testRetirement _ day).trans (testSettlement _ day))

theorem abortOutcome (s : State) (f reason) : s.Ending (s.abortOutcome f reason) := by
  unfold State.abortOutcome
  split
  · unfold State.abortNormal
    dsimp only
    split
    · exact (onTracker s _).trans ((raise _ _).trans (fileEnded _ _))
    · exact (onTracker s _).trans (fileEnded _ _)
  · exact refl s
  · exact (onTracker s _).trans (fileEnded _ _)
  · exact (onTracker s _).trans (fileEnded _ _)

theorem abortFile (s : State) (l cause) : s.Ending (s.abortFile l cause) := by
  unfold State.abortFile
  split
  · exact (of_sealing (.resolveRuns s l .void)).trans ((abortOutcome _ _ _).trans ((raise _ _).trans (onLane _ l _)))
  · exact refl s

theorem abortAll (s : State) : s.Ending s.abortAll := foldl (fun s l => abortFile s l .reset) allLanes s

end State.Ending

end Sys2Proof.Machine
end

section
/-! The intake reset and its causes (R22, R165, R166), and the frames that arrive. -/

namespace Sys2Proof.Machine

/-! ### The files aborted -/

/-- An abort of what may be open on a lane. -/
theorem State.abortFile_endsOn (cause : AbortCause) (l : LaneNo) (s : State) :
    State.EndsOn cause (abortState cause) l s (s.abortFile l cause) := by
  unfold State.EndsOn
  split
  · next f hf =>
    unfold State.openFile? at hf
    split at hf
    · next hopen => exact State.abortFile_abortedTo ((Lane.hasFile_iff _).mpr hopen) hf cause
    · cases hf
  · next hf =>
    unfold State.openFile? at hf
    unfold State.abortFile
    split
    · next f hopen hsome =>
      rw [if_pos ((Lane.hasFile_iff _).mp hopen), hsome] at hf
      cases hf
    · rfl

theorem State.abortAll_resetAborts (s : State) : State.ResetAborts s s.abortAll :=
  through_foldl (fun s l => State.abortFile_endsOn .reset l s) allLanes s

/-! ### The return frame cut off -/

/-- The notices once the frame in progress is cut off: of a notice the flag is set again. -/
def Notices.restored (n : Notices) : Option Sending → Notices
  | some (.notice src _ _ _) => { n with sources := vset n.sources src { vget n.sources src with flag := true } }
  | _ => n

theorem State.cutOff_eq (s : State) :
    s.cutOff = { s with port := { s.port with sending := none }, notices := s.notices.restored s.port.sending } := by
  unfold State.cutOff Notices.restored
  rcases s.port.sending with _ | f
  · rfl
  · cases f <;> rfl

/-! ### The intake reset -/

/-- The state an intake reset aborts the open files in. -/
def State.intakeEmptied (s : State) : State := { s with
  port := { s.port with fifo := [], counters := { s.port.counters with
    intakeResets := min (s.port.counters.intakeResets + 1) 4294967295 } }
  asm := { s.asm with hand := none } }

theorem State.intakeReset_eq (s : State) :
    s.intakeReset = ((s.intakeEmptied.abortAll.onAsm fun a => { a with lanes := a.lanes.map Lane.afterReset }).cutOff).queueFlow :=
  rfl

/-- R166, R22: what an intake reset leaves. -/
theorem State.intakeReset_to (s : State) : s.IntakeResetTo s.intakeReset := by
  rw [State.intakeReset_eq]
  have hend := State.Ending.abortAll s.intakeEmptied
  have habort := s.intakeEmptied.abortAll_resetAborts
  generalize s.intakeEmptied.abortAll = u at hend habort ⊢
  obtain ⟨hrest, hport, hreplies, hcommit, hasm, haudit, hnotices, -⟩ := hend
  have hsending : u.port.sending = s.port.sending := (congrArg Port.sending hport :)
  have hcounters : u.port.counters = s.intakeEmptied.port.counters := (congrArg Port.counters hport :)
  have hcut : (u.onAsm fun a => { a with lanes := a.lanes.map Lane.afterReset }).cutOff.queueFlow = { u with
      asm := { u.asm with lanes := u.asm.lanes.map Lane.afterReset }
      port := { u.port with sending := none, flowSlot := some u.port.flow }
      notices := u.notices.restored s.port.sending } := by
    rw [State.cutOff_eq, show (u.onAsm _).port.sending = s.port.sending from hsending]
    rfl
  rw [hcut]
  have hfields : u.pending = s.pending ∧ u.engine = s.engine ∧ u.current = s.current ∧ u.clock = s.clock
      ∧ u.tables = s.tables ∧ u.hold = s.hold ∧ u.targets = s.targets ∧ u.expiry = s.expiry ∧ u.coder = s.coder := by
    rw [hrest]
    exact ⟨rfl, rfl, rfl, rfl, rfl, rfl, rfl, rfl, rfl⟩
  obtain ⟨hpending, hengine, hcurrent, hclock, htables, hhold, htargets, hexpiry, hcoder⟩ := hfields
  refine ⟨hpending, hengine, hcurrent, hclock, htables, hhold, htargets, hexpiry, hcoder,
    congrArg (fun a : Assembler => { a with lanes := u.asm.lanes.map Lane.afterReset }) hasm, fun l => ?_,
    congrArg (fun p : Port => { p with sending := none, flowSlot := some u.port.flow }) hport, hreplies,
    ⟨u, ?_, rfl, rfl, rfl, rfl, rfl, rfl, rfl, rfl, ?_⟩, hcommit, haudit, fun src n time snap h => ?_⟩
  · unfold State.lane Lane.atRest
    dsimp only
    rw [vget_map]
    exact ⟨rfl, rfl, rfl, rfl, rfl, rfl, rfl⟩
  · dsimp only
    rw [hcounters]
    exact habort
  · unfold Notices.restored
    rcases s.port.sending with _ | f
    · rfl
    · cases f <;> rfl
  · dsimp only
    rw [h]
    exact congrArg NoticeSource.flag (vget_vset_same _ _ _)

/-! ### The causes of an intake reset -/

theorem linkReset_of_up {s : State} (h : s.port.link = .up) :
    linkReset s = ({ s with port := { s.port with counters := { s.port.counters with
      received := min (s.port.counters.received + 1) 4294967295 } } } : State).intakeReset := by
  unfold linkReset
  rw [h]
  simp only [State.routeArrival, State.onCounters, State.onPort, up_eq]

theorem linkLoss_of_up {s : State} (h : s.port.link = .up) :
    linkLoss s = ({ s with port := { s.port with
      link := .lost, counters := { s.port.counters with losses := min (s.port.counters.losses + 1) 4294967295 } } }
      : State).intakeReset := by
  unfold linkLoss
  rw [h]
  simp only [State.onCounters, State.onPort, up_eq]

/-- A directive without parameters. -/
theorem readNothing_nil : readNothing [] = some () := rfl

/-- The decoder's own marks about a directive, taken and done. -/
theorem State.takeDirective_none {s : State} {code tag payload rest} (h : s.Takes code tag payload rest) :
    (s.takeDirective { code := code, tag := tag, payload := payload }).setCurrent none = s.took rest := by
  obtain ⟨hcurrent, -, hqueue⟩ := h
  simp only [State.takeDirective, State.setCurrent, State.onPort, State.took, hqueue, List.tail_cons, ← hcurrent]

theorem State.setCurrent_abortAll (s : State) (c) : (s.setCurrent c).abortAll = s.abortAll.setCurrent c := by
  unfold State.abortAll
  generalize allLanes = ls
  induction ls generalizing s with
  | nil => rfl
  | cons l ls ih => rw [List.foldl_cons, List.foldl_cons, State.setCurrent_abortFile, ih]

theorem State.setCurrent_intakeReset (s : State) (c) : (s.setCurrent c).intakeReset = s.intakeReset.setCurrent c := by
  rw [State.intakeReset_eq, State.intakeReset_eq,
    show (s.setCurrent c).intakeEmptied = s.intakeEmptied.setCurrent c from rfl, State.setCurrent_abortAll,
    State.cutOff_eq, State.cutOff_eq]
  simp only [State.queueFlow, State.onPort, State.onAsm, State.setCurrent]

/-- Settles O6: each cause makes the reset behind its own mark. -/
theorem intakeResetEffect : Obligations.IntakeResetEffect := by
  intro s
  refine ⟨fun hup => ⟨linkReset s, rfl, ?_⟩, fun hup => ⟨linkLoss s, rfl, ?_⟩, fun hlost => ⟨?_, ?_⟩, fun tag rest h => ?_⟩
  · rw [linkReset_of_up hup]
    exact State.intakeReset_to _
  · rw [linkLoss_of_up hup]
    exact State.intakeReset_to _
  · refine congrArg Host.Outcome.next (?_ : linkReset s = s)
    simp only [linkReset, hlost]
  · refine congrArg Host.Outcome.next (?_ : linkLoss s = s)
    simp only [linkLoss, hlost]
  · refine ⟨(s.took rest).intakeReset, State.intakeReset_to _, ?_⟩
    refine congrArg Host.Outcome.next ((State.directive_of_takes h readNothing_nil _).trans ?_)
    rw [← State.takeDirective_none h, State.setCurrent_intakeReset]
    rfl

/-! ### Frames that arrive -/

theorem State.fileArrives_queued {s : State} {l : LaneNo} (h : s.port.fifo.length < 64) (b : FileBody) :
    s.fileArrives l b = (s.stopTimer l).onPort fun p =>
      { p with fifo := p.fifo ++ [{ lane := l, body := b, arrival := s.clock.reading }] } := if_pos h

theorem State.fileArrives_full {s : State} {l : LaneNo} (h : ¬ s.port.fifo.length < 64) (b : FileBody) :
    s.fileArrives l b = (s.stopTimer l).overrunFrame l := if_neg h

/-- Settles O7: the findings of a frame, and where a file frame goes. -/
theorem fileFrameArrival : Obligations.FileFrameArrival := by
  refine ⟨frameFinding_iff, fun s octets hup hfind => ⟨?_, ?_⟩, fun s octets => ⟨?_, ?_, ?_, ?_⟩,
    fun s octets l b hup hfind => ?_⟩
  · rw [frameArrival_of_up hup hfind]
    refine congrArg Host.Outcome.next (?_ : _ = linkReset s)
    simp only [linkReset, hup]
  · rw [frameArrival_of_up hup hfind]
    have hreset : linkReset s = s.routeArrival .linkReset := by simp only [linkReset, hup]
    refine ⟨_, rfl, ?_⟩
    rw [← hreset, linkReset_of_up hup]
    exact State.intakeReset_to _
  · intro hlost
    refine congrArg Host.Outcome.next (?_ : frameArrival octets s = s)
    simp only [frameArrival, hlost]
  iterate 3
    intro hup hfind
    refine congrArg Host.Outcome.next (?_ : frameArrival octets s = _)
    unfold frameArrival
    rw [hup]
    simp only [hfind, State.onCounters, State.onPort, up_eq]
  · rw [frameArrival_of_up hup hfind]
    refine congrArg Host.Outcome.next ?_
    unfold State.routeArrival
    dsimp only
    by_cases hroom : s.port.fifo.length < 64
    · rw [if_pos hroom, State.fileArrives_queued (s := s.onCounters fun c => { c with received := up c.received }) hroom]
      simp only [State.onCounters, State.onPort, up_eq, State.stopTimer, State.onLane, State.onAsm, State.withLane]
      rfl
    · rw [if_neg hroom, State.fileArrives_full (s := s.onCounters fun c => { c with received := up c.received }) hroom]
      simp only [State.onCounters, State.onPort, up_eq, State.stopTimer, State.onLane, State.onAsm, State.withLane,
        State.overrunFrame, vset_vset_same, vget_vset_same]
      rfl

end Sys2Proof.Machine
end

section
/-! The Directive Decoder and the queries (R161, 09 section 9.6), and frames that are stray or discarded (R14). -/

namespace Sys2Proof.Machine

/-! ### Directives answered at once -/

section
variable {s : State} {code : Nat} {tag : Tag} {payload : List Byte} {rest : List Directive}

theorem State.answer_of_takes (h : s.Takes code tag payload rest) (r : Result) (figures : List Byte) :
    ((s.takeDirective { code := code, tag := tag, payload := payload }).answer tag r figures).setCurrent none
      = (s.took rest).replied tag r false figures := by
  rw [← State.takeDirective_none h]
  rfl

theorem State.report_of_takes (h : s.Takes code tag payload rest) (contents : List Byte) :
    ((s.takeDirective { code := code, tag := tag, payload := payload }).report tag contents).setCurrent none
      = (s.took rest).replied tag .done false contents :=
  State.answer_of_takes h .done contents

end

/-! ### The resets leave the counters of the File Assembler -/

theorem State.foldl_keeps {α β : Type} (field : State → β) {f : State → α → State} (hf : ∀ s a, field (f s a) = field s)
    (l : List α) (s : State) : field (l.foldl f s) = field s := by
  induction l generalizing s with
  | nil => rfl
  | cons a l ih => rw [List.foldl_cons, ih, hf]

theorem State.resetCommit_asm (s : State) : s.resetCommit.asm = s.asm := by
  unfold State.resetCommit
  split
  · rfl
  · dsimp only
    split <;> rfl

theorem State.rescueHead_asm (s : State) (t) : (s.rescueHead t).asm = s.asm := by
  unfold State.rescueHead
  split <;> rfl

theorem State.resetTarget_asm (s : State) (t) : (s.resetTarget t).asm = s.asm := by
  unfold State.resetTarget
  dsimp only
  split
  · exact State.rescueHead_asm _ t
  · rfl

theorem State.restartScan_asm (s : State) (t) : (s.restartScan t).asm = s.asm := by
  unfold State.restartScan
  split <;> rfl

theorem State.resetEngine_asm (s : State) : s.resetEngine.asm = s.asm := by
  unfold State.resetEngine
  split
  · rfl
  · rfl
  · exact State.foldl_keeps State.asm State.restartScan_asm _ s

/-- The state of an engine reset before the open files are aborted. -/
def State.portsReset (s : State) : State :=
  ((s.resetPort.resetNotices).onBuilder fun b => { b with flush := none }).resetAudit

theorem State.engineReset_eq (s : State) :
    s.engineReset = ((((s.portsReset.resetLanes.resetCommit).resetTargets).resetEngine.resetExpiry).resetFlow) := rfl

theorem State.resetLanes_asm (s : State) :
    s.resetLanes.asm = { s.asm with lanes := s.resetLanes.asm.lanes, hand := none } := by
  have habort := (State.Ending.abortAll ((s.onAsm fun a => { a with hand := none }).onPort fun p => { p with fifo := [] })).asm
  exact congrArg (fun a : Assembler => { a with lanes := s.resetLanes.asm.lanes }) habort

theorem State.engineReset_asm (s : State) :
    s.engineReset.asm = { s.asm with lanes := s.engineReset.asm.lanes, hand := none } := by
  have hafter (r : State) : (((r.resetCommit).resetTargets).resetEngine.resetExpiry).resetFlow.asm = r.asm :=
    calc
      (((r.resetCommit).resetTargets).resetEngine.resetExpiry).resetFlow.asm = r.resetCommit.resetTargets.resetEngine.asm := by
        generalize r.resetCommit.resetTargets.resetEngine = u
        rfl
      _ = r.resetCommit.resetTargets.asm := State.resetEngine_asm _
      _ = r.resetCommit.asm := State.foldl_keeps State.asm State.resetTarget_asm allTargets _
      _ = r.asm := State.resetCommit_asm r
  have hbefore : s.portsReset.asm = s.asm := rfl
  rw [State.engineReset_eq, hafter, State.resetLanes_asm, hbefore]

theorem State.intakeReset_asm (s : State) :
    s.intakeReset.asm = { s.asm with lanes := s.intakeReset.asm.lanes, hand := none } := by
  obtain ⟨-, -, -, -, -, -, -, -, -, hasm, -⟩ := s.intakeReset_to
  exact hasm

/-- The counters of R14. -/
def State.strays (s : State) : Nat × Nat := (s.asm.stray, s.asm.discarded)

theorem State.directive_strays (s : State) {α : Type} (code) (read : List Byte → Option α) {work}
    (h : ∀ tag a (u : State), (work tag a u).strays = u.strays) : (s.directive code read work).strays = s.strays :=
  State.directive_keeps State.strays (fun _ _ => rfl) (fun _ _ => rfl) s code read h

theorem State.engineReset_strays (s : State) : s.engineReset.strays = s.strays := by
  rw [State.strays, State.engineReset_asm]; rfl

theorem State.intakeReset_strays (s : State) : s.intakeReset.strays = s.strays := by
  rw [State.strays, State.intakeReset_asm]; rfl

theorem linkReset_strays (s : State) : (linkReset s).strays = s.strays := by
  cases h : s.port.link with
  | lost => simp only [linkReset, h]
  | up => rw [linkReset_of_up h]; exact State.intakeReset_strays _

theorem linkLoss_strays (s : State) : (linkLoss s).strays = s.strays := by
  cases h : s.port.link with
  | lost => simp only [linkLoss, h]
  | up => rw [linkLoss_of_up h]; exact State.intakeReset_strays _

theorem State.answer_strays (s : State) (tag r figs) : (s.answer tag r figs).strays = s.strays := rfl

theorem engineResetDirective_strays (s : State) : (engineResetDirective s).strays = s.strays := by
  unfold engineResetDirective
  exact s.directive_strays _ _ fun tag _ u => (u.engineReset.answer_strays tag _ _).trans u.engineReset_strays

theorem intakeResetDirective_strays (s : State) : (intakeResetDirective s).strays = s.strays := by
  unfold intakeResetDirective
  exact s.directive_strays _ _ fun tag _ u => (u.intakeReset.answer_strays tag _ _).trans u.intakeReset_strays

/-- The resets of either kind keep the counters. -/
theorem exec_reset_strays (s : State) {c : Instr} (hc : c ∈ [Instr.resetInput, .engineReset, .linkReset, .linkLoss, .intakeReset]) :
    ∃ t, exec c s = .next t ∧ t.strays = s.strays := by
  simp only [List.mem_cons, List.not_mem_nil, or_false] at hc
  rcases hc with rfl | rfl | rfl | rfl | rfl
  · exact ⟨s.engineReset, rfl, s.engineReset_strays⟩
  · exact ⟨engineResetDirective s, rfl, engineResetDirective_strays s⟩
  · exact ⟨linkReset s, rfl, linkReset_strays s⟩
  · exact ⟨linkLoss s, rfl, linkLoss_strays s⟩
  · exact ⟨intakeResetDirective s, rfl, intakeResetDirective_strays s⟩

/-- Settles O13: by the state of the lane. -/
theorem strayAndDiscardedFrames : Obligations.StrayAndDiscardedFrames := by
  refine ⟨fun s l arrival rest payload declared crc => ⟨fun hidle => ⟨fun h => ?_, fun h => ?_, fun h => ?_⟩,
    fun hdisc => ⟨fun h => ?_, fun h => ?_, fun h => ?_⟩⟩,
    fun s l => ⟨fun hhand hmark hidle => ?_, fun hhand hmark hdisc => ?_, fun hnot => ?_⟩,
    fun s => ⟨_, rfl, rfl, rfl⟩, fun s c hc => ?_, fun s tag rest h => ?_⟩
  · rw [exec_takeFileData_of_takes h, State.dataFrame_idle (by rw [State.lane_popped_state]; exact hidle)]
    rfl
  · rw [exec_takeFileClose_of_takes h, State.closeFrame_idle (by rw [State.lane_popped_state]; exact hidle)]
    rfl
  · rw [exec_takeFileAbort_of_takes h, State.abortFrame_idle (by rw [State.lane_popped_state]; exact hidle)]
    rfl
  · rw [exec_takeFileData_of_takes h, State.dataFrame_discarding (by rw [State.lane_popped_state]; exact hdisc)]
    rfl
  · rw [exec_takeFileClose_of_takes h, State.closeFrame_discarding (by rw [State.lane_popped_state]; exact hdisc)]
    rfl
  · rw [exec_takeFileAbort_of_takes h, State.abortFrame_discarding (by rw [State.lane_popped_state]; exact hdisc)]
    rfl
  · rw [exec_overrunMarkTaken hhand hmark, State.takeMark_idle hidle, State.onLane_onLane]
    rfl
  · rw [exec_overrunMarkTaken hhand hmark, State.takeMark_discarding hdisc]
    rfl
  · refine congrArg Host.Outcome.next (if_neg ?_ : overrunMarkTaken l s = s)
    rintro ⟨hhand, hdue⟩
    rcases hnot with h | h
    · exact h hhand
    · exact h (by simpa [Lane.markDue] using hdue)
  · obtain ⟨t, ht, hstrays⟩ := exec_reset_strays s hc
    exact ⟨t, ht, congrArg Prod.fst hstrays, congrArg Prod.snd hstrays⟩
  · refine ⟨named s.engine.number ++ s.clock.standing ++ ((s.asm.lanes.toList.map Lane.octets).flatten
      ++ be 4 s.asm.presence ++ be 4 s.asm.startRange ++ be 4 s.asm.digits ++ be 4 s.asm.pad),
      s.tableOctets ++ s.segmentOctets ++ s.expiry.octets ++ s.audit.octets ++ s.notices.octets, ?_⟩
    refine congrArg Host.Outcome.next ((State.directive_of_takes h readNothing_nil _).trans
      ((State.report_of_takes h _).trans (congrArg _ ?_)))
    change s.statusOctets = _
    simp only [State.statusOctets, Assembler.octets, List.append_assoc]

end Sys2Proof.Machine
end

section
/-! The queries, and what the decoder refuses (R161, R179). -/

namespace Sys2Proof.Machine

/-! ### Queries -/

section
variable {s : State} {tag : Tag} {payload : List Byte} {rest : List Directive}

theorem State.refuse_of_takes {code : Nat} (h : s.Takes code tag payload rest) (r : Result) :
    ((s.takeDirective { code := code, tag := tag, payload := payload }).refuse tag r).setCurrent none
      = s.turnedDown rest tag r :=
  State.take_refuse h r

theorem readClock_of_takes (h : s.Takes 0x1B tag [] rest) : readClock s = (s.took rest).replied tag .done false
    (s.clock.standing ++ be 4 s.clock.remainder ++ flagOctet (s.clock.reading.any lastReading)) := by
  unfold readClock
  rw [State.directive_of_takes h readNothing_nil]
  exact State.report_of_takes h _

theorem readStatus_of_takes (h : s.Takes 0x1C tag [] rest) :
    readStatus s = (s.took rest).replied tag .done false s.statusOctets := by
  unfold readStatus
  rw [State.directive_of_takes h readNothing_nil]
  exact State.report_of_takes h _

theorem readHolds_of_takes (h : s.Takes 0x23 tag [] rest) :
    readHolds s = (s.took rest).replied tag .done false s.hold.octets := by
  unfold readHolds
  rw [State.directive_of_takes h readNothing_nil]
  exact State.report_of_takes h _

theorem readGapSummary_of_takes (h : s.Takes 0x1E tag [] rest) :
    readGapSummary s = ({ s.took rest with audit := { s.audit with gaps := 0 } } : State).replied tag .done false
      (listOctets ((flaggedSources s.audit.gaps).map (be 2))) := by
  unfold readGapSummary
  rw [State.directive_of_takes h readNothing_nil, ← State.takeDirective_none h]
  rfl

theorem readSegment_of_takes (h : s.Takes 0x1F tag payload rest) {id : Nat} (hid : readNumber 4 payload = some id) :
    readSegment s = if id = 0 then s.turnedDown rest tag .refusedRange
      else match s.entry? id with
        | none => s.turnedDown rest tag .notFound
        | some e => (s.took rest).replied tag .done false (e.octets ++ s.lastPlacementOctets e) := by
  unfold readSegment
  rw [State.directive_of_takes h hid]
  split
  · exact State.refuse_of_takes h _
  · rw [show (s.takeDirective _).entry? id = s.entry? id from rfl]
    cases s.entry? id with
    | none => exact State.refuse_of_takes h _
    | some e => exact State.report_of_takes h _

theorem readDay_of_takes (h : s.Takes 0x20 tag payload rest) {day : Nat} (hday : readNumber 2 payload = some day) :
    readDay s = match s.day? day with
      | some d => (s.took rest).replied tag .done false d.octets
      | none => if s.isSettled day then (s.took rest).replied tag .done false (named 3)
        else s.turnedDown rest tag .notFound := by
  unfold readDay
  rw [State.directive_of_takes h hday, show (s.takeDirective _).day? day = s.day? day from rfl,
    show (s.takeDirective _).isSettled day = s.isSettled day from rfl]
  cases s.day? day with
  | some d => exact State.report_of_takes h _
  | none =>
    dsimp only
    split
    · exact State.report_of_takes h _
    · exact State.refuse_of_takes h _

theorem readContinuity_of_takes (h : s.Takes 0x21 tag payload rest) {source day : Nat}
    (hp : readReadContinuity payload = some (source, day)) :
    readContinuity s = if 511 < source then s.turnedDown rest tag .refusedRange
      else match s.record? source day with
        | some r => (s.took rest).replied tag .done false (r.octets ++ (s.source source).octets)
        | none => (s.took rest).replied tag .notFound false
            ((((s.day? day).bind (·.retiredItem? source)).map RetiredItem.octets).getD []) := by
  unfold readContinuity
  rw [State.directive_of_takes h hp]
  split
  · exact State.refuse_of_takes h _
  · dsimp only
    rw [show (s.takeDirective _).record? source day = s.record? source day from rfl]
    cases s.record? source day with
    | some r => exact State.report_of_takes h _
    | none => exact State.answer_of_takes h _ _

theorem readTarget_of_takes (h : s.Takes 0x22 tag payload rest) {number : Nat} (hn : readNumber 1 payload = some number) :
    readTarget s = if 3 < number then s.turnedDown rest tag .refusedRange
      else (s.took rest).replied tag .done false (s.target (Fin.ofNat 4 number)).octets := by
  unfold readTarget
  rw [State.directive_of_takes h hn]
  split
  · exact State.refuse_of_takes h _
  · exact State.report_of_takes h _

theorem readLink_of_takes (h : s.Takes 0x24 tag payload rest) {clear : Bool} (hc : readReadLink payload = some clear) :
    readLink s = ({ s.took rest with port := { (s.took rest).port with
        counters := if clear then {} else s.port.counters } } : State).replied tag .done false (s.took rest).linkOctets := by
  have hoctets : (s.takeDirective { code := 0x24, tag := tag, payload := payload }).linkOctets = (s.took rest).linkOctets := by
    rw [← State.takeDirective_none h]
    rfl
  unfold readLink
  rw [State.directive_of_takes h hc]
  dsimp only
  rw [hoctets, ← State.takeDirective_none h]
  cases clear <;> rfl

end

/-- Settles O53: each query's reply, from the state as it stands. -/
theorem queriesReport : Obligations.QueriesReport := by
  intro s tag payload rest told
  refine ⟨fun h => ?_, fun h => ?_, fun h => ?_, fun id h hid => ?_, fun day h hday => ?_, fun source day h hp => ?_,
    fun number h hn => ⟨fun hbig => ?_, fun t ht => ?_⟩, fun h => ?_, fun clear h hc => ?_⟩
  · refine congrArg Host.Outcome.next ((readClock_of_takes h).trans ?_)
    have hlast : s.clock.reading.any lastReading = decide (s.clock.reading = some { day := 65535, second := 86399 }) := by
      rcases s.clock.reading with _ | ⟨day, second⟩
      · rfl
      · simp [lastReading]
    have hmode : s.clock.mode.number = match s.clock.mode with
        | .notSet => 1
        | .running => 2
        | .holding => 3 := by cases s.clock.mode <;> rfl
    rw [Clock.standing, hlast, hmode] <;> rfl
  · exact congrArg Host.Outcome.next (readStatus_of_takes h)
  · refine congrArg Host.Outcome.next ((readGapSummary_of_takes h).trans ?_)
    refine congrArg (State.replied _ tag .done false) ?_
    dsimp only
    rw [listOctets, List.length_map, List.flatMap_def]
    rfl
  · refine (congrArg Host.Outcome.next (readSegment_of_takes h hid) : exec .readSegment s = _).trans ?_
    split
    · rfl
    · cases he : s.entry? id with
      | none => rfl
      | some e =>
        have hide : e.id = id := by simpa using List.find?_some he
        have hlast : s.lastPlacementOctets e = if e.state = .opened then
            be 8 (((s.buffer? id).map Buffer.lastPlacement).getD 0) else [] := by rw [← hide]; rfl
        dsimp only
        rw [hlast]
  · refine (congrArg Host.Outcome.next (readDay_of_takes h hday) : exec .readDay s = _).trans ?_
    cases s.day? day with
    | some d =>
      have hstate : d.state.number = if d.state = .opened then 1 else 2 := by cases d.state <;> rfl
      have hoctets : d.octets = named (if d.state = .opened then 1 else 2) ++ be 4 d.deadline ++ be 4 d.live
          ++ be 4 d.inProgress ++ be 4 d.retired.length := by rw [← hstate]; rfl
      dsimp only
      rw [hoctets]
    | none =>
      dsimp only
      split <;> rfl
  · refine (congrArg Host.Outcome.next (readContinuity_of_takes h hp) : exec .readContinuity s = _).trans ?_
    split
    · rfl
    · cases s.record? source day <;> rfl
  · refine (congrArg Host.Outcome.next (readTarget_of_takes h hn) : exec .readTarget s = _).trans ?_
    rw [if_pos hbig]
  · refine (congrArg Host.Outcome.next (readTarget_of_takes h hn) : exec .readTarget s = _).trans ?_
    have hsmall : ¬ 3 < number := by omega
    have hfin : Fin.ofNat 4 number = t := Fin.ext (by simp; omega)
    rw [if_neg hsmall, hfin]
  · exact congrArg Host.Outcome.next (readHolds_of_takes h)
  · exact congrArg Host.Outcome.next (readLink_of_takes h hc)

/-! ### What the decoder refuses -/

/-- A command answers REFUSED_RANGE, and changes nothing, to a directive of its code with a payload of a kind. -/
def Refuses (i : Instr) (code : Nat) (bad : List Byte → Prop) : Prop :=
  ∀ (s : State) (tag : Tag) (payload : List Byte) (rest : List Directive), s.Takes code tag payload rest → bad payload →
    exec i s = .next (s.turnedDown rest tag .refusedRange)

/-- A payload that the reader of a directive does not take is refused. -/
theorem refuses_of_unreadable {α : Type} {i : Instr} {code : Nat} {read : List Byte → Option α}
    {work : Tag → α → State → State} (hexec : ∀ s, exec i s = .next (s.directive code read work))
    {bad : List Byte → Prop} (hbad : ∀ l, bad l → read l = none) : Refuses i code bad :=
  fun s _ _ _ h hp => (hexec s).trans (congrArg _ (State.directive_unreadable h (hbad _ hp) work))

theorem setClock_refuses_length : Refuses .setClock 0x01 fun l => l.length ≠ 6 :=
  refuses_of_unreadable (fun _ => rfl) fun _ h => if_neg h
theorem loadTarget_refuses_length : Refuses .loadTarget 0x06 fun l => l.length ≠ 18 :=
  refuses_of_unreadable (fun _ => rfl) fun _ h => if_neg h
theorem setTarget_refuses_length : Refuses .setTarget 0x07 fun l => l.length ≠ 2 :=
  refuses_of_unreadable (fun _ => rfl) fun _ h => if_neg h
theorem setDayPolicy_refuses_length : Refuses .setDayPolicy 0x08 fun l => l.length ≠ 12 :=
  refuses_of_unreadable (fun _ => rfl) fun _ h => if_neg h
theorem setSweep_refuses_length : Refuses .setSweep 0x09 fun l => l.length ≠ 14 :=
  refuses_of_unreadable (fun _ => rfl) fun _ h => if_neg h
theorem setNotices_refuses_length : Refuses .setNotices 0x0A fun l => l.length ≠ 4 :=
  refuses_of_unreadable (fun _ => rfl) fun _ h => if_neg h
theorem setGuard_refuses_length : Refuses .setGuard 0x0B fun l => l.length ≠ 6 :=
  refuses_of_unreadable (fun _ => rfl) fun _ h => if_neg h
theorem addHold_refuses_length : Refuses .addHold 0x0C fun l => l.length ≠ 14 :=
  refuses_of_unreadable (fun _ => rfl) fun _ h => if_neg h
theorem dropHold_refuses_length : Refuses .dropHold 0x0D fun l => l.length ≠ 4 :=
  refuses_of_unreadable (fun _ => rfl) fun _ h => if_neg h
theorem setProtectMode_refuses_length : Refuses .setProtectMode 0x0E fun l => l.length ≠ 2 :=
  refuses_of_unreadable (fun _ => rfl) fun _ h => if_neg h
theorem startArchive_refuses_length : Refuses .startArchive 0x0F fun l => l.length ≠ 0 :=
  refuses_of_unreadable (fun _ => rfl) fun _ h => if_neg h
theorem closeDay_refuses_length : Refuses .closeDay 0x10 fun l => l.length ≠ 2 :=
  refuses_of_unreadable (fun _ => rfl) fun _ h => if_neg h
theorem waive_refuses_length : Refuses .waive 0x11 fun l => l.length ≠ 6 :=
  refuses_of_unreadable (fun _ => rfl) fun _ h => if_neg h
theorem flush_refuses_length : Refuses .flush 0x12 fun l => l.length ≠ 6 :=
  refuses_of_unreadable (fun _ => rfl) fun _ h => if_neg h
theorem sweepNow_refuses_length : Refuses .sweepNow 0x13 fun l => l.length ≠ 0 :=
  refuses_of_unreadable (fun _ => rfl) fun _ h => if_neg h
theorem scrubNow_refuses_length : Refuses .scrubNow 0x14 fun l => l.length ≠ 0 :=
  refuses_of_unreadable (fun _ => rfl) fun _ h => if_neg h
theorem verify_refuses_length : Refuses .verify 0x15 fun l => l.length ≠ 4 :=
  refuses_of_unreadable (fun _ => rfl) fun _ h => if_neg h
theorem retrieve_refuses_length : Refuses .retrieve 0x16 fun l => l.length ≠ 7 :=
  refuses_of_unreadable (fun _ => rfl) fun _ h => if_neg h
theorem retryCommits_refuses_length : Refuses .retryCommits 0x17 fun l => l.length ≠ 0 :=
  refuses_of_unreadable (fun _ => rfl) fun _ h => if_neg h
theorem clearSuspect_refuses_length : Refuses .clearSuspect 0x18 fun l => l.length ≠ 4 :=
  refuses_of_unreadable (fun _ => rfl) fun _ h => if_neg h
theorem engineReset_refuses_length : Refuses .engineReset 0x19 fun l => l.length ≠ 0 :=
  refuses_of_unreadable (fun _ => rfl) fun _ h => if_neg h
theorem intakeReset_refuses_length : Refuses .intakeReset 0x1A fun l => l.length ≠ 0 :=
  refuses_of_unreadable (fun _ => rfl) fun _ h => if_neg h
theorem readClock_refuses_length : Refuses .readClock 0x1B fun l => l.length ≠ 0 :=
  refuses_of_unreadable (fun _ => rfl) fun _ h => if_neg h
theorem readStatus_refuses_length : Refuses .readStatus 0x1C fun l => l.length ≠ 0 :=
  refuses_of_unreadable (fun _ => rfl) fun _ h => if_neg h
theorem readEvents_refuses_length : Refuses .readEvents 0x1D fun l => l.length ≠ 4 :=
  refuses_of_unreadable (fun _ => rfl) fun _ h => if_neg h
theorem readGapSummary_refuses_length : Refuses .readGapSummary 0x1E fun l => l.length ≠ 0 :=
  refuses_of_unreadable (fun _ => rfl) fun _ h => if_neg h
theorem readSegment_refuses_length : Refuses .readSegment 0x1F fun l => l.length ≠ 4 :=
  refuses_of_unreadable (fun _ => rfl) fun _ h => if_neg h
theorem readDay_refuses_length : Refuses .readDay 0x20 fun l => l.length ≠ 2 :=
  refuses_of_unreadable (fun _ => rfl) fun _ h => if_neg h
theorem readContinuity_refuses_length : Refuses .readContinuity 0x21 fun l => l.length ≠ 4 :=
  refuses_of_unreadable (fun _ => rfl) fun _ h => if_neg h
theorem readTarget_refuses_length : Refuses .readTarget 0x22 fun l => l.length ≠ 1 :=
  refuses_of_unreadable (fun _ => rfl) fun _ h => if_neg h
theorem readHolds_refuses_length : Refuses .readHolds 0x23 fun l => l.length ≠ 0 :=
  refuses_of_unreadable (fun _ => rfl) fun _ h => if_neg h
theorem readLink_refuses_length : Refuses .readLink 0x24 fun l => l.length ≠ 1 :=
  refuses_of_unreadable (fun _ => rfl) fun _ h => if_neg h

theorem itemsAt_of_length {l : List Byte} {off size : Nat} (h : l.length ≠ off + 2 + fieldAt l off 2 * size) :
    itemsAt l off size = none := if_neg h

theorem loadSources_refuses_length : Refuses .loadSources 0x02 fun l => l.length ≠ 2 + fieldAt l 0 2 * 8 :=
  refuses_of_unreadable (fun _ => rfl) fun l h => by
    rw [readLoadSources, itemsAt_of_length (by omega), Option.bind_none]
theorem loadTypeMap_refuses_length : Refuses .loadTypeMap 0x03 fun l => l.length ≠ 2 + fieldAt l 0 2 * 3 :=
  refuses_of_unreadable (fun _ => rfl) fun l h => by
    rw [readLoadTypeMap, itemsAt_of_length (by omega), Option.bind_none]
theorem loadClasses_refuses_length : Refuses .loadClasses 0x04 fun l => l.length ≠ 2 + fieldAt l 0 2 * 8 :=
  refuses_of_unreadable (fun _ => rfl) fun l h => by
    rw [readLoadClasses, itemsAt_of_length (by omega), Option.bind_none]
theorem loadDictionary_refuses_length : Refuses .loadDictionary 0x05 fun l => l.length ≠ 3 + fieldAt l 1 2 * 7 :=
  refuses_of_unreadable (fun _ => rfl) fun l h => by
    rw [readLoadDictionary, itemsAt_of_length (by omega), Option.map_none]

/-! ### Flags and marks above 1 -/

theorem flagAt_of_gt {l : List Byte} {off : Nat} (h : 1 < octetAt l off) : flagAt l off = none := by
  unfold flagAt
  rw [if_neg (by omega), if_neg (by omega)]

theorem optAt_of_gt {l : List Byte} {off : Nat} (h : 1 < octetAt l off) (w : Nat) : optAt l off w = none := by
  unfold optAt
  rw [if_neg (by omega), if_neg (by omega)]

theorem readAll_of_mem {α : Type} {f : List Byte → Option α} {x : List Byte} {l : List (List Byte)} (hx : x ∈ l)
    (h : f x = none) : readAll f l = none := by
  induction l with
  | nil => cases hx
  | cons y l ih =>
    rcases List.mem_cons.mp hx with rfl | hl
    · simp only [readAll, h]
    · simp only [readAll, ih hl]
      split
      · next hsome => cases hsome
      · rfl

theorem mem_pieces {n size k : Nat} (hk : k < n) (l : List Byte) : slice l (size * k) size ∈ pieces n size l := by
  induction n generalizing k l with
  | zero => omega
  | succ n ih =>
    cases k with
    | zero => simp [pieces, slice]
    | succ k =>
      refine List.mem_cons_of_mem _ ?_
      have hdrop : slice l (size * (k + 1)) size = slice (l.drop size) (size * k) size := by
        simp only [slice, List.drop_drop]
        congr 2
        rw [Nat.mul_succ, Nat.add_comm]
      rw [hdrop]
      exact ih (by omega) (l.drop size)

/-- A list of items of which one cannot be read cannot be read. -/
theorem readItems_of_bad {α : Type} {f : List Byte → Option α} {l : List Byte} {size k : Nat} (hk : k < fieldAt l 0 2)
    (h : f (slice l (2 + size * k) size) = none) : (itemsAt l 0 size).bind (readAll f) = none := by
  unfold itemsAt
  dsimp only
  split
  · rw [Option.bind_some]
    refine readAll_of_mem (mem_pieces hk _) ?_
    rw [show slice (l.drop (0 + 2)) (size * k) size = slice l (2 + size * k) size by
      simp only [slice, List.drop_drop, Nat.zero_add]]
    exact h
  · rfl

theorem octetAt_slice {l : List Byte} {off size i : Nat} (hi : i < size) : octetAt (slice l off size) i = octetAt l (off + i) :=
  congrArg beNat (slice_slice l hi)

theorem loadSources_refuses_flag : Refuses .loadSources 0x02 fun l =>
    ∃ k, k < fieldAt l 0 2 ∧ (1 < octetAt l (4 + 8 * k) ∨ 1 < octetAt l (9 + 8 * k)) := by
  refine refuses_of_unreadable (fun _ => rfl) ?_
  rintro l ⟨k, hk, hbad⟩
  refine readItems_of_bad hk ?_
  unfold readSourceItem
  rcases hbad with h | h
  · rw [flagAt_of_gt (off := 2) (by rw [octetAt_slice (by omega)]; convert h using 2; omega)]
  · rw [flagAt_of_gt (off := 7) (by rw [octetAt_slice (by omega)]; convert h using 2; omega)]
    split
    · next hnone => cases hnone
    · rfl

theorem loadTypeMap_refuses_mark : Refuses .loadTypeMap 0x03 fun l => ∃ k, k < fieldAt l 0 2 ∧ 1 < octetAt l (3 + 3 * k) := by
  refine refuses_of_unreadable (fun _ => rfl) ?_
  rintro l ⟨k, hk, h⟩
  refine readItems_of_bad hk ?_
  rw [readTypeItem, optAt_of_gt (off := 1) (by rw [octetAt_slice (by omega)]; convert h using 2; omega), Option.map_none]

theorem loadClasses_refuses_flag : Refuses .loadClasses 0x04 fun l => ∃ k, k < fieldAt l 0 2 ∧ 1 < octetAt l (9 + 8 * k) := by
  refine refuses_of_unreadable (fun _ => rfl) ?_
  rintro l ⟨k, hk, h⟩
  refine readItems_of_bad hk ?_
  rw [readClassItem, flagAt_of_gt (off := 7) (by rw [octetAt_slice (by omega)]; convert h using 2; omega), Option.map_none]

theorem waive_refuses_mark : Refuses .waive 0x11 fun l => 1 < octetAt l 4 :=
  refuses_of_unreadable (fun _ => rfl) fun l h => by
    rw [readWaive, optAt_of_gt h, Option.map_none, ite_self]

theorem flush_refuses_mark : Refuses .flush 0x12 fun l => 1 < octetAt l 0 ∨ 1 < octetAt l 2 ∨ 1 < octetAt l 5 :=
  refuses_of_unreadable (fun _ => rfl) fun l h => by
    unfold readFlush
    split
    · split
      · next hcls hday hwait =>
        rcases h with h | h | h
        · rw [optAt_of_gt h] at hcls; cases hcls
        · rw [optAt_of_gt h] at hday; cases hday
        · rw [flagAt_of_gt h] at hwait; cases hwait
      · rfl
    · rfl

theorem retrieve_refuses_mark : Refuses .retrieve 0x16 fun l => 1 < octetAt l 4 :=
  refuses_of_unreadable (fun _ => rfl) fun l h => by
    rw [readRetrieve, optAt_of_gt h, Option.map_none, ite_self]

theorem readLink_refuses_flag : Refuses .readLink 0x24 fun l => 1 < octetAt l 0 :=
  refuses_of_unreadable (fun _ => rfl) fun l h => by
    rw [readReadLink, flagAt_of_gt h, ite_self]

/-! ### When nothing is taken -/

theorem State.onDirective_of_blocked {s : State} (h : s.current ≠ none ∨ 16 ≤ s.port.replies.length + s.port.reserved.length
    ∨ s.port.directives = []) (p : Nat → Bool) (work : Directive → State → State) : s.onDirective p work = s := by
  have hfree : s.decoderFree = true → s.current = none ∧ s.port.replies.length + s.port.reserved.length < 16 := by
    intro hf
    obtain ⟨hcurrent, hplace⟩ := Bool.and_eq_true_iff.mp hf
    have hplace : 0 < 16 - (s.port.replies.length + s.port.reserved.length) := of_decide_eq_true hplace
    exact ⟨Option.isNone_iff_eq_none.mp hcurrent, by omega⟩
  unfold State.onDirective
  split
  · rfl
  · next d ds hd =>
    refine if_neg fun ⟨hf, _⟩ => ?_
    obtain ⟨hcurrent, hplace⟩ := hfree hf
    rcases h with h | h | h
    · exact h hcurrent
    · omega
    · rw [hd] at h; cases h

/-- The directives whose payload has one length, with their codes. -/
def fixedLengths : List (Nat × Nat × Instr) :=
  [(0x01, 6, .setClock), (0x06, 18, .loadTarget), (0x07, 2, .setTarget), (0x08, 12, .setDayPolicy), (0x09, 14, .setSweep),
    (0x0A, 4, .setNotices), (0x0B, 6, .setGuard), (0x0C, 14, .addHold), (0x0D, 4, .dropHold), (0x0E, 2, .setProtectMode),
    (0x0F, 0, .startArchive), (0x10, 2, .closeDay), (0x11, 6, .waive), (0x12, 6, .flush), (0x13, 0, .sweepNow),
    (0x14, 0, .scrubNow), (0x15, 4, .verify), (0x16, 7, .retrieve), (0x17, 0, .retryCommits), (0x18, 4, .clearSuspect),
    (0x19, 0, .engineReset), (0x1A, 0, .intakeReset), (0x1B, 0, .readClock), (0x1C, 0, .readStatus), (0x1D, 4, .readEvents),
    (0x1E, 0, .readGapSummary), (0x1F, 4, .readSegment), (0x20, 2, .readDay), (0x21, 4, .readContinuity),
    (0x22, 1, .readTarget), (0x23, 0, .readHolds), (0x24, 1, .readLink)]

theorem refuses_fixedLengths : ∀ x ∈ fixedLengths, Refuses x.2.2 x.1 fun l => l.length ≠ x.2.1 := by
  simp only [fixedLengths, List.forall_mem_cons]
  exact ⟨setClock_refuses_length, loadTarget_refuses_length, setTarget_refuses_length, setDayPolicy_refuses_length,
    setSweep_refuses_length, setNotices_refuses_length, setGuard_refuses_length, addHold_refuses_length,
    dropHold_refuses_length, setProtectMode_refuses_length, startArchive_refuses_length,
    closeDay_refuses_length, waive_refuses_length, flush_refuses_length, sweepNow_refuses_length,
    scrubNow_refuses_length, verify_refuses_length, retrieve_refuses_length, retryCommits_refuses_length,
    clearSuspect_refuses_length, engineReset_refuses_length, intakeReset_refuses_length,
    readClock_refuses_length, readStatus_refuses_length, readEvents_refuses_length,
    readGapSummary_refuses_length, readSegment_refuses_length, readDay_refuses_length,
    readContinuity_refuses_length, readTarget_refuses_length, readHolds_refuses_length, readLink_refuses_length, fun _ h => nomatch h⟩

/-- The directives of the catalogue, and DIRECTIVE_UNKNOWN. -/
def directiveCommands : List Instr :=
  [.directiveUnknown, .setClock, .loadSources, .loadTypeMap, .loadClasses, .loadDictionary, .loadTarget, .setTarget,
    .setDayPolicy, .setSweep, .setNotices, .setGuard, .addHold, .dropHold, .setProtectMode, .startArchive, .closeDay, .waive,
    .flush, .sweepNow, .scrubNow, .verify, .retrieve, .retryCommits, .clearSuspect, .engineReset, .intakeReset, .readClock,
    .readStatus, .readEvents, .readGapSummary, .readSegment, .readDay, .readContinuity, .readTarget, .readHolds, .readLink]

theorem next_directive_of_blocked {α : Type} {s : State} (h : s.current ≠ none
    ∨ 16 ≤ s.port.replies.length + s.port.reserved.length ∨ s.port.directives = []) (code : Nat)
    (read : List Byte → Option α) (work : Tag → α → State → State) :
    (.next (s.directive code read work) : Host.Outcome State Fault Refusal) = .next s :=
  congrArg _ (State.onDirective_of_blocked h _ _)

/-- A directive's command takes nothing while the decoder cannot. -/
theorem exec_of_blocked {s : State} (h : s.current ≠ none ∨ 16 ≤ s.port.replies.length + s.port.reserved.length
    ∨ s.port.directives = []) : ∀ c ∈ directiveCommands, exec c s = .next s := by
  simp only [directiveCommands, List.forall_mem_cons]
  exact ⟨congrArg Host.Outcome.next (State.onDirective_of_blocked h _ _),
    next_directive_of_blocked h _ _ _, next_directive_of_blocked h _ _ _, next_directive_of_blocked h _ _ _,
    next_directive_of_blocked h _ _ _, next_directive_of_blocked h _ _ _, next_directive_of_blocked h _ _ _,
    next_directive_of_blocked h _ _ _, next_directive_of_blocked h _ _ _, next_directive_of_blocked h _ _ _,
    next_directive_of_blocked h _ _ _, next_directive_of_blocked h _ _ _, next_directive_of_blocked h _ _ _,
    next_directive_of_blocked h _ _ _, next_directive_of_blocked h _ _ _, next_directive_of_blocked h _ _ _,
    next_directive_of_blocked h _ _ _, next_directive_of_blocked h _ _ _, next_directive_of_blocked h _ _ _,
    next_directive_of_blocked h _ _ _, next_directive_of_blocked h _ _ _, next_directive_of_blocked h _ _ _,
    next_directive_of_blocked h _ _ _, next_directive_of_blocked h _ _ _, next_directive_of_blocked h _ _ _,
    next_directive_of_blocked h _ _ _, next_directive_of_blocked h _ _ _, next_directive_of_blocked h _ _ _,
    next_directive_of_blocked h _ _ _, next_directive_of_blocked h _ _ _, next_directive_of_blocked h _ _ _,
    next_directive_of_blocked h _ _ _, next_directive_of_blocked h _ _ _, next_directive_of_blocked h _ _ _,
    next_directive_of_blocked h _ _ _, next_directive_of_blocked h _ _ _, next_directive_of_blocked h _ _ _,
    fun _ h => nomatch h⟩

/-- Settles O54: each reader refuses, or the decoder waits. -/
theorem decoderRefusals : Obligations.DecoderRefusals := by
  refine ⟨fun s code tag payload rest h => ⟨fun hcode => ?_, fun h0 h36 => ?_, ?_, ?_, ?_, ?_, ?_, ?_, ?_, ?_, ?_, ?_, ?_, ?_,
    fun c n i hmem hc hlen => ?_, fun c i bad hmem hc hbad => ?_⟩, fun s hblocked c hc => ?_⟩
  · have hp : (fun c => decide (c = 0) || decide (0x24 < c)) code = true := by simpa using hcode
    refine congrArg Host.Outcome.next ((State.onDirective_of_takes h _ hp _).trans ?_)
    rw [← State.takeDirective_none h]
    simp only [State.onCounters, State.onPort, up_eq]
    rfl
  · have hp : (fun c => decide (c = 0) || decide (0x24 < c)) code = false := by simp [h0, h36]
    refine congrArg Host.Outcome.next (?_ : directiveUnknown s = s)
    unfold directiveUnknown State.onDirective
    simp [h.2.2, h0, h36]
  · rintro rfl hlen; exact setClock_refuses_length s tag payload rest h hlen
  · rintro rfl hlen; exact loadSources_refuses_length s tag payload rest h hlen
  · rintro rfl hlen; exact loadDictionary_refuses_length s tag payload rest h hlen
  · rintro rfl hlen; exact loadTarget_refuses_length s tag payload rest h hlen
  · rintro rfl hlen; exact setGuard_refuses_length s tag payload rest h hlen
  · rintro rfl hlen; exact addHold_refuses_length s tag payload rest h hlen
  · rintro rfl hlen; exact startArchive_refuses_length s tag payload rest h (by simpa using hlen)
  · rintro rfl hlen; exact verify_refuses_length s tag payload rest h hlen
  · rintro rfl hlen; exact engineReset_refuses_length s tag payload rest h (by simpa using hlen)
  · rintro rfl hlen; exact readStatus_refuses_length s tag payload rest h (by simpa using hlen)
  · rintro rfl hlen; exact loadTypeMap_refuses_length s tag payload rest h hlen
  · rintro rfl hlen; exact loadClasses_refuses_length s tag payload rest h hlen
  · exact refuses_fixedLengths (c, n, i) hmem s tag payload rest (hc ▸ h) hlen
  · subst hc
    simp only [List.mem_cons, Prod.mk.injEq, List.not_mem_nil, or_false] at hmem
    rcases hmem with ⟨rfl, rfl, rfl⟩ | ⟨rfl, rfl, rfl⟩ | ⟨rfl, rfl, rfl⟩ | ⟨rfl, rfl, rfl⟩ | ⟨rfl, rfl, rfl⟩
      | ⟨rfl, rfl, rfl⟩ | ⟨rfl, rfl, rfl⟩
    · exact loadSources_refuses_flag s tag payload rest h hbad
    · exact loadTypeMap_refuses_mark s tag payload rest h hbad
    · exact loadClasses_refuses_flag s tag payload rest h hbad
    · exact waive_refuses_mark s tag payload rest h hbad
    · exact flush_refuses_mark s tag payload rest h hbad
    · exact retrieve_refuses_mark s tag payload rest h hbad
    · exact readLink_refuses_flag s tag payload rest h hbad
  · exact exec_of_blocked hblocked c hc

end Sys2Proof.Machine
end

section
/-! The archive clock's second (R170) and the passes of the Expiry Engine (R111 to R116, R154). -/

namespace Sys2Proof.Machine

/-! ### Lapse and the archive minute -/

theorem Expiry.minute_eq (x : Expiry) :
    x.minute = { x with count := if x.mode = .off then 0 else min (x.count + 1) x.interval } := by
  unfold Expiry.minute
  split <;> rfl

theorem HoldStore.lapsing_eq (h : HoldStore) (day : Nat) : h.lapsing day
    = (h.lapseFailed.filter fun i => h.holds.all fun x => x.id ≠ i)
      ++ (h.holds.filter fun x => x.kind = .irrevocable && x.release.any fun r => r < day).map Hold.id := by
  unfold HoldStore.lapsing HoldStore.hasId
  congr 2
  funext i
  rw [List.not_any_eq_all_not]
  simp

theorem HoldStore.beginLapse_idle {h : HoldStore} (hu : h.unit = none) :
    h.beginLapse = { h with unit := h.lapsePending.head?.map HoldOp.lapse, lapsePending := h.lapsePending.tail } := by
  obtain ⟨holds, guard, mode, level, line, nv, unit, pending, failed⟩ := h
  cases (show unit = none from hu)
  cases pending <;> rfl

theorem HoldStore.beginLapse_busy {h : HoldStore} (hu : h.unit ≠ none) : h.beginLapse = h := by
  unfold HoldStore.beginLapse
  cases hc : h.unit with
  | none => exact absurd hc hu
  | some op => rfl

theorem HoldStore.lapse_eq (h : HoldStore) (day : Nat) : h.lapse day = h.lapsedOn day := by
  unfold HoldStore.lapse HoldStore.lapsedOn
  rw [HoldStore.lapsing_eq]
  dsimp only
  generalize (h.lapseFailed.filter _ ++ _ : List Nat) = ids
  split
  · rfl
  have hfailed : (fun i => !ids.contains i) = fun i => decide (i ∉ ids) := by
    funext i
    simp
  rw [hfailed]
  split
  next hu => exact HoldStore.beginLapse_idle hu
  next hu => exact HoldStore.beginLapse_busy hu

theorem HoldStore.beginLapse_keeps (h : HoldStore) :
    h.beginLapse = { h with unit := h.beginLapse.unit, lapsePending := h.beginLapse.lapsePending } := by
  unfold HoldStore.beginLapse
  split <;> rfl

theorem HoldStore.lapse_holds (h : HoldStore) (day : Nat) : (h.lapse day).holds
    = h.holds.filter fun x => !(x.kind = .irrevocable && x.release.any fun r => r < day) := by
  unfold HoldStore.lapse
  dsimp only
  split
  next hids =>
    have hnone : h.holds.filter (Hold.lapses day) = [] := by
      have := (List.append_eq_nil_iff.mp hids).2
      exact List.map_eq_nil_iff.mp this
    symm
    rw [List.filter_eq_self]
    intro x hx
    exact (Bool.not_eq_true' _).mpr (Bool.eq_false_iff.mpr (List.filter_eq_nil_iff.mp hnone x hx))
  · rw [HoldStore.beginLapse_keeps]
    rfl

theorem HoldStore.lapse_keeps (h : HoldStore) (day : Nat) : h.lapse day
    = { h with holds := (h.lapse day).holds, unit := (h.lapse day).unit, lapsePending := (h.lapse day).lapsePending,
               lapseFailed := (h.lapse day).lapseFailed } := by
  unfold HoldStore.lapse
  dsimp only
  split
  · rfl
  · rw [HoldStore.beginLapse_keeps]

/-! ### The second -/

section
variable {s : State}

theorem clockSecond_notSet (h : s.clock.mode = .notSet) : clockSecond s = s := by
  unfold clockSecond
  rw [h]

theorem clockSecond_holding (h : s.clock.mode = .holding) : clockSecond s = s.onClock Clock.countDown := by
  unfold clockSecond
  rw [h]

theorem clockSecond_running {t : Time} (h : s.clock.mode = .running) (hr : s.clock.reading = some t) :
    clockSecond s = if lastReading t then s else s.advanceTo (nextReading t) := by
  unfold clockSecond
  rw [h, hr]

/-- R170: within a day the reading moves on one second, and a full minute is counted. -/
theorem State.advanceTo_withinDay (s : State) (d sec : Nat) : s.advanceTo { day := d, second := sec + 1 }
    = { s with
        clock := { s.clock with reading := some { day := d, second := sec + 1 } }
        expiry := if (sec + 1) % 60 = 0 then s.expiry.minute else s.expiry } := by
  unfold State.advanceTo
  dsimp only
  rw [if_neg (Nat.succ_ne_zero sec)]
  split <;> rfl

theorem State.advanceTo_rollover (s : State) (d : Nat) : s.advanceTo { day := d, second := 0 }
    = { s with
        clock := { s.clock with reading := some { day := d, second := 0 } }
        expiry := s.expiry.minute
        hold := s.hold.lapse d } := rfl

end

/-- Settles O20. -/
theorem secondOfTheArchiveClock : Obligations.SecondOfTheArchiveClock := by
  unfold Obligations.SecondOfTheArchiveClock
  intro s
  refine ⟨fun h => ⟨congrArg _ (clockSecond_notSet h), ?_⟩, fun h => congrArg _ (clockSecond_holding h), fun h hr => ?_,
    fun h => ?_, fun h hr => ?_, fun d sec h hr hsec => ?_, fun d h hr hd => ?_⟩
  · exact congrArg _ (if_neg fun hc => by simp [h] at hc)
  · exact congrArg _ (if_pos ⟨h, hr⟩)
  · exact congrArg _ (if_neg fun hc => by simp [h] at hc)
  · exact congrArg _ ((clockSecond_running h hr).trans (if_pos rfl))
  · have hlast : ¬ lastReading { day := d, second := sec } = true := by simp [lastReading]; omega
    have hnext : nextReading { day := d, second := sec } = { day := d, second := sec + 1 } := by
      unfold nextReading
      rw [if_neg hlast, if_neg (by simp; omega)]
    refine congrArg _ ((clockSecond_running h hr).trans ((if_neg hlast).trans ?_))
    rw [hnext, State.advanceTo_withinDay, Expiry.minute_eq]
  · have hlast : ¬ lastReading { day := d, second := 86399 } = true := by simp [lastReading, hd]
    have hnext : nextReading { day := d, second := 86399 } = { day := d + 1, second := 0 } := by
      unfold nextReading
      rw [if_neg hlast, if_pos rfl]
    have hstep : exec .clockSecond s = .next (s.advanceTo { day := d + 1, second := 0 }) :=
      congrArg _ ((clockSecond_running h hr).trans ((if_neg hlast).trans (by rw [hnext])))
    rw [State.advanceTo_rollover] at hstep
    refine ⟨_, hstep, rfl, rfl, Expiry.minute_eq _, HoldStore.lapse_eq _ _, HoldStore.lapse_holds _ _, ?_⟩
    dsimp only
    rw [HoldStore.lapse_keeps]
    exact ⟨rfl, rfl, rfl, rfl, rfl⟩

/-! ### The order of a scrub pass (R154) -/

theorem mem_insertCandidate {e x : SegEntry} {l : List SegEntry} : x ∈ insertCandidate e l ↔ x = e ∨ x ∈ l := by
  induction l with
  | nil => simp [insertCandidate]
  | cons y t ih =>
    unfold insertCandidate
    split
    · simp
    · simp only [List.mem_cons, ih]
      exact or_left_comm

/-- Chosen in an order: the keys do not fall. -/
def inScrubOrder (l : List SegEntry) : Prop := l.Pairwise fun a b => scrubKey a ≤ scrubKey b

theorem inScrubOrder_insertCandidate (e : SegEntry) {l : List SegEntry} (h : inScrubOrder l) :
    inScrubOrder (insertCandidate e l) := by
  induction l with
  | nil => exact List.pairwise_singleton _ _
  | cons y t ih =>
    obtain ⟨hy, ht⟩ := List.pairwise_cons.mp h
    unfold insertCandidate
    split
    next hlt =>
      refine List.pairwise_cons.mpr ⟨fun x hx => ?_, h⟩
      rcases List.mem_cons.mp hx with rfl | hx
      · exact hlt.le
      · exact hlt.le.trans (hy x hx)
    next hge =>
      refine List.pairwise_cons.mpr ⟨fun x hx => ?_, ih ht⟩
      rcases mem_insertCandidate.mp hx with rfl | hx
      · exact Nat.le_of_not_lt hge
      · exact hy x hx

theorem scrubKey_eq_iff {e x : SegEntry} : scrubKey e = scrubKey x ↔ e.lastVerified = x.lastVerified := by
  unfold scrubKey
  cases e.lastVerified <;> cases x.lastVerified <;> simp

theorem scrubKey_le_iff {e x : SegEntry} : scrubKey e ≤ scrubKey x
    ↔ e.lastVerified = none ∨ ∃ c d, e.lastVerified = some c ∧ x.lastVerified = some d ∧ c ≤ d := by
  unfold scrubKey
  cases e.lastVerified <;> cases x.lastVerified <;> simp

/-- The insertion is stable: among those last verified on one day a candidate stands behind those chosen before. -/
theorem filter_insertCandidate (k : Option Nat) (e : SegEntry) {l : List SegEntry} (h : inScrubOrder l) :
    (insertCandidate e l).filter (fun x => x.lastVerified = k)
      = l.filter (fun x => x.lastVerified = k) ++ [e].filter fun x => x.lastVerified = k := by
  induction l with
  | nil => rfl
  | cons y t ih =>
    obtain ⟨hy, ht⟩ := List.pairwise_cons.mp h
    unfold insertCandidate
    split
    next hlt =>
      by_cases hk : e.lastVerified = k
      · have hnone : (y :: t).filter (fun x => x.lastVerified = k) = [] := by
          refine List.filter_eq_nil_iff.mpr fun x hx hxk => ?_
          have heq : scrubKey e = scrubKey x := scrubKey_eq_iff.mpr (by rw [hk]; exact (of_decide_eq_true hxk).symm)
          rcases List.mem_cons.mp hx with rfl | hx
          · omega
          · have := hy x hx
            omega
        rw [List.filter_cons, if_pos (by simpa using hk), hnone]
        simp [hk]
      · simp [List.filter_cons, hk]
    next =>
      rw [List.filter_cons, ih ht, List.filter_cons (xs := t)]
      split <;> rfl

theorem scrubSort_spec (cs : List SegEntry) {l : List SegEntry} (h : inScrubOrder l) :
    inScrubOrder (cs.foldl (fun l e => insertCandidate e l) l)
    ∧ ∀ k, (cs.foldl (fun l e => insertCandidate e l) l).filter (fun x => x.lastVerified = k)
        = (l ++ cs).filter fun x => x.lastVerified = k := by
  induction cs generalizing l with
  | nil => exact ⟨h, fun k => by rw [List.append_nil]; rfl⟩
  | cons e cs ih =>
    obtain ⟨horder, hfilter⟩ := ih (inScrubOrder_insertCandidate e h)
    refine ⟨horder, fun k => ?_⟩
    rw [List.foldl_cons, hfilter, List.filter_append, filter_insertCandidate k e h, List.filter_append, List.append_assoc,
      ← List.filter_append]
    rfl

theorem State.scrubCandidate_eq (s : State) : s.scrubCandidate = fun e => (e.state = .stored && e.pins = 0
    && e.suspect = false && e.place.any fun p => (s.target p.1).state = .online || (s.target p.1).state = .degraded) := by
  funext e
  unfold State.scrubCandidate Target.usable
  cases e.suspect <;> rfl

theorem take_min_length {α : Type} (n : Nat) (l : List α) : l.take (min n l.length) = l.take n := by
  rcases Nat.le_total n l.length with h | h
  · rw [Nat.min_eq_left h]
  · rw [Nat.min_eq_right h, List.take_length, List.take_of_length_le h]

theorem State.scrubsChosen (s : State) :
    s.ScrubsChosen (s.scrubOrder.take (s.scrubNumber s.expiry.scrubBatch)) := by
  obtain ⟨horder, hfilter⟩ := scrubSort_spec (s.dir.filter s.scrubCandidate) (l := []) List.Pairwise.nil
  refine ⟨s.scrubOrder, fun k => ?_, horder.imp scrubKey_le_iff.mp, ?_⟩
  · rw [← State.scrubCandidate_eq]
    exact hfilter k
  · unfold State.scrubNumber
    rw [← take_min_length (min s.expiry.scrubBatch _), ← Nat.min_assoc, ← Nat.min_assoc]
    rfl

/-- R154: a request and a pin for every id queued. -/
theorem State.queueRequests_eq (ids : List Nat) (s : State) :
    ids.foldl (fun s id => s.queueRequest { kind := .verify, segId := id, origin := none, filter := none }) s
      = { s with
          audit := { s.audit with requests := s.audit.requests ++ ids.map fun id =>
            { kind := .verify, segId := id, origin := none, filter := none } }
          dir := s.dir.map fun e => { e with pins := e.pins + ids.count e.id } } := by
  induction ids generalizing s with
  | nil =>
    simp only [List.foldl_nil, List.map_nil, List.append_nil, List.count_nil, Nat.add_zero, List.map_id']
  | cons id ids ih =>
    rw [List.foldl_cons, ih]
    have hpins : (s.queueRequest { kind := .verify, segId := id, origin := none, filter := none }).dir.map
        (fun e => { e with pins := e.pins + ids.count e.id })
          = s.dir.map fun e => { e with pins := e.pins + (id :: ids).count e.id } := by
      unfold State.queueRequest State.pin State.onEntry updateEntry
      simp only [State.onDir, State.onAudit, List.map_map]
      refine List.map_congr_left fun e _ => ?_
      simp only [Function.comp_apply, List.count_cons]
      by_cases he : e.id = id
      · simp [he]; omega
      · simp [he, Ne.symm he]
    rw [hpins]
    simp only [State.queueRequest, State.pin, State.onEntry, State.onDir, State.onAudit, List.map_cons, List.append_assoc,
      List.singleton_append]

/-! ### Passes -/

theorem State.endPass_eq (s : State) (p : Pass) (stop : StopCause) (v : Option TargetNo) :
    s.endPass p (some stop) v 0 = s.passEnded p stop v := rfl

theorem State.startScrub_scrubbedTo (s : State) (origin : PassOrigin) : s.ScrubbedTo origin (s.startScrub origin) := by
  have hcount : ((s.scrubOrder.take (s.scrubNumber s.expiry.scrubBatch)).map SegEntry.id).length
      = s.scrubNumber s.expiry.scrubBatch := by
    rw [List.length_map, List.length_take]
    exact Nat.min_eq_left ((Nat.min_le_right _ _).trans (Nat.min_le_right _ _))
  refine ⟨_, s.scrubsChosen, ?_⟩
  dsimp only
  rw [hcount]
  unfold State.startScrub State.queueScrubs
  rw [State.queueRequests_eq]
  rfl

theorem State.startSweep_entry {s : State} {e : SegEntry} (h : s.firstEntry = some e) (origin : PassOrigin) :
    s.startSweep origin = { s with expiry := { s.expiry with
      pass := some { kind := .sweep, origin := origin, startId := e.id, wrapped := false, batch := s.expiry.batch,
                     oldest := oldestDay s.dir, skipped := false, counts := {} } } } := by
  unfold State.startSweep
  rw [h]
  rfl

theorem State.startSweep_empty {s : State} (h : s.dir = []) (origin : PassOrigin) :
    s.startSweep origin = s.passEnded
      { kind := .sweep, origin := origin, startId := s.expiry.cursor, wrapped := false, batch := s.expiry.batch,
        oldest := none, skipped := false, counts := {} } .empty none := by
  unfold State.startSweep State.firstEntry State.atCursor
  rw [h]
  rfl

theorem Expiry.due_iff (x : Expiry) : x.due = true ↔ x.mode ≠ .off ∧ x.interval ≤ x.count := by
  simp [Expiry.due]

theorem Expiry.alternateKind_eq (x : Expiry) : x.alternateKind = { x with
    nextKind := if x.mode = .cyclic ∧ x.alternate = true then
      (if x.nextKind = .sweep then .scrub else .sweep) else x.nextKind } := by
  unfold Expiry.alternateKind
  split
  · cases x.nextKind <;> rfl
  · rfl

theorem Expiry.matchKind_sweep {x : Expiry} (h : ¬ (x.mode = .cyclic ∧ x.alternate = true ∧ x.nextKind = .scrub)) :
    x.matchKind = .sweep := by
  unfold Expiry.matchKind
  split
  next hc =>
    cases hk : x.nextKind with
    | sweep => rfl
    | scrub => exact absurd ⟨hc.1, hc.2, hk⟩ h
  · rfl

section
variable {s : State}

theorem sweepTimerMatch_notDue (h : s.expiry.mode = .off ∨ s.expiry.count < s.expiry.interval) : sweepTimerMatch s = s :=
  if_pos fun hd => by
    obtain ⟨hmode, hcount⟩ := (Expiry.due_iff _).mp hd
    rcases h with h | h
    · exact hmode h
    · omega

theorem sweepTimerMatch_due (hm : s.expiry.mode ≠ .off) (hc : s.expiry.interval ≤ s.expiry.count) : sweepTimerMatch s
    = if s.engine ≠ .running then s.onExpiry Expiry.afterMatch
      else if s.expiry.pass.isSome then s.onExpiry fun x => x.skip.afterMatch
      else (s.onExpiry fun x => x.alternateKind.afterMatch).startPass s.expiry.matchKind .timer :=
  if_neg fun h => h ((Expiry.due_iff _).mpr ⟨hm, hc⟩)

theorem sweepTimerMatch_starts (hm : s.expiry.mode ≠ .off) (hc : s.expiry.interval ≤ s.expiry.count)
    (he : s.engine = .running) (hp : s.expiry.pass = none) : sweepTimerMatch s
    = (s.onExpiry fun x => x.alternateKind.afterMatch).startPass s.expiry.matchKind .timer := by
  rw [sweepTimerMatch_due hm hc, if_neg (fun h => h he), if_neg (by rw [hp]; exact Bool.false_ne_true)]

end

/-- Settles O24. -/
theorem sweepTimerMatch_holds : Obligations.SweepTimerMatch := by
  unfold Obligations.SweepTimerMatch
  intro s
  refine ⟨fun h => congrArg _ (sweepTimerMatch_notDue h), fun hm hc => ⟨fun he => ?_, fun p he hp => ?_,
    fun e he hp hkind hfirst => ?_, fun he hp hd hkind => ?_, fun he hp hcyc halt hkind => ?_⟩⟩
  · exact congrArg _ ((sweepTimerMatch_due hm hc).trans (if_pos he))
  · refine congrArg _ ((sweepTimerMatch_due hm hc).trans ?_)
    rw [if_neg (fun h => h he), if_pos (by rw [hp]; rfl)]
    simp only [State.onExpiry, Expiry.skip, Expiry.afterMatch, hp, Option.map_some]
  · refine congrArg _ ((sweepTimerMatch_starts hm hc he hp).trans ?_)
    rw [Expiry.matchKind_sweep hkind]
    refine (State.startSweep_entry (e := e) ?_ _).trans ?_
    · rw [show (s.onExpiry fun x => x.alternateKind.afterMatch).firstEntry
        = ((s.dir.find? fun y => s.expiry.alternateKind.afterMatch.cursor ≤ y.id).or s.dir.head?) from rfl,
        Expiry.alternateKind_eq]
      exact hfirst
    · simp only [State.onExpiry, Expiry.alternateKind_eq, Expiry.afterMatch]
  · refine congrArg _ ((sweepTimerMatch_starts hm hc he hp).trans ?_)
    rw [Expiry.matchKind_sweep hkind]
    refine (State.startSweep_empty (by exact hd) _).trans ?_
    simp only [State.onExpiry, Expiry.alternateKind_eq, Expiry.afterMatch]
  · have hk : s.expiry.matchKind = .scrub := (if_pos ⟨hcyc, halt⟩).trans hkind
    refine ⟨_, congrArg Host.Outcome.next (sweepTimerMatch_starts hm hc he hp), ?_⟩
    rw [hk]
    have hnext : (s.onExpiry fun x => x.alternateKind.afterMatch) = { s with expiry := { s.expiry with
        count := 0, mode := if s.expiry.mode = .single then .off else s.expiry.mode, nextKind := .sweep } } := by
      simp only [State.onExpiry, Expiry.alternateKind_eq, Expiry.afterMatch]
      simp [hcyc, halt, hkind]
    rw [hnext]
    exact State.startScrub_scrubbedTo _ _

/-! ### Passes on demand (R115) -/

section
variable {s : State} {code : Nat} {tag : Tag} {payload : List Byte} {rest : List Directive}

theorem State.passNow_refused (h : s.Takes code tag payload rest) (he : s.engine ≠ .running) (kind : PassKind) :
    ((s.takeDirective { code := code, tag := tag, payload := payload }).passNow tag kind).setCurrent none
      = s.turnedDown rest tag .refusedState := by
  rw [← State.refuse_of_takes h]
  exact congrArg (fun u : State => u.setCurrent none) (if_pos (by exact he))

theorem State.passNow_busy (h : s.Takes code tag payload rest) (he : s.engine = .running) (hp : s.expiry.pass ≠ none)
    (kind : PassKind) :
    ((s.takeDirective { code := code, tag := tag, payload := payload }).passNow tag kind).setCurrent none
      = s.turnedDown rest tag .busy := by
  rw [← State.refuse_of_takes h]
  exact congrArg (fun u : State => u.setCurrent none)
    ((if_neg (by exact fun hn => hn he)).trans (if_pos (by exact Option.isSome_iff_ne_none.mpr hp)))

theorem State.setCurrent_startPass (s : State) (c : Option Directive) (kind : PassKind) (origin : PassOrigin) :
    (s.setCurrent c).startPass kind origin = (s.startPass kind origin).setCurrent c := by
  cases kind with
  | sweep =>
    show (s.setCurrent c).startSweep origin = (s.startSweep origin).setCurrent c
    unfold State.startSweep
    rw [show (s.setCurrent c).firstEntry = s.firstEntry from rfl]
    cases s.firstEntry <;> rfl
  | scrub =>
    show (s.setCurrent c).startScrub origin = (s.startScrub origin).setCurrent c
    unfold State.startScrub State.queueScrubs
    rw [State.queueRequests_eq, State.queueRequests_eq]
    rfl

theorem State.passNow_starts (h : s.Takes code tag payload rest) (he : s.engine = .running) (hp : s.expiry.pass = none)
    (kind : PassKind) :
    ((s.takeDirective { code := code, tag := tag, payload := payload }).passNow tag kind).setCurrent none
      = ((s.took rest).startPass kind .directive).replied tag .done false [] := by
  have hstart : (s.takeDirective { code := code, tag := tag, payload := payload }).passNow tag kind
      = ((s.takeDirective { code := code, tag := tag, payload := payload }).startPass kind .directive).answer tag .done [] :=
    (if_neg fun hn => hn he).trans (if_neg (by
      rw [show (s.takeDirective _).expiry.pass = none from hp]; exact Bool.false_ne_true))
  rw [hstart, ← State.takeDirective_none h, State.setCurrent_startPass]
  rfl

end

/-- Settles O25. -/
theorem passesOnDemand : Obligations.PassesOnDemand := by
  unfold Obligations.PassesOnDemand
  intro s tag rest
  refine ⟨fun h => ?_, fun h => ?_⟩
  · have hexec : exec .sweepNow s = .next _ := congrArg Host.Outcome.next (State.directive_of_takes h readNothing_nil _)
    refine ⟨fun he => ?_, fun he hp => ?_, fun e he hp hfirst => ?_, fun he hp hd => ?_⟩
    · exact hexec.trans (congrArg _ (State.passNow_refused h he .sweep))
    · exact hexec.trans (congrArg _ (State.passNow_busy h he hp .sweep))
    · refine hexec.trans (congrArg _ ((State.passNow_starts h he hp .sweep).trans ?_))
      exact congrArg (fun u : State => u.replied tag .done false []) (State.startSweep_entry (s := s.took rest) hfirst _)
    · refine hexec.trans (congrArg _ ((State.passNow_starts h he hp .sweep).trans ?_))
      exact congrArg (fun u : State => u.replied tag .done false []) (State.startSweep_empty (s := s.took rest) hd _)
  · have hexec : exec .scrubNow s = .next _ := congrArg Host.Outcome.next (State.directive_of_takes h readNothing_nil _)
    refine ⟨fun he => ?_, fun he hp => ?_, fun he hp => ⟨_, ?_, State.startScrub_scrubbedTo _ _⟩⟩
    · exact hexec.trans (congrArg _ (State.passNow_refused h he .scrub))
    · exact hexec.trans (congrArg _ (State.passNow_busy h he hp .scrub))
    · exact hexec.trans (congrArg _ (State.passNow_starts h he hp .scrub))

end Sys2Proof.Machine
end

section
/-! Seals of several segments, and the close of a day (R37, R70). -/

namespace Sys2Proof.Machine

/-! ### What several seals leave -/

theorem State.sealAll_cons (s : State) (reason : SealReason) (i : Nat) (ids : List Nat) :
    s.sealAll reason (i :: ids) = (s.sealSegment reason i).sealAll reason ids := rfl

theorem State.Sealing.sealAll (s : State) (reason) (ids) : s.Sealing (s.sealAll reason ids) :=
  foldl (fun s id => sealSegment s reason id) ids s

/-- Seals change Directory, segment buffers, open-segment index and Commit Queue. -/
theorem State.sealAll_rest (s : State) (reason) (ids) : s.sealAll reason ids = { s with
    builder := (s.sealAll reason ids).builder, dir := (s.sealAll reason ids).dir, commit := (s.sealAll reason ids).commit } := by
  unfold State.sealAll
  induction ids generalizing s with
  | nil => rfl
  | cons i ids ih => exact ih (s.sealSegment reason i)

theorem State.sealAll_commit (s : State) (reason) (ids) : (s.sealAll reason ids).commit
    = { s.commit with queue := s.commit.queue ++ ids.map fun id => { segId := id, strandedBefore := false } } := by
  induction ids generalizing s with
  | nil =>
    rw [List.map_nil, List.append_nil]
    rfl
  | cons i ids ih =>
    rw [State.sealAll_cons, ih, List.map_cons, ← List.singleton_append, ← List.append_assoc]
    rfl

theorem State.sealAll_builder (s : State) (reason) (ids) : (s.sealAll reason ids).builder
    = { s.builder with
        buffers := (s.sealAll reason ids).builder.buffers
        openIndex := s.builder.openIndex.filter fun x => x.segId ∉ ids } := by
  induction ids generalizing s with
  | nil =>
    rw [List.filter_eq_self.mpr fun x _ => by simp]
    rfl
  | cons i ids ih =>
    rw [State.sealAll_cons, ih]
    have hindex : (s.sealSegment reason i).builder.openIndex = s.builder.openIndex.filter fun x => x.segId ≠ i := rfl
    rw [hindex, List.filter_filter]
    refine congrArg (fun x => ({ s.builder with
      buffers := ((s.sealSegment reason i).sealAll reason ids).builder.buffers, openIndex := x } : Builder)) ?_
    exact List.filter_congr fun x _ => by simp [Bool.and_comm]

/-- An entry after seals comes from one before: sealed with the reason, or as it was. -/
theorem State.mem_sealAll_dir {s : State} {reason : SealReason} {ids : List Nat} {e' : SegEntry}
    (h : e' ∈ (s.sealAll reason ids).dir) : ∃ e ∈ s.dir, e'.id = e.id ∧ e'.day = e.day ∧ e'.cls = e.cls
      ∧ (e.id ∈ ids → (e'.state = .held ∨ e'.state = .sealed) ∧ e'.sealReason = some reason) ∧ (e.id ∉ ids → e' = e) := by
  induction ids generalizing s with
  | nil => exact ⟨e', h, rfl, rfl, rfl, fun hn => absurd hn List.not_mem_nil, fun _ => rfl⟩
  | cons i ids ih =>
    obtain ⟨e₁, h₁, hid, hday, hcls, hin, hout⟩ := ih (s := s.sealSegment reason i) h
    rw [(s.sealSegment_sealedTo reason i :)] at h₁
    obtain ⟨e, he, rfl⟩ := List.mem_map.mp h₁
    by_cases hi : e.id = i
    · simp only [if_pos hi] at hid hday hcls hin hout
      refine ⟨e, he, hid, hday, hcls, fun _ => ?_, fun hn => absurd (hi ▸ List.mem_cons_self) hn⟩
      by_cases hmem : e.id ∈ ids
      · exact hin hmem
      · rw [hout hmem]
        refine ⟨?_, rfl⟩
        simp only [SegEntry.sealedBy]
        split
        · exact .inl rfl
        · exact .inr rfl
    · simp only [if_neg hi] at hid hday hcls hin hout
      refine ⟨e, he, hid, hday, hcls, fun hmem => hin ?_, fun hmem => hout fun hc => hmem (List.mem_cons_of_mem _ hc)⟩
      exact (List.mem_cons.mp hmem).resolve_left hi

theorem State.entry?_sealSegment {s : State} {reason : SealReason} {i id : Nat} (h : id ≠ i) :
    (s.sealSegment reason i).entry? id = s.entry? id := by
  rw [(s.sealSegment_sealedTo reason i :)]
  show (s.dir.map _).find? _ = s.dir.find? _
  rw [find?_map_of_keeps (fun e => by split <;> rfl)]
  cases hfind : s.dir.find? (fun e => e.id = id) with
  | none => rfl
  | some e =>
    have hid : e.id = id := by simpa using List.find?_some hfind
    exact congrArg some (if_neg fun hi => h (hid.symm.trans hi))

theorem State.buffer?_sealSegment {s : State} {reason : SealReason} {i id : Nat} (h : id ≠ i) :
    (s.sealSegment reason i).buffer? id = s.buffer? id := by
  rw [(s.sealSegment_sealedTo reason i :)]
  show (s.builder.buffers.map _).find? _ = s.builder.buffers.find? _
  rw [find?_map_of_keeps (fun e => by split <;> rfl)]
  cases hfind : s.builder.buffers.find? (fun e => e.segId = id) with
  | none => rfl
  | some e =>
    have hid : e.segId = id := by simpa using List.find?_some hfind
    exact congrArg some (if_neg fun hi => h (hid.symm.trans hi))

/-- Seals leave the other entries and buffers alone. -/
theorem State.sealAll_others {s : State} {reason : SealReason} {ids : List Nat} {id : Nat} (h : id ∉ ids) :
    (s.sealAll reason ids).entry? id = s.entry? id ∧ (s.sealAll reason ids).buffer? id = s.buffer? id := by
  induction ids generalizing s with
  | nil => exact ⟨rfl, rfl⟩
  | cons i ids ih =>
    obtain ⟨hi, hids⟩ := not_or.mp (mt List.mem_cons.mpr h)
    obtain ⟨hentry, hbuffer⟩ := ih (s := s.sealSegment reason i) hids
    rw [State.sealAll_cons]
    exact ⟨hentry.trans (State.entry?_sealSegment hi), hbuffer.trans (State.buffer?_sealSegment hi)⟩

/-- After the seals of the OPEN segments of a kind none of it is OPEN. -/
theorem State.sealAll_noneOpen {s : State} {reason : SealReason} {p : SegEntry → Bool} :
    ∀ e ∈ (s.sealAll reason (s.openSegments p)).dir, p e = true → e.state ≠ .opened := by
  intro e' he' hpe' hopen
  obtain ⟨e, he, -, -, -, hin, hout⟩ := State.mem_sealAll_dir he'
  by_cases hmem : e.id ∈ s.openSegments p
  · rcases (hin hmem).1 with h | h <;> rw [hopen] at h <;> cases h
  · rw [hout hmem] at hopen hpe'
    refine hmem (List.mem_map_of_mem (List.mem_filter.mpr ⟨he, ?_⟩))
    simp [hopen, hpe']

/-! ### The close of a day -/

theorem State.raiseAll_eq (s : State) (es : List AuditEvent) : s.raiseAll es = es.foldl State.recorded s := by
  unfold State.raiseAll
  congr
  funext u e
  exact u.raise_eq e

theorem State.onTracker_foldl_recorded (s : State) (g : Tracker → Tracker) (es : List AuditEvent) :
    (es.foldl State.recorded s).onTracker g = es.foldl State.recorded (s.onTracker g) := by
  induction es generalizing s with
  | nil => rfl
  | cons e es ih => exact ih (s.recorded e)

theorem State.gapEvents_eq (s : State) (day : Nat) : s.gapEvents day = s.openedGaps day := by
  unfold State.gapEvents State.openedGaps State.recordsOf
  rw [← List.flatMap_def]
  refine List.flatMap_congr fun r hr => ?_
  have hday : r.day = day := by simpa using (List.mem_filter.mp hr).2
  rfl

/-- R37 step 3: the record as the close of its day leaves it. -/
def ContRecord.shutFor (day : Nat) (r : ContRecord) : ContRecord :=
  if r.day = day then
    { r with state := .reconciling
             slots := r.slots.map fun x => if x.state = .missing then { x with gapOpen := true } else x } else r

/-- The state with a day's entry CLOSED and its records RECONCILING. -/
def State.shutDay (s : State) (day : Nat) : State :=
  ({ s with tracker := { s.tracker with records := s.tracker.records.map (ContRecord.shutFor day) } } : State).withDay day
    fun d => { d with state := .closed }

/-- R37 steps 2 to 5: the books after a day's close. -/
def State.dayShut (s : State) (day : Nat) : State := ((s.openedGaps day).foldl State.recorded (s.shutDay day)).tested day

/-- R37: a day's close is the seal of its OPEN segments, and the books. -/
theorem State.closeDay_eq (s : State) (day : Nat) : s.closeDay day
    = (s.sealAll .dayClosed ((s.dir.filter fun e => e.state = .opened && e.day = day).map SegEntry.id)).withBooks
        (s.dayShut day) := by
  have hseal := (State.Sealing.sealAll s .dayClosed
    ((s.dir.filter fun e => e.state = .opened && e.day = day).map SegEntry.id)).withBooks
  have hids : s.openSegments (·.day = day) = (s.dir.filter fun e => e.state = .opened && e.day = day).map SegEntry.id := rfl
  unfold State.closeDay State.closeDaySteps
  rw [hids]
  generalize s.sealAll .dayClosed _ = u at hseal ⊢
  rw [hseal]
  dsimp only
  rw [show (u.withBooks s).onDay day (fun d => { d with state := .closed })
      = u.withBooks (s.withDay day fun d => { d with state := .closed }) from rfl,
    State.gapEvents_eq, State.raiseAll_eq]
  have hgaps : (u.withBooks (s.withDay day fun d => { d with state := .closed })).openedGaps day = s.openedGaps day := rfl
  rw [hgaps]
  unfold State.onRecordsOf
  rw [State.onTracker_foldl_recorded, State.withBooks_onTracker, State.withBooks_onTracker, State.withBooks_foldl_recorded,
    State.testRetirement_eq, State.testSettlement_eq, State.withBooks_retiredIn, State.withBooks_settledIn]
  have hshut : ((s.withDay day fun d => { d with state := .closed }).onTracker fun k => { k with
      records := k.records.map fun r => if r.day = day then r.openGaps else r }).onTracker (fun k => { k with
      records := k.records.map fun r => if r.day = day then { r with state := .reconciling } else r }) = s.shutDay day := by
    unfold State.shutDay State.withDay State.onTracker
    simp only [List.map_map]
    congr 3
    funext r
    unfold ContRecord.shutFor ContRecord.openGaps
    by_cases h : r.day = day <;> simp [h]
  rw [hshut]
  rfl

section
variable (s : State) (day : Nat)

theorem State.mem_retiredIn_records {r : ContRecord} (h : r ∈ (s.retiredIn day).tracker.records) :
    r ∈ s.tracker.records := by
  unfold State.retiredIn at h
  split at h
  · exact List.mem_of_mem_filter h
  · exact h

theorem State.settledIn_records : (s.settledIn day).tracker.records = s.tracker.records := by
  unfold State.settledIn
  split <;> rfl

theorem State.foldl_recorded_tracker (es : List AuditEvent) : (es.foldl State.recorded s).tracker = s.tracker :=
  (congrArg State.tracker (s.raiseAll_eq es)).symm.trans (State.raiseAll_tracker s es)

theorem State.mem_tested_records {r : ContRecord} (h : r ∈ (s.tested day).tracker.records) : r ∈ s.tracker.records := by
  unfold State.tested at h
  rw [State.settledIn_records] at h
  exact State.mem_retiredIn_records s day h

theorem State.retiredIn_keeps : (s.retiredIn day).tracker.policy = s.tracker.policy
    ∧ (s.retiredIn day).tracker.sources = s.tracker.sources ∧ (s.retiredIn day).tracker.settled = s.tracker.settled
    ∧ (s.retiredIn day).clock = s.clock := by
  unfold State.retiredIn
  split <;> exact ⟨rfl, rfl, rfl, rfl⟩

theorem State.settledIn_keeps : (s.settledIn day).tracker.policy = s.tracker.policy
    ∧ (s.settledIn day).tracker.sources = s.tracker.sources ∧ (s.settledIn day).clock = s.clock := by
  unfold State.settledIn
  split <;> exact ⟨rfl, rfl, rfl⟩

theorem State.isSettled_settledIn {d : Nat} (hd : d ≠ day) : (s.settledIn day).isSettled d = s.isSettled d := by
  unfold State.settledIn
  split
  · show (s.tracker.settled ||| BitVec.twoPow 65536 day).getLsbD d = s.tracker.settled.getLsbD d
    simp [BitVec.getLsbD_or, BitVec.getLsbD_twoPow, hd.symm]
  · rfl

theorem State.tested_keeps : (s.tested day).tracker.policy = s.tracker.policy
    ∧ (s.tested day).tracker.sources = s.tracker.sources ∧ (s.tested day).clock = s.clock := by
  obtain ⟨hp, hs, -, hc⟩ := s.retiredIn_keeps day
  obtain ⟨hp', hs', hc'⟩ := (s.retiredIn day).settledIn_keeps day
  exact ⟨hp'.trans hp, hs'.trans hs, hc'.trans hc⟩

theorem State.isSettled_tested {d : Nat} (hd : d ≠ day) : (s.tested day).isSettled d = s.isSettled d :=
  (State.isSettled_settledIn _ day hd).trans (congrArg (·.getLsbD d) (s.retiredIn_keeps day).2.2.1)

end

theorem State.foldl_recorded_clock (s : State) (es : List AuditEvent) : (es.foldl State.recorded s).clock = s.clock := by
  induction es generalizing s with
  | nil => rfl
  | cons e es ih => exact ih (s.recorded e)

theorem State.dayShut_clock (s : State) (day : Nat) : (s.dayShut day).clock = s.clock :=
  (State.tested_keeps _ day).2.2.trans (State.foldl_recorded_clock _ _)

/-- The records of a day that is shut are RECONCILING, with every gap opened. -/
theorem State.mem_dayShut_records {s : State} {day : Nat} {r : ContRecord} (h : r ∈ (s.dayShut day).tracker.records)
    (hday : r.day = day) : r.state = .reconciling ∧ ∀ x ∈ r.slots, x.state = .missing → x.gapOpen = true := by
  have hmem := State.mem_tested_records _ day h
  rw [State.foldl_recorded_tracker] at hmem
  obtain ⟨r₀, -, rfl⟩ := List.mem_map.mp hmem
  unfold ContRecord.shutFor at hday ⊢
  split at hday
  next hr =>
    refine ⟨by rw [if_pos hr], fun x hx hm => ?_⟩
    rw [if_pos hr] at hx
    obtain ⟨x₀, -, rfl⟩ := List.mem_map.mp hx
    split at hm
    next h₀ => rw [if_pos h₀]
    next h₀ => exact absurd hm h₀
  next hr => exact absurd hday hr

/-- R37: what the close of a day leaves. -/
theorem State.closeDay_closedTo (s : State) (day : Nat) : s.DayClosedTo day (s.closeDay day) := by
  have hmem (e' : SegEntry) (he' : e' ∈ (s.closeDay day).dir) := by
    rw [State.closeDay_eq] at he'
    exact State.mem_sealAll_dir (s := s) he'
  have hbuilder := s.sealAll_builder .dayClosed ((s.dir.filter fun e => e.state = .opened && e.day = day).map SegEntry.id)
  have htracker : (s.closeDay day).tracker = (s.dayShut day).tracker := by rw [State.closeDay_eq]; rfl
  obtain ⟨hpolicy, hsources, -⟩ := State.tested_keeps ((s.openedGaps day).foldl State.recorded (s.shutDay day)) day
  have hraised := State.foldl_recorded_tracker (s.shutDay day) (s.openedGaps day)
  refine ⟨htracker, by rw [State.closeDay_eq]; rfl, by rw [State.closeDay_eq]; rfl,
    ⟨_, s.sealAll_allSealedTo .dayClosed _, by rw [State.closeDay_eq]; rfl, by rw [State.closeDay_eq]; rfl,
      by rw [State.closeDay_eq]; rfl⟩, ?_, fun e' he' hid => ?_, fun id hid => ?_, fun r hr hday => ?_, fun d hd => ?_, ?_, ?_,
    ?_, ?_, ?_⟩
  · have hnone := State.sealAll_noneOpen (s := s) (reason := .dayClosed) (p := fun e => e.day = day)
    rw [State.closeDay_eq]
    exact fun e he hday => hnone e he (decide_eq_true hday)
  · obtain ⟨e, he, hid', -, -, hin, -⟩ := hmem e' he'
    exact hin (hid' ▸ hid)
  · rw [State.closeDay_eq]
    exact State.sealAll_others (s := s) (reason := .dayClosed) hid
  · rw [htracker] at hr
    exact State.mem_dayShut_records hr hday
  · have := State.isSettled_tested ((s.openedGaps day).foldl State.recorded (s.shutDay day)) day hd
    unfold State.isSettled at this ⊢
    rw [htracker]
    exact this.trans (congrArg (fun k : Tracker => k.settled.getLsbD d) hraised :)
  · have hrest := s.sealAll_rest .dayClosed ((s.dir.filter fun e => e.state = .opened && e.day = day).map SegEntry.id)
    rw [State.closeDay_eq]
    generalize s.sealAll .dayClosed _ = u at hrest ⊢
    rw [hrest, State.withBooks, State.dayShut_clock]
  · rw [State.closeDay_eq]
    refine hbuilder.trans ?_
    exact congrArg (fun b : Builder => ({ s.builder with
      buffers := b.buffers, openIndex := b.openIndex } : Builder)) hbuilder.symm
  · rw [State.closeDay_eq]
    exact s.sealAll_commit .dayClosed _
  · exact (congrArg Tracker.policy htracker).trans
      (hpolicy.trans (congrArg Tracker.policy hraised :))
  · exact (congrArg Tracker.sources htracker).trans
      (hsources.trans (congrArg Tracker.sources hraised :))

end Sys2Proof.Machine
end

section
/-! The close of a day and SET CLOCK, by the commands that make them (R36 to R38, R171, R172). -/

namespace Sys2Proof.Machine

/-! ### The close of a day beside the directive in hand -/

theorem State.withBooks_dayShut (u s : State) (day : Nat) : (u.withBooks s).dayShut day = u.withBooks (s.dayShut day) := by
  unfold State.dayShut
  have hshut : (u.withBooks s).shutDay day = u.withBooks (s.shutDay day) := rfl
  have hgaps : (u.withBooks s).openedGaps day = s.openedGaps day := rfl
  rw [hshut, hgaps, State.withBooks_foldl_recorded, State.withBooks_tested]

theorem State.closeDay_tracker (s : State) (day : Nat) : (s.closeDay day).tracker = (s.dayShut day).tracker := by
  rw [State.closeDay_eq]
  rfl

theorem State.setCurrent_closeDay (s : State) (c : Option Directive) (day : Nat) :
    (s.setCurrent c).closeDay day = (s.closeDay day).setCurrent c := by
  rw [State.closeDay_eq, State.closeDay_eq, (Beside.setCurrent c).sealAll]
  have hbooks : (s.setCurrent c).dayShut day = (s.setCurrent c).withBooks (s.dayShut day) :=
    State.withBooks_dayShut (s.setCurrent c) s day
  rw [hbooks]
  rfl

theorem State.Ending.closeDay (s : State) (day : Nat) : s.Ending (s.closeDay day) := by
  unfold State.closeDay State.closeDaySteps
  refine .trans ?_ (testSettlement _ day)
  refine .trans ?_ (testRetirement _ day)
  refine .trans ?_ (onTracker _ _)
  refine .trans ?_ (foldl raise _ _)
  exact (of_sealing (State.Sealing.sealAll s _ _)).trans ((onTracker _ _).trans (onTracker _ _))

theorem closeDeadlineReached_running {s : State} {day : Nat} {now : Time} {d : DayEntry} (hm : s.clock.mode = .running)
    (hr : s.clock.reading = some now) (hd : s.day? day = some d) :
    closeDeadlineReached day s = if d.overdue now.minute then s.closeDay day else s := by
  unfold closeDeadlineReached
  rw [hm, hr, hd]

theorem closeDeadlineReached_closed {s : State} {day : Nat} {d : DayEntry} (hd : s.day? day = some d)
    (hst : d.state = .closed) : closeDeadlineReached day s = s := by
  unfold closeDeadlineReached
  rw [hd]
  split
  next hsome =>
    obtain rfl := Option.some.inj hsome
    exact if_neg (by simp [DayEntry.overdue, hst])
  next => rfl

section
variable {s : State} {tag : Tag} {payload : List Byte} {rest : List Directive} {day : Nat}

theorem closeDayDirective_of_takes (h : s.Takes 0x10 tag payload rest) (hread : readNumber 2 payload = some day) :
    closeDayDirective s = match s.day? day with
      | some d => if d.state = .opened then
          ((s.tookLong rest tag).closeDay day).completeWith tag .done ((s.took rest).closeDayFigures day)
        else s.turnedDown rest tag .refusedState
      | none => if s.isSettled day then s.turnedDown rest tag .refusedState else s.turnedDown rest tag .notFound := by
  unfold closeDayDirective
  rw [State.directive_of_takes h hread, show (s.takeDirective _).day? day = s.day? day from rfl]
  cases s.day? day with
  | none =>
    dsimp only
    rw [show (s.takeDirective _).isSettled day = s.isSettled day from rfl]
    split <;> exact State.refuse_of_takes h _
  | some d =>
    dsimp only
    split
    · have hlong : ((s.takeDirective { code := 0x10, tag := tag, payload := payload }).reserve tag).setCurrent none
          = s.tookLong rest tag := congrArg (·.reserve tag) (State.takeDirective_none h)
      have hfigures : (s.takeDirective { code := 0x10, tag := tag, payload := payload }).closeDayFigures day
          = (s.took rest).closeDayFigures day := by
        rw [← State.takeDirective_none h]
        unfold State.closeDayFigures
        rw [State.setCurrent_closeDay]
        rfl
      rw [← hlong, State.setCurrent_closeDay, ← hfigures]
      rfl
    · exact State.refuse_of_takes h _

/-- R38: the four figures. -/
theorem State.closeDayFigures_eq (s : State) (rest tag day) : (s.took rest).closeDayFigures day
    = be 4 (s.openedGaps day).length
      ++ be 4 ((s.tracker.records.filter (·.day = day)).length
        - (((s.tookLong rest tag).closeDay day).tracker.records.filter (·.day = day)).length)
      ++ be 4 (((s.tookLong rest tag).closeDay day).tracker.records.filter (·.day = day)).length
      ++ flagOctet (((s.tookLong rest tag).closeDay day).isSettled day) := by
  have htracker : ((s.tookLong rest tag).closeDay day).tracker = ((s.took rest).closeDay day).tracker := by
    rw [State.closeDay_tracker, State.closeDay_tracker]
    exact (congrArg State.tracker (State.withBooks_dayShut (s.tookLong rest tag) s day) :).trans
      (congrArg State.tracker (State.withBooks_dayShut (s.took rest) s day)).symm
  unfold State.isSettled
  rw [htracker]
  unfold State.closeDayFigures
  rw [State.gapEvents_eq]
  rfl

end

/-- Settles O22. -/
theorem dayCloses : Obligations.DayCloses := by
  unfold Obligations.DayCloses
  intro s day _
  refine ⟨fun now d hm hr hd hst => ⟨fun hdue => ?_, fun hdue => ?_⟩, fun d hd hst => ?_,
    fun tag payload rest h hread => ⟨fun d hd hst => ?_, fun d hd hst => ?_, fun hd => ?_⟩⟩
  · refine ⟨_, congrArg Host.Outcome.next ((closeDeadlineReached_running hm hr hd).trans (if_pos ?_)),
      s.closeDay_closedTo day⟩
    simp [DayEntry.overdue, hst, hdue]
  · refine congrArg Host.Outcome.next ((closeDeadlineReached_running hm hr hd).trans (if_neg ?_))
    simp [DayEntry.overdue, hdue]
  · exact congrArg Host.Outcome.next (closeDeadlineReached_closed hd hst)
  · refine ⟨_, (s.tookLong rest tag).closeDay_closedTo day, congrArg Host.Outcome.next ?_⟩
    rw [closeDayDirective_of_takes h hread, hd]
    dsimp only
    rw [if_pos hst, State.completeWith_eq, State.closeDayFigures_eq s rest tag day]
  · refine congrArg Host.Outcome.next ((closeDayDirective_of_takes h hread).trans ?_)
    rw [hd]
    exact if_neg (by rw [hst]; exact fun hc => nomatch hc)
  · refine congrArg Host.Outcome.next ((closeDayDirective_of_takes h hread).trans ?_)
    rw [hd]
    dsimp only
    split <;> rfl

/-! ### SET CLOCK -/

theorem State.setCurrent_expireLanes (s : State) (c : Option Directive) (ls : List LaneNo) :
    (s.setCurrent c).expireLanes ls = (s.expireLanes ls).setCurrent c := by
  unfold State.expireLanes
  induction ls generalizing s with
  | nil => rfl
  | cons l ls ih => rw [List.foldl_cons, List.foldl_cons, State.setCurrent_abortFile, ih]

theorem State.setCurrent_closeDays (s : State) (c : Option Directive) (ds : List Nat) :
    (s.setCurrent c).closeDays ds = (s.closeDays ds).setCurrent c := by
  unfold State.closeDays
  induction ds generalizing s with
  | nil => rfl
  | cons d ds ih => rw [List.foldl_cons, List.foldl_cons, State.setCurrent_closeDay, ih]

/-- R171 steps 1 and 2: the reading taken, the overdue files aborted. -/
def State.lanesExpired (s : State) (t : Time) : State := (s.setReading t).expireLanes ((s.setReading t).overdueLanes t)

/-- R171 steps 1 to 3: then the overdue days closed. -/
def State.daysExpired (s : State) (t : Time) : State := (s.lanesExpired t).closeDays ((s.lanesExpired t).overdueDays t)

/-- R171 steps 4 and 5: the lapse test and the archive minute. -/
def State.countedOn (old : Option Time) (t : Time) (b : State) : State :=
  let u := if laterDay old t then b.onHold (HoldStore.lapse t.day) else b
  if laterMinute old t then u.onExpiry Expiry.minute else u

theorem State.setForward_eq (s : State) (t : Time) : s.setForward t
    = (State.countedOn s.clock.reading t (s.daysExpired t), ((s.setReading t).overdueLanes t).length,
        ((s.lanesExpired t).overdueDays t).length) := rfl

theorem State.setCurrent_lanesExpired (s : State) (c t) :
    (s.setCurrent c).lanesExpired t = (s.lanesExpired t).setCurrent c := State.setCurrent_expireLanes (s.setReading t) c _

theorem State.setCurrent_daysExpired (s : State) (c t) :
    (s.setCurrent c).daysExpired t = (s.daysExpired t).setCurrent c := by
  unfold State.daysExpired
  rw [State.setCurrent_lanesExpired]
  exact State.setCurrent_closeDays _ c _

theorem State.countedOn_eq (old : Option Time) (t : Time) (b : State) : State.countedOn old t b = { b with
    hold := if laterDay old t then b.hold.lapse t.day else b.hold
    expiry := if laterMinute old t then b.expiry.minute else b.expiry } := by
  unfold State.countedOn
  cases laterDay old t <;> cases laterMinute old t <;> rfl

theorem State.setCurrent_setForward (s : State) (c t) : (s.setCurrent c).setForward t
    = ((s.setForward t).1.setCurrent c, (s.setForward t).2) := by
  rw [State.setForward_eq, State.setForward_eq, State.setCurrent_daysExpired, State.setCurrent_lanesExpired,
    State.countedOn_eq, State.countedOn_eq]
  rfl

theorem State.Ending.daysExpired (s : State) (t : Time) : (s.setReading t).Ending (s.daysExpired t) :=
  (foldl (fun s l => abortFile s l .stalled) _ _).trans (foldl closeDay _ _)

theorem State.clockTo_forward {s : State} {t : Time} (h : ∀ now, s.clock.reading = some now → now.seconds ≤ t.seconds)
    (tag : Tag) : s.clockTo tag t = (s.setForward t).1.answer tag .done
      (timeOctets (some t) ++ be 4 (s.setForward t).2.1 ++ be 4 (s.setForward t).2.2) := by
  unfold State.clockTo
  cases hr : s.clock.reading with
  | none => rfl
  | some now => exact if_pos (h now hr)

/-- R171: what a forward or first setting leaves. -/
theorem setClock_forward {s : State} {tag : Tag} {payload : List Byte} {rest : List Directive} {t : Time}
    (h : s.Takes 0x01 tag payload rest) (hread : readSetClock payload = some t) (hsec : t.second ≤ 86399)
    (hforward : ∀ now, s.clock.reading = some now → now.seconds ≤ t.seconds) :
    setClock s = ((s.took rest).setForward t).1.replied tag .done false
      (timeOctets (some t) ++ be 4 ((s.took rest).setForward t).2.1 ++ be 4 ((s.took rest).setForward t).2.2) := by
  unfold setClock
  rw [State.directive_of_takes h hread, if_neg (Nat.not_lt.mpr hsec), State.clockTo_forward (by exact hforward),
    ← State.takeDirective_none h, State.setCurrent_setForward]
  rfl

/-- Settles O21. -/
theorem setClockEffect : Obligations.SetClockEffect := by
  unfold Obligations.SetClockEffect
  intro s tag payload rest t h hread
  have hexec := State.directive_of_takes h hread fun tag t s =>
    if 86399 < t.second then s.refuse tag .refusedRange else s.clockTo tag t
  refine ⟨fun hsec => ?_, fun now hsec hr hback => ?_, fun hsec hforward => ?_⟩
  · refine congrArg Host.Outcome.next (hexec.trans ?_)
    rw [if_pos hsec]
    exact State.refuse_of_takes h _
  · refine congrArg Host.Outcome.next (hexec.trans ?_)
    rw [if_neg (Nat.not_lt.mpr hsec)]
    unfold State.clockTo
    rw [show (s.takeDirective { code := 0x01, tag := tag, payload := payload }).clock.reading = some now from hr]
    dsimp only
    rw [if_neg (Nat.not_le.mpr hback)]
    split
    · rw [← State.takeDirective_none h]
      rfl
    · exact State.refuse_of_takes h _
  · have hend := State.Ending.daysExpired (s.took rest) t
    have hhold : ((s.took rest).daysExpired t).hold = s.hold := by rw [hend.rest]; rfl
    have hexpiry : ((s.took rest).daysExpired t).expiry = s.expiry := by rw [hend.rest]; rfl
    have hlapsed : (State.countedOn s.clock.reading t ((s.took rest).daysExpired t)).hold
        = if laterDay s.clock.reading t then s.hold.lapse t.day else s.hold := by
      rw [State.countedOn_eq, hhold]
    refine ⟨(s.took rest).lanesExpired t, (s.took rest).daysExpired t, _, _, ?_, rfl, ?_, ?_, ?_, ?_, ?_, ?_, ?_,
      congrArg Host.Outcome.next (setClock_forward h hread hsec hforward)⟩
    · exact through_foldl (fun s l => State.abortFile_endsOn .stalled l s) _ _
    · exact through_foldl State.closeDay_closedTo _ _
    · rw [State.setForward_eq, State.countedOn_eq]
    · rw [State.setForward_eq, State.countedOn_eq, hexpiry, ← Expiry.minute_eq]
      rfl
    · rw [← HoldStore.lapse_eq]
      exact hlapsed
    · exact fun hday => hlapsed.trans (if_neg (by rw [show laterDay s.clock.reading t = false from hday]; exact Bool.false_ne_true))
    · exact fun hday => (congrArg HoldStore.holds (hlapsed.trans (if_pos hday))).trans (HoldStore.lapse_holds _ _)
    · show (State.countedOn s.clock.reading t ((s.took rest).daysExpired t)).hold = _
      rw [show ((s.took rest).setForward t).1.hold
        = (State.countedOn s.clock.reading t ((s.took rest).daysExpired t)).hold from rfl, hlapsed]
      split
      · exact HoldStore.lapse_keeps _ _
      · rfl

end Sys2Proof.Machine
end

section
/-! The loads of tables (R5, R6, R24, R59, R60) and the settings (R43, R114, R173). -/

namespace Sys2Proof.Machine

/-! ### Lists of table entries -/

theorem repeats_iff {α : Type} [BEq α] [LawfulBEq α] (l : List α) : repeats l = true ↔ ¬ l.Nodup := by
  induction l with
  | nil => simp [repeats]
  | cons x t ih =>
    rw [repeats, Bool.or_eq_true, ih, List.nodup_cons, List.contains_iff_mem]
    tauto

section
variable {ι α : Type} {n : Nat}

theorem vget_vmod (v : Vector α n) (i : Nat) (f : α → α) (j : Fin n) :
    vget (vmod v i f) j = if j.val = i then f (vget v j) else vget v j := by
  unfold vmod
  split
  next h =>
    rw [vget_vset]
    by_cases hj : j.val = i
    · rw [if_pos (Fin.ext hj), if_pos hj, show (⟨i, h⟩ : Fin n) = j from Fin.ext hj.symm]
    · rw [if_neg (fun he => hj (congrArg Fin.val he)), if_neg hj]
  next h => rw [if_neg fun (hj : j.val = i) => h (hj ▸ j.isLt)]

/-- The items of a list change the table entries they name. -/
def vmods (key : ι → Nat) (f : ι → α → α) (l : List ι) (v : Vector α n) : Vector α n :=
  l.foldl (fun v i => vmod v (key i) (f i)) v

theorem vget_vmods_unnamed {key : ι → Nat} {f : ι → α → α} {l : List ι} {j : Fin n} (h : ∀ i ∈ l, key i ≠ j.val)
    (v : Vector α n) : vget (vmods key f l v) j = vget v j := by
  unfold vmods
  induction l generalizing v with
  | nil => rfl
  | cons i l ih =>
    rw [List.foldl_cons, ih fun i hi => h i (List.mem_cons_of_mem _ hi), vget_vmod,
      if_neg (Ne.symm (h i List.mem_cons_self))]

theorem vget_vmods_named {key : ι → Nat} {f : ι → α → α} {l : List ι} (hl : (l.map key).Nodup) {i : ι} (hi : i ∈ l)
    {j : Fin n} (hj : j.val = key i) (v : Vector α n) : vget (vmods key f l v) j = f i (vget v j) := by
  induction l generalizing v with
  | nil => cases hi
  | cons x l ih =>
    obtain ⟨hx, hnodup⟩ := List.nodup_cons.mp hl
    rcases List.mem_cons.mp hi with rfl | hi
    · have hrest : ∀ y ∈ l, key y ≠ j.val := fun y hy he => hx (hj ▸ he ▸ List.mem_map_of_mem hy)
      exact (vget_vmods_unnamed hrest _).trans (by rw [vget_vmod, if_pos hj])
    · have hxj : j.val ≠ key x := fun he => hx ((he.symm.trans hj) ▸ List.mem_map_of_mem hi)
      exact (ih hnodup hi (vmod v (key x) (f x))).trans (by rw [vget_vmod, if_neg hxj])

end

/-! ### Accepted directives -/

theorem State.took_of_takes {s : State} {code : Nat} {tag : Tag} {payload : List Byte} {rest : List Directive}
    (h : s.Takes code tag payload rest) (r : Result) (c : Bool) (figs : List Byte) (g : State → State)
    (hg : ∀ u d, g (State.setCurrent u d) = (g u).setCurrent d) :
    ((g (s.takeDirective { code := code, tag := tag, payload := payload })).replied tag r c figs).setCurrent none
      = (g (s.took rest)).replied tag r c figs := by
  rw [← State.takeDirective_none h, hg]
  rfl

/-! ### LOAD SOURCES and LOAD TYPE MAP -/

theorem State.applySources_eq (s : State) (l : List SourceItem) : s.applySources l
    = s.onTracker fun k => { k with sources := vmods SourceItem.source SourceItem.apply l k.sources } := by
  unfold State.applySources vmods
  induction l generalizing s with
  | nil => rfl
  | cons i l ih => exact ih (s.onSource i.source i.apply)

theorem sourcesSound_iff (l : List SourceItem) : sourcesSound l = true ↔ l ≠ [] ∧ l.length ≤ 512
    ∧ (∀ i ∈ l, i.source ≤ 511 ∧ 1 ≤ i.filesPerDay ∧ i.filesPerDay ≤ 96) ∧ (l.map SourceItem.source).Nodup := by
  simp only [sourcesSound, Bool.and_eq_true, List.all_eq_true, decide_eq_true_eq, Bool.not_eq_true',
    ← Bool.not_eq_true (repeats _), repeats_iff, not_not, and_assoc]

theorem typeMapSound_iff (l : List (Nat × Option Nat)) : typeMapSound l = true
    ↔ (∀ i ∈ l, ∀ c, i.2 = some c → c ≤ 13) ∧ (l.map Prod.fst).Nodup := by
  simp only [typeMapSound, Bool.and_eq_true, List.all_eq_true, Option.all_eq_true, decide_eq_true_eq, Bool.not_eq_true',
    ← Bool.not_eq_true (repeats _), repeats_iff, not_not]

section
variable {s : State} {tag : Tag} {payload : List Byte} {rest : List Directive}

theorem loadSources_of_takes (h : s.Takes 0x02 tag payload rest) {l : List SourceItem}
    (hread : readLoadSources payload = some l) : loadSources s = if sourcesSound l then
      ({ s.took rest with tracker := { s.tracker with
        sources := vmods SourceItem.source SourceItem.apply l s.tracker.sources } } : State).replied tag .done false []
      else s.turnedDown rest tag .refusedRange := by
  unfold loadSources
  rw [State.directive_of_takes h hread]
  split
  · rw [State.applySources_eq, ← State.takeDirective_none h]
    rfl
  · exact State.refuse_of_takes h _

theorem loadTypeMap_of_takes (h : s.Takes 0x03 tag payload rest) {l : List (Nat × Option Nat)}
    (hread : readLoadTypeMap payload = some l) : loadTypeMap s = if typeMapSound l then
      ({ s.took rest with tables := { s.tables with
        typeMap := vmods Prod.fst (fun i _ => i.2.map (Fin.ofNat 16)) l s.tables.typeMap } } : State).replied tag .done false []
      else s.turnedDown rest tag .refusedRange := by
  unfold loadTypeMap
  rw [State.directive_of_takes h hread]
  split
  · rw [← State.takeDirective_none h]
    rfl
  · exact State.refuse_of_takes h _

end

/-! ### Seals beside a change of the tables -/

theorem Beside.onTables (g : Tables → Tables) : Beside (State.onTables · g) :=
  ⟨fun _ => rfl, fun _ => rfl, fun _ => rfl, fun _ => rfl, fun _ => rfl, fun _ _ => rfl, fun _ _ => rfl, fun _ _ => rfl,
    fun _ _ => rfl, fun _ _ _ _ => rfl⟩

/-- Once no segment of a class is OPEN, seals leave it so. -/
theorem State.sealAll_keepsNoneOpen {s : State} {p : SegEntry → Prop} (hp : ∀ e e' : SegEntry, e'.cls = e.cls → p e' → p e)
    (h : ∀ e ∈ s.dir, p e → e.state ≠ .opened) (reason ids) : ∀ e ∈ (s.sealAll reason ids).dir, p e → e.state ≠ .opened := by
  intro e' he' hpe' hopen
  obtain ⟨e, he, -, -, hcls, hin, hout⟩ := State.mem_sealAll_dir he'
  by_cases hmem : e.id ∈ ids
  · rcases (hin hmem).1 with hst | hst <;> rw [hopen] at hst <;> cases hst
  · exact h e he (hp e e' hcls hpe') (hout hmem ▸ hopen)

/-! ### LOAD CLASSES -/

theorem ClassItem.used_eq (i : ClassItem) : i.used = min i.retention 4095 := by
  simp [ClassItem.used, clamp, Nat.min_comm]

theorem classesSound_iff (l : List ClassItem) : classesSound l = true
    ↔ (∀ i ∈ l, i.cls ≤ 15 ∧ i.target ≤ 3 ∧ i.group ≤ 3) ∧ (l.map ClassItem.cls).Nodup := by
  simp only [classesSound, Bool.and_eq_true, List.all_eq_true, decide_eq_true_eq, Bool.not_eq_true',
    ← Bool.not_eq_true (repeats _), repeats_iff, not_not, and_assoc]

/-- R6: the OPEN segments of an item's class whose dictionary group changes, by the Class Table before the load. -/
def State.regrouped (classes : Vector ClassEntry 16) (x : State) (i : ClassItem) : List Nat :=
  (x.dir.filter fun e => e.state = .opened && e.cls.val = i.cls && (vget classes e.cls).group.val ≠ i.group).map SegEntry.id

/-- R6: they are sealed. -/
def State.sealRegrouped (classes : Vector ClassEntry 16) (x : State) (i : ClassItem) : State :=
  x.sealAll .dictionary (x.regrouped classes i)

theorem State.regrouped_eq {classes : Vector ClassEntry 16} (x : State) {i : ClassItem} (hcls : i.cls ≤ 15)
    (hgroup : i.group ≤ 3) : x.regrouped classes i
      = if (vget classes (Fin.ofNat 16 i.cls)).group = i.entry.group then []
        else x.openSegments (·.cls = Fin.ofNat 16 i.cls) := by
  have hgroups (e : SegEntry) (he : e.cls.val = i.cls) :
      (vget classes e.cls).group.val = i.group ↔ (vget classes (Fin.ofNat 16 i.cls)).group = i.entry.group := by
    rw [show e.cls = Fin.ofNat 16 i.cls from Fin.ext (by simp [he]; omega), Fin.ext_iff,
      show i.entry.group.val = i.group from Nat.mod_eq_of_lt (by omega)]
  have hclasses (e : SegEntry) : e.cls.val = i.cls ↔ e.cls = Fin.ofNat 16 i.cls := by
    rw [Fin.ext_iff, show (Fin.ofNat 16 i.cls).val = i.cls from Nat.mod_eq_of_lt (by omega)]
  unfold State.regrouped
  split
  next hsame =>
    rw [List.filter_eq_nil_iff.mpr]
    · rfl
    · intro e _ he
      simp only [Bool.and_eq_true, decide_eq_true_eq] at he
      exact he.2 ((hgroups e he.1.2).mpr hsame)
  next hother =>
    refine congrArg (List.map SegEntry.id) (List.filter_congr fun e _ => ?_)
    dsimp only
    by_cases he : e.cls.val = i.cls
    · rw [decide_eq_true he, decide_eq_true ((hclasses e).mp he), decide_eq_true (mt (hgroups e he).mp hother),
        Bool.and_true, Bool.and_true]
    · rw [decide_eq_false he, decide_eq_false (mt (hclasses e).mpr he), Bool.and_false, Bool.false_and]

/-- R5, R6: an item seals, then its entry is replaced. -/
theorem State.applyClass_eq {classes : Vector ClassEntry 16} {x : State} {i : ClassItem} (hcls : i.cls ≤ 15)
    (hgroup : i.group ≤ 3) (hx : vget x.tables.classes (Fin.ofNat 16 i.cls) = vget classes (Fin.ofNat 16 i.cls)) :
    x.applyClass i = (x.sealRegrouped classes i).onTables fun k => { k with
      classes := vmod k.classes i.cls fun _ => i.entry } := by
  have hset (v : Vector ClassEntry 16) : vset v (Fin.ofNat 16 i.cls) i.entry = vmod v i.cls fun _ => i.entry := by
    unfold vmod
    have hlt : i.cls < 16 := by omega
    rw [dif_pos hlt, show Fin.ofNat 16 i.cls = ⟨i.cls, hlt⟩ from Fin.ext (Nat.mod_eq_of_lt hlt)]
  unfold State.applyClass State.sealRegrouped
  dsimp only
  rw [State.regrouped_eq x hcls hgroup, hx]
  split
  · simp only [hset]
    rfl
  · simp only [hset]

theorem State.sealRegrouped_onTables (classes : Vector ClassEntry 16) (x : State) (g : Tables → Tables) (i : ClassItem) :
    (x.onTables g).sealRegrouped classes i = (x.sealRegrouped classes i).onTables g := (Beside.onTables g).sealAll x _ _

theorem State.foldl_sealRegrouped_onTables (classes : Vector ClassEntry 16) (l : List ClassItem) (x : State)
    (g : Tables → Tables) : l.foldl (State.sealRegrouped classes) (x.onTables g)
      = (l.foldl (State.sealRegrouped classes) x).onTables g := by
  induction l generalizing x with
  | nil => rfl
  | cons i l ih => rw [List.foldl_cons, List.foldl_cons, State.sealRegrouped_onTables, ih]

theorem State.sealRegrouped_tables (classes : Vector ClassEntry 16) (x : State) (i : ClassItem) :
    (x.sealRegrouped classes i).tables = x.tables := by
  rw [State.sealRegrouped, State.sealAll_rest]

/-- R5, R6: the seals of a whole list, and its entries. -/
theorem State.applyClasses_eq {classes : Vector ClassEntry 16} {l : List ClassItem}
    (hl : ∀ i ∈ l, i.cls ≤ 15 ∧ i.target ≤ 3 ∧ i.group ≤ 3) (hnodup : (l.map ClassItem.cls).Nodup) (x : State)
    (hx : ∀ i ∈ l, vget x.tables.classes (Fin.ofNat 16 i.cls) = vget classes (Fin.ofNat 16 i.cls)) :
    l.foldl State.applyClass x = (l.foldl (State.sealRegrouped classes) x).onTables fun k => { k with
      classes := vmods ClassItem.cls (fun i _ => i.entry) l k.classes } := by
  induction l generalizing x with
  | nil => rfl
  | cons i l ih =>
    obtain ⟨⟨hcls, -, hgroup⟩, hrest⟩ := List.forall_mem_cons.mp hl
    obtain ⟨hi, hnodup⟩ := List.nodup_cons.mp hnodup
    rw [List.foldl_cons, State.applyClass_eq hcls hgroup (hx i List.mem_cons_self), ih hrest hnodup,
      State.foldl_sealRegrouped_onTables]
    · rfl
    · intro j hj
      show vget (vmod (x.sealRegrouped classes i).tables.classes i.cls fun _ => i.entry) _ = _
      rw [State.sealRegrouped_tables, vget_vmod, if_neg]
      · exact hx j (List.mem_cons_of_mem _ hj)
      · intro he
        have hj15 := (hrest j hj).1
        have hval : (Fin.ofNat 16 j.cls).val = j.cls := Nat.mod_eq_of_lt (by omega)
        have hsame : j.cls = i.cls := hval.symm.trans he
        exact hi (hsame ▸ List.mem_map_of_mem hj)

/-- The seals of a list leave what is not sealed out of Directory, Builder and Commit Engine alone. -/
theorem State.foldl_sealRegrouped_rest (classes : Vector ClassEntry 16) (l : List ClassItem) (x : State) :
    l.foldl (State.sealRegrouped classes) x = { x with
      builder := (l.foldl (State.sealRegrouped classes) x).builder, dir := (l.foldl (State.sealRegrouped classes) x).dir
      commit := (l.foldl (State.sealRegrouped classes) x).commit } := by
  induction l generalizing x with
  | nil => rfl
  | cons i l ih =>
    have hseal := x.sealAll_rest .dictionary (x.regrouped classes i)
    rw [List.foldl_cons, ih]
    unfold State.sealRegrouped
    rw [hseal]

theorem State.foldl_sealRegrouped_noneOpen {classes : Vector ClassEntry 16} {l : List ClassItem}
    (hl : ∀ i ∈ l, i.cls ≤ 15 ∧ i.target ≤ 3 ∧ i.group ≤ 3) {i : ClassItem} (hi : i ∈ l) {n : ClassNo} (hn : n.val = i.cls)
    (hother : (vget classes n).group.val ≠ i.group) (x : State) :
    ∀ e ∈ (l.foldl (State.sealRegrouped classes) x).dir, e.cls = n → e.state ≠ .opened := by
  have hkeep (l : List ClassItem) (y : State) (hy : ∀ e ∈ y.dir, e.cls = n → e.state ≠ .opened) :
      ∀ e ∈ (l.foldl (State.sealRegrouped classes) y).dir, e.cls = n → e.state ≠ .opened := by
    induction l generalizing y with
    | nil => exact hy
    | cons j l ih =>
      exact ih _ (State.sealAll_keepsNoneOpen (p := fun e => e.cls = n) (fun e e' h he => h ▸ he) hy .dictionary _)
  induction l generalizing x with
  | nil => cases hi
  | cons j l ih =>
    rcases List.mem_cons.mp hi with rfl | hi
    · refine hkeep l _ fun e he hcls => ?_
      obtain ⟨hcls15, -, hgroup⟩ := hl i List.mem_cons_self
      have hfin : Fin.ofNat 16 i.cls = n := Fin.ext ((Nat.mod_eq_of_lt (by omega)).trans hn.symm)
      have hgroups : (vget classes (Fin.ofNat 16 i.cls)).group ≠ i.entry.group := fun h => hother (by
        rw [← hfin, h]
        exact Nat.mod_eq_of_lt (by omega))
      rw [State.sealRegrouped, State.regrouped_eq x hcls15 hgroup, if_neg hgroups, hfin] at he
      exact State.sealAll_noneOpen (p := fun e => e.cls = n) e he (decide_eq_true hcls)
    · exact ih (fun k hk => hl k (List.mem_cons_of_mem _ hk)) hi _

section
variable {s : State} {tag : Tag} {payload : List Byte} {rest : List Directive}

theorem State.setCurrent_foldl_sealRegrouped (classes : Vector ClassEntry 16) (l : List ClassItem) (c) (x : State) :
    l.foldl (State.sealRegrouped classes) (x.setCurrent c) = (l.foldl (State.sealRegrouped classes) x).setCurrent c := by
  induction l generalizing x with
  | nil => rfl
  | cons i l ih =>
    have hseal : (x.setCurrent c).sealRegrouped classes i = (x.sealRegrouped classes i).setCurrent c :=
      (Beside.setCurrent c).sealAll x _ _
    rw [List.foldl_cons, List.foldl_cons, hseal, ih]

theorem loadClasses_refused (h : s.Takes 0x04 tag payload rest) {l : List ClassItem}
    (hread : readLoadClasses payload = some l) (hl : ¬ classesSound l = true) :
    loadClasses s = s.turnedDown rest tag .refusedRange := by
  unfold loadClasses
  rw [State.directive_of_takes h hread, if_neg hl]
  exact State.refuse_of_takes h _

theorem loadClasses_accepted (h : s.Takes 0x04 tag payload rest) {l : List ClassItem}
    (hread : readLoadClasses payload = some l) (hl : ∀ i ∈ l, i.cls ≤ 15 ∧ i.target ≤ 3 ∧ i.group ≤ 3)
    (hnodup : (l.map ClassItem.cls).Nodup) :
    loadClasses s = ((l.foldl (State.sealRegrouped s.tables.classes) (s.took rest)).onTables fun k => { k with
        classes := vmods ClassItem.cls (fun i _ => i.entry) l k.classes }).replied tag .done
      (l.any fun i => i.used ≠ i.retention) (if (l.any fun i => i.used ≠ i.retention) then
        listOctets (l.map fun i => be 1 i.cls ++ be 4 i.used) else []) := by
  unfold loadClasses
  rw [State.directive_of_takes h hread, if_pos ((classesSound_iff l).mpr ⟨hl, hnodup⟩),
    State.applyClasses_eq (classes := s.tables.classes) hl hnodup (s.takeDirective _) fun _ _ => rfl, ← State.takeDirective_none h,
    State.setCurrent_foldl_sealRegrouped]
  rfl

end

/-! ### LOAD DICTIONARY -/

theorem dictionarySound_iff (d : DictLoad) : dictionarySound d = true ↔ d.group ≤ 3 ∧ d.prefixes.length ≤ 64
    ∧ (∀ p ∈ d.prefixes, 1 ≤ p.1 ∧ p.1 ≤ 12 ∧ ∀ x ∈ p.2, x ≤ 9) ∧ (d.prefixes.map Prod.snd).Nodup := by
  simp only [dictionarySound, Bool.and_eq_true, List.all_eq_true, decide_eq_true_eq, Bool.not_eq_true',
    ← Bool.not_eq_true (repeats _), repeats_iff, not_not, and_assoc]

section
variable {s : State} {tag : Tag} {payload : List Byte} {rest : List Directive}

theorem loadDictionary_of_takes (h : s.Takes 0x05 tag payload rest) {d : DictLoad} (hread : readLoadDictionary payload = some d)
    {g : Fin 4} (hg : g.val = d.group) : loadDictionary s = if dictionarySound d then
      (((s.took rest).sealAll .dictionary (s.groupSegments g)).onTables fun k => { k with
          dict := vset k.dict g ((vget k.dict g).load (d.prefixes.map Prod.snd)) }).replied tag .done false
        (be 1 (((vget s.tables.dict g).generation + 1) % 256) ++ be 4 (s.groupSegments g).length)
      else s.turnedDown rest tag .refusedRange := by
  have hfin : Fin.ofNat 4 d.group = g := Fin.ext ((Nat.mod_eq_of_lt (by omega)).trans hg.symm)
  unfold loadDictionary
  rw [State.directive_of_takes h hread]
  split
  · rw [hfin, ← State.takeDirective_none h, (Beside.setCurrent none).sealAll]
    rfl
  · exact State.refuse_of_takes h _

theorem loadDictionary_refused (h : s.Takes 0x05 tag payload rest) {d : DictLoad}
    (hread : readLoadDictionary payload = some d) (hd : ¬ dictionarySound d = true) :
    loadDictionary s = s.turnedDown rest tag .refusedRange := by
  unfold loadDictionary
  rw [State.directive_of_takes h hread, if_neg hd]
  exact State.refuse_of_takes h _

end

/-- Settles O45. -/
theorem tablesAreLoaded : Obligations.TablesAreLoaded := by
  unfold Obligations.TablesAreLoaded
  intro s tag payload rest
  refine ⟨fun l h hread => ⟨fun hl => ?_, fun hl => ?_⟩, fun l h hread => ⟨fun hl => ?_, fun hl => ?_⟩,
    fun l h hread => ⟨fun hl => ?_, fun hl => ?_⟩, fun d h hread => ⟨fun hd => ?_, fun g hd hg => ?_⟩⟩
  · exact congrArg Host.Outcome.next ((loadSources_of_takes h hread).trans (if_neg (mt (sourcesSound_iff l).mp hl)))
  · refine ⟨_, congrArg Host.Outcome.next ((loadSources_of_takes h hread).trans (if_pos ((sourcesSound_iff l).mpr hl))),
      fun i hi n hn => ?_, fun n hn => vget_vmods_unnamed hn _⟩
    exact vget_vmods_named hl.2.2.2 hi hn _
  · exact congrArg Host.Outcome.next ((loadTypeMap_of_takes h hread).trans (if_neg (mt (typeMapSound_iff l).mp hl)))
  · refine ⟨_, congrArg Host.Outcome.next ((loadTypeMap_of_takes h hread).trans (if_pos ((typeMapSound_iff l).mpr hl))),
      fun i hi n hn => ?_, fun n hn => vget_vmods_unnamed hn _⟩
    rw [vget_vmods_named hl.2 hi hn, Option.map_map]
    cases hc : i.2 with
    | none => rfl
    | some c =>
      have := hl.1 i hi c hc
      exact congrArg some (Nat.mod_eq_of_lt (by omega))
  · exact congrArg Host.Outcome.next (loadClasses_refused h hread (mt (classesSound_iff l).mp hl))
  · obtain ⟨hranges, hnodup⟩ := hl
    have hclamped : (l.any fun i => i.used ≠ i.retention) = l.any fun i => decide (4095 < i.retention) := by
      congr 1
      funext i
      rw [ClassItem.used_eq]
      exact decide_eq_decide.mpr (by omega)
    have hfigures : listOctets (l.map fun i => be 1 i.cls ++ be 4 i.used)
        = be 2 l.length ++ l.flatMap fun i => be 1 i.cls ++ be 4 (min i.retention 4095) := by
      simp only [listOctets, List.length_map, List.flatMap_def, ClassItem.used_eq]
    have hexec := loadClasses_accepted h hread hranges hnodup
    rw [hclamped, hfigures] at hexec
    have hrest := State.foldl_sealRegrouped_rest s.tables.classes l (s.took rest)
    refine ⟨_, congrArg Host.Outcome.next hexec, ?_, ?_, fun i hi n hn => ?_, ⟨_, through_foldl ?_ l (s.took rest), rfl, rfl, rfl⟩,
      fun n hn => ?_⟩
    · generalize l.foldl _ (s.took rest) = u at hrest ⊢
      rw [hrest]
      rfl
    · generalize l.foldl _ (s.took rest) = u at hrest ⊢
      rw [hrest]
      rfl
    · have hentry : vget ((l.foldl (State.sealRegrouped s.tables.classes) (s.took rest)).onTables fun k => { k with
          classes := vmods ClassItem.cls (fun i _ => i.entry) l k.classes }).tables.classes n = i.entry :=
        vget_vmods_named hnodup hi hn _
      obtain ⟨-, htarget, hgroup⟩ := hranges i hi
      rw [hentry]
      exact ⟨ClassItem.used_eq i, Nat.mod_eq_of_lt (by omega), Nat.mod_eq_of_lt (by omega), rfl,
        fun hother => State.foldl_sealRegrouped_noneOpen hranges hi hn hother _⟩
    · exact fun x i => x.sealAll_allSealedTo .dictionary _
    · exact (vget_vmods_unnamed hn _).trans (by rw [hrest]; rfl)
  · exact congrArg Host.Outcome.next (loadDictionary_refused h hread (mt (dictionarySound_iff d).mp hd))
  · have hseal := (s.took rest).sealAll_rest .dictionary (s.groupSegments g)
    have hcommit := (s.took rest).sealAll_commit .dictionary (s.groupSegments g)
    have hnone := State.sealAll_noneOpen (s := s.took rest) (reason := .dictionary)
      (p := fun e => (vget s.tables.classes e.cls).group = g)
    refine ⟨((s.took rest).sealAll .dictionary (s.groupSegments g)).onTables fun k => { k with
        dict := vset k.dict g ((vget k.dict g).load (d.prefixes.map Prod.snd)) },
      congrArg Host.Outcome.next (((loadDictionary_of_takes h hread hg).trans
      (if_pos ((dictionarySound_iff d).mpr hd))).trans ?_), ?_, ?_, ?_, ⟨_, (s.took rest).sealAll_allSealedTo .dictionary _, rfl,
        rfl, rfl⟩, ?_⟩
    · rw [show (s.groupSegments g).length
          = (s.dir.filter fun e => e.state = .opened && (vget s.tables.classes e.cls).group = g).length from
        List.length_map _]
    · generalize (s.took rest).sealAll .dictionary _ = u at hseal ⊢
      rw [hseal]
      rfl
    · generalize (s.took rest).sealAll .dictionary _ = u at hseal ⊢
      rw [hseal]
      rfl
    · exact fun e he hgroup => hnone e he (decide_eq_true hgroup)
    · refine hcommit.trans ?_
      rw [State.groupSegments, State.openSegments, List.map_map]
      rfl

end Sys2Proof.Machine
end

section
/-! The settings (R43, R114, R173), START ARCHIVE (R175), FLUSH (R72), CLEAR SUSPECT (R153) and WAIVE (R39). -/

namespace Sys2Proof.Machine

/-! ### Reading the settings -/

theorem flagAt_eq (l : List Byte) (off : Nat) :
    flagAt l off = if 1 < octetAt l off then none else some (decide (octetAt l off = 1)) := by
  unfold flagAt
  split
  next h => simp [h]
  split
  next h => simp [h]
  next h0 h1 => exact (if_pos (by omega)).symm

theorem sweepModeOf_eq (n : Nat) : sweepModeOf n = if n ≠ 1 ∧ n ≠ 2 ∧ n ≠ 3 then none
    else some (if n = 1 then .off else if n = 2 then .single else .cyclic) := by
  unfold sweepModeOf
  split
  · rfl
  · rfl
  · rfl
  next h1 h2 h3 => exact (if_pos ⟨h1, h2, h3⟩).symm

theorem noticeModeOf_eq (n : Nat) : noticeModeOf n = if n ≠ 1 ∧ n ≠ 2 ∧ n ≠ 3 then none
    else some (if n = 1 then .fixed else if n = 2 then .promote else .silent) := by
  unfold noticeModeOf
  split
  · rfl
  · rfl
  · rfl
  next h1 h2 h3 => exact (if_pos ⟨h1, h2, h3⟩).symm

theorem readSetSweep_eq {l : List Byte} (h : l.length = 14) : readSetSweep l
    = if (octetAt l 0 ≠ 1 ∧ octetAt l 0 ≠ 2 ∧ octetAt l 0 ≠ 3) ∨ 1 < octetAt l 1 then none else some
        { mode := if octetAt l 0 = 1 then .off else if octetAt l 0 = 2 then .single else .cyclic
          alternate := decide (octetAt l 1 = 1), interval := fieldAt l 2 4, batch := fieldAt l 6 4
          scrubBatch := fieldAt l 10 4 } := by
  unfold readSetSweep
  rw [if_pos h, sweepModeOf_eq, flagAt_eq]
  by_cases hbad : (octetAt l 0 ≠ 1 ∧ octetAt l 0 ≠ 2 ∧ octetAt l 0 ≠ 3) ∨ 1 < octetAt l 1
  · rw [if_pos hbad]
    rcases hbad with hmode | hflag
    · rw [if_pos hmode]
    · rw [if_pos hflag]
      split
      next hnone => cases hnone
      next => rfl
  · obtain ⟨hmode, hflag⟩ := not_or.mp hbad
    rw [if_neg hbad, if_neg hmode, if_neg hflag]

theorem readSetNotices_eq {l : List Byte} (h : l.length = 4) : readSetNotices l
    = if 1 < octetAt l 1 ∨ (octetAt l 2 ≠ 1 ∧ octetAt l 2 ≠ 2 ∧ octetAt l 2 ≠ 3) ∨ 7 < octetAt l 3 then none else some
        { enables := octetAt l 0, master := decide (octetAt l 1 = 1)
          mode := if octetAt l 2 = 1 then .fixed else if octetAt l 2 = 2 then .promote else .silent
          promoted := Fin.ofNat 8 (octetAt l 3) } := by
  unfold readSetNotices
  rw [if_pos h, noticeModeOf_eq, flagAt_eq]
  by_cases hbad : 1 < octetAt l 1 ∨ (octetAt l 2 ≠ 1 ∧ octetAt l 2 ≠ 2 ∧ octetAt l 2 ≠ 3) ∨ 7 < octetAt l 3
  · rw [if_pos hbad]
    rcases hbad with hflag | hmode | hsource
    · rw [if_pos hflag]
    · rw [if_pos hmode]
      split
      next hnone => cases hnone
      next => rfl
    · split
      · exact dif_neg (by omega)
      · rfl
  · obtain ⟨hflag, hrest⟩ := not_or.mp hbad
    obtain ⟨hmode, hsource⟩ := not_or.mp hrest
    have hlt : octetAt l 3 < 8 := by omega
    rw [if_neg hbad, if_neg hflag, if_neg hmode]
    dsimp only
    rw [dif_pos hlt, show Fin.ofNat 8 (octetAt l 3) = ⟨octetAt l 3, hlt⟩ from Fin.ext (Nat.mod_eq_of_lt hlt)]

/-! ### The settings taken -/

theorem Policy.clamped_ne (p : Policy) : decide (p.clamped ≠ p)
    = (min 2880 p.closeDelay ≠ p.closeDelay || max 1 (min 400 p.acceptWindow) ≠ p.acceptWindow
      || max 1 (min 3600 p.laneTimeout) ≠ p.laneTimeout) := by
  obtain ⟨close, window, lane⟩ := p
  simp only [Policy.clamped, clamp, Nat.zero_max, ne_eq, Policy.mk.injEq]
  by_cases h1 : min 2880 close = close <;> by_cases h2 : max 1 (min 400 window) = window <;> simp [h1, h2]

theorem SweepSettings.clamped_ne (p : SweepSettings) : decide (p.clamped ≠ p)
    = (max 1 (min 1440 p.interval) ≠ p.interval || max 1 (min 65535 p.batch) ≠ p.batch
      || max 1 (min 6 p.scrubBatch) ≠ p.scrubBatch) := by
  obtain ⟨mode, alternate, interval, batch, scrub⟩ := p
  simp only [SweepSettings.clamped, clamp, ne_eq, SweepSettings.mk.injEq, true_and]
  by_cases h1 : max 1 (min 1440 interval) = interval <;> by_cases h2 : max 1 (min 65535 batch) = batch <;> simp [h1, h2]

section
variable {s : State} {tag : Tag} {payload : List Byte} {rest : List Directive}

theorem State.answerClamped_of_takes {code : Nat} (h : s.Takes code tag payload rest) (g : State → State)
    (hg : ∀ u d, g (State.setCurrent u d) = (g u).setCurrent d) (clamped : Bool) (values : List Byte) :
    ((g (s.takeDirective { code := code, tag := tag, payload := payload })).answerClamped tag clamped values).setCurrent none
      = (g (s.took rest)).replied tag .done clamped (if clamped then values else []) :=
  State.took_of_takes h .done clamped _ g hg

theorem setDayPolicy_of_takes (h : s.Takes 0x08 tag payload rest) {p : Policy} (hread : readSetDayPolicy payload = some p) :
    setDayPolicy s = ((s.took rest).onTracker fun k => { k with policy := p.clamped }).replied tag .done (p.clamped ≠ p)
      (if (decide (p.clamped ≠ p)) then
        be 4 p.clamped.closeDelay ++ be 4 p.clamped.acceptWindow ++ be 4 p.clamped.laneTimeout else []) := by
  unfold setDayPolicy
  rw [State.directive_of_takes h hread]
  exact State.answerClamped_of_takes h (fun u => u.onTracker fun k => { k with policy := p.clamped }) (fun _ _ => rfl) _ _

theorem setSweep_of_takes (h : s.Takes 0x09 tag payload rest) {p : SweepSettings} (hread : readSetSweep payload = some p) :
    setSweep s = ((s.took rest).onExpiry (Expiry.configure p.clamped)).replied tag .done (p.clamped ≠ p)
      (if (decide (p.clamped ≠ p)) then
        be 4 p.clamped.interval ++ be 4 p.clamped.batch ++ be 4 p.clamped.scrubBatch else []) := by
  unfold setSweep
  rw [State.directive_of_takes h hread]
  exact State.answerClamped_of_takes h (fun u => u.onExpiry (Expiry.configure p.clamped)) (fun _ _ => rfl) _ _

theorem setNotices_of_takes (h : s.Takes 0x0A tag payload rest) {p : NoticeSettings}
    (hread : readSetNotices payload = some p) :
    setNotices s = ((s.took rest).onNotices (Notices.configure p)).replied tag .done false [] := by
  unfold setNotices
  rw [State.directive_of_takes h hread, ← State.takeDirective_none h]
  rfl

end

/-- Settles O48. -/
theorem settingsAreTaken : Obligations.SettingsAreTaken := by
  unfold Obligations.SettingsAreTaken
  intro s tag payload rest
  refine ⟨fun p h hread => ?_, fun p h hread => ?_, fun p h hread => ?_, fun hlen => ⟨fun hbad h => ?_, readSetSweep_eq hlen⟩,
    fun hlen => ⟨fun hbad h => ?_, readSetNotices_eq hlen⟩⟩
  · refine congrArg Host.Outcome.next ((setDayPolicy_of_takes h hread).trans ?_)
    rw [Policy.clamped_ne]
    simp only [Policy.clamped, clamp, Nat.zero_max]
    rfl
  · refine congrArg Host.Outcome.next ((setSweep_of_takes h hread).trans ?_)
    rw [SweepSettings.clamped_ne]
    rfl
  · exact ⟨_, congrArg Host.Outcome.next (setNotices_of_takes h hread), fun i => by
      simp only [vget, Vector.getElem_ofFn]
      rfl⟩
  · exact congrArg Host.Outcome.next (State.directive_unreadable h ((readSetSweep_eq hlen).trans (if_pos hbad)) _)
  · exact congrArg Host.Outcome.next (State.directive_unreadable h ((readSetNotices_eq hlen).trans (if_pos hbad)) _)

/-! ### START ARCHIVE -/

theorem State.cannotStart_iff (s : State) : s.cannotStart = true
    ↔ s.engine ≠ .unconfigured ∨ s.clock.mode = .notSet ∨ ∀ t, (s.target t).configured = false := by
  have htargets : (allTargets.any fun t => (s.target t).configured) = false ↔ ∀ t, (s.target t).configured = false := by
    rw [List.any_eq_false]
    exact ⟨fun h t => by
      have hmem : t ∈ allTargets := by revert t; decide
      simpa using h t hmem, fun h t _ => by simp [h t]⟩
  simp only [State.cannotStart, Bool.or_eq_true, decide_eq_true_eq, Bool.not_eq_true', htargets, or_assoc]

theorem startArchive_of_takes {s : State} {tag : Tag} {rest : List Directive} (h : s.Takes 0x0F tag [] rest) :
    startArchive s = if s.cannotStart then s.turnedDown rest tag .refusedState else (s.took rest).startRebuild tag := by
  unfold startArchive
  rw [State.directive_of_takes h readNothing_nil, show (s.takeDirective _).cannotStart = s.cannotStart from rfl]
  split
  · exact State.refuse_of_takes h _
  · rw [← State.takeDirective_none h]
    rfl

theorem Target.startScan_eq (rebuild : Bool) (reply : Option ScanReply) (k : Target) : k.startScan rebuild reply
    = { k with
        state := .scanning
        map := k.extents.map fun n => List.replicate n .bad
        scan := some { rebuild := rebuild, extent := 0, buf := [], made := [], reply := reply }
        xfer := match k.unitSize, k.gather with
          | some unit, some gather => some (unitZeroRead 0 unit gather k.ackMs)
          | _, _ => k.xfer } := by
  unfold Target.startScan Target.readUnitZero
  dsimp only
  cases k.unitSize with
  | none => rfl
  | some unit => cases k.gather <;> rfl

/-- Settles O47. -/
theorem archiveStarts : Obligations.ArchiveStarts := by
  unfold Obligations.ArchiveStarts
  intro s tag rest h
  refine ⟨fun hr => ?_, fun hr => ?_⟩
  · exact congrArg Host.Outcome.next ((startArchive_of_takes h).trans (if_pos (s.cannotStart_iff.mpr hr)))
  · refine congrArg Host.Outcome.next (((startArchive_of_takes h).trans (if_neg (mt s.cannotStart_iff.mp hr))).trans ?_)
    unfold State.startRebuild
    have htarget : Target.startRebuild tag = fun k => if k.configured then
        { k with
          state := .scanning
          map := k.extents.map fun n => List.replicate n .bad
          scan := some { rebuild := true, extent := 0, buf := [], made := [],
                         reply := some { tag := tag, clamped := false, figures := [] } }
          xfer := match k.unitSize, k.gather with
            | some unit, some gather => some (unitZeroRead 0 unit gather k.ackMs)
            | _, _ => k.xfer }
        else k := by
      funext k
      unfold Target.startRebuild
      rw [Target.startScan_eq]
    rw [htarget]
    exact congrArg (fun v => ({ s.tookLong rest tag with
        engine := .rebuilding, dir := [], builder := { s.builder with nextId := some 1 }, targets := v } : State)) rfl

/-! ### CLEAR SUSPECT -/

theorem clearSuspect_of_takes {s : State} {tag : Tag} {payload : List Byte} {rest : List Directive}
    (h : s.Takes 0x18 tag payload rest) {id : Nat} (hread : readNumber 4 payload = some id) :
    clearSuspect s = if id = 0 then s.turnedDown rest tag .refusedRange
      else match s.entry? id with
        | none => s.turnedDown rest tag .notFound
        | some e => (if e.suspect then (s.took rest).clearFlag e else s.took rest).replied tag .done false
            (flagOctet (!e.suspect)) := by
  unfold clearSuspect
  rw [State.directive_of_takes h hread]
  split
  · exact State.refuse_of_takes h _
  · rw [show (s.takeDirective _).entry? id = s.entry? id from rfl]
    cases s.entry? id with
    | none => exact State.refuse_of_takes h _
    | some e =>
      dsimp only
      rw [← State.takeDirective_none h]
      split <;> rfl

/-- Settles O51. -/
theorem suspectIsCleared : Obligations.SuspectIsCleared := by
  unfold Obligations.SuspectIsCleared
  intro s tag payload rest id h hread
  have hexec := clearSuspect_of_takes h hread
  refine ⟨fun h0 => congrArg Host.Outcome.next (hexec.trans (if_pos h0)), fun h0 he => ?_, fun e h0 he hs => ?_,
    fun e h0 he hs => ?_⟩
  all_goals
    refine congrArg Host.Outcome.next ((hexec.trans (if_neg h0)).trans ?_)
    rw [he]
  · dsimp only
    rw [if_neg (by simp [hs]), hs]
    rfl
  · have hid : e.id = id := by simpa using List.find?_some he
    dsimp only
    rw [if_pos hs, hs, State.clearFlag, State.raise_eq, hid]
    unfold State.integrityEvent
    rw [hid]
    rfl

/-! ### FLUSH -/

theorem State.flushNow_of_takes {s : State} {tag : Tag} {payload : List Byte} {rest : List Directive}
    (h : s.Takes 0x12 tag payload rest) (p : FlushParams) :
    ((s.takeDirective { code := 0x12, tag := tag, payload := payload }).flushNow tag p).setCurrent none
      = (s.took rest).flushNow tag p := by
  rw [← State.takeDirective_none h]
  unfold State.flushNow
  generalize s.takeDirective _ = u
  have hids : (u.setCurrent none).flushMatches p = u.flushMatches p := rfl
  have hseal : ((u.setCurrent none).reserve tag).sealAll .flush (u.flushMatches p)
      = ((u.reserve tag).sealAll .flush (u.flushMatches p)).setCurrent none :=
    (Beside.setCurrent none).sealAll (u.reserve tag) .flush _
  dsimp only
  rw [hids, hseal]
  split
  · rfl
  · split <;> rfl

theorem flush_of_takes {s : State} {tag : Tag} {payload : List Byte} {rest : List Directive}
    (h : s.Takes 0x12 tag payload rest) {p : FlushParams} (hread : readFlush payload = some p) :
    flush s = if p.cls.any (15 < ·) then s.turnedDown rest tag .refusedRange
      else if p.wait ∧ s.builder.flush.isSome then s.turnedDown rest tag .busy
      else (s.took rest).flushNow tag p := by
  unfold flush
  rw [State.directive_of_takes h hread]
  split
  · exact State.refuse_of_takes h _
  · rw [show (s.takeDirective _).builder.flush = s.builder.flush from rfl]
    split
    · exact State.refuse_of_takes h _
    · exact State.flushNow_of_takes h p

/-- Settles O50. -/
theorem flushSeals : Obligations.FlushSeals := by
  unfold Obligations.FlushSeals
  intro s tag payload rest p h hread
  have hexec := flush_of_takes h hread
  refine ⟨fun c hc hbig => ?_, fun hcls => ?_⟩
  · exact congrArg Host.Outcome.next (hexec.trans (if_pos (by rw [hc]; exact decide_eq_true hbig)))
  have hrange : ¬ p.cls.any (15 < ·) = true := by
    cases hc : p.cls with
    | none => exact Bool.false_ne_true
    | some c =>
      have := hcls c hc
      simpa using this
  rw [if_neg hrange] at hexec
  refine ⟨fun hw hf => ?_, fun hfree => ?_⟩
  · exact congrArg Host.Outcome.next (hexec.trans (if_pos ⟨hw, Option.isSome_iff_ne_none.mpr hf⟩))
  rw [if_neg fun hb => by
    rcases hfree with hw | hf
    · rw [hw] at hb; exact Bool.false_ne_true hb.1
    · rw [hf] at hb; exact Bool.false_ne_true hb.2] at hexec
  have hrest := (s.tookLong rest tag).sealAll_rest .flush (s.flushMatches p)
  have hbuilder := (s.tookLong rest tag).sealAll_builder .flush (s.flushMatches p)
  have hids : s.flushMatches p = (s.dir.filter fun e => e.state = .opened && p.cls.all (· = e.cls.val)
      && p.day.all (· = e.day)).map SegEntry.id :=
    congrArg (List.map SegEntry.id) (List.filter_congr fun e _ => (Bool.and_assoc _ _ _).symm)
  intro ids
  have hids : s.flushMatches p = ids := hids
  rw [hids] at hrest hbuilder
  have hflush : (s.took rest).flushNow tag p = if ¬ p.wait then
        ((s.tookLong rest tag).sealAll .flush ids).completeWith tag .done (be 4 ids.length)
      else if ids = [] then
        ((s.tookLong rest tag).sealAll .flush ids).completeWith tag .done (FlushWait.new tag ids).figures
      else ((s.tookLong rest tag).sealAll .flush ids).onBuilder fun b => { b with flush := some (FlushWait.new tag ids) } := by
    rw [← hids]
    rfl
  rw [hflush] at hexec
  refine ⟨(s.tookLong rest tag).sealAll .flush ids, hrest, ?_, (s.tookLong rest tag).sealAll_commit .flush ids,
    (s.tookLong rest tag).sealAll_allSealedTo .flush ids, fun e he hid => ?_, fun id hid => State.sealAll_others hid,
    fun x hx => ?_, fun hw => congrArg Host.Outcome.next (hexec.trans (if_pos (by simp [hw]))),
    fun hw hnil => congrArg Host.Outcome.next (hexec.trans ?_), fun hw hne => congrArg Host.Outcome.next (hexec.trans ?_)⟩
  · exact hbuilder.trans (congrArg (fun b : Builder => ({ s.builder with
      buffers := b.buffers, openIndex := b.openIndex } : Builder)) hbuilder.symm)
  · obtain ⟨e₀, -, hid₀, -, -, hin, -⟩ := State.mem_sealAll_dir he
    exact hin (hid₀ ▸ hid)
  · rw [hbuilder] at hx
    simpa using (List.mem_filter.mp hx).2
  · rw [if_neg (by simp [hw]), if_pos hnil, hnil]
    rfl
  · rw [if_neg (by simp [hw]), if_neg hne]
    rfl

end Sys2Proof.Machine
end

section
/-! WAIVE (R39). -/

namespace Sys2Proof.Machine

/-! ### The slots named -/

/-- A slot is named: by number, or with ALL. -/
def slotNamed (slot : Option Nat) (i : Nat) : Bool := slot = none || slot = some i

/-- The items of a numbered list with one number are at most one. -/
theorem filter_numbered {α : Type} (l : List α) (k i : Nat) :
    ((List.range' k l.length).zip l).filter (fun x => decide (some i = some x.1))
      = (if k ≤ i then l[i - k]? else none).toList.map fun x => (i, x) := by
  induction l generalizing k with
  | nil => simp
  | cons a l ih =>
    have hzip : (List.range' k (a :: l).length).zip (a :: l) = (k, a) :: (List.range' (k + 1) l.length).zip l := by
      simp [List.range'_succ]
    rw [hzip, List.filter_cons, ih (k + 1)]
    rcases Nat.lt_trichotomy i k with hlt | rfl | hgt
    · rw [if_neg (by simpa using Nat.ne_of_lt hlt), if_neg (by omega), if_neg (by omega)]
    · simp
    · rw [if_neg (by simpa using Nat.ne_of_gt hgt), if_pos (Nat.succ_le_of_lt hgt), if_pos hgt.le,
        show i - k = (i - (k + 1)) + 1 by omega, List.getElem?_cons_succ]

theorem ContRecord.namedSlots_eq (r : ContRecord) (slot : Option Nat) : r.namedSlots slot
    = ((List.range r.slots.length).zip r.slots).filter fun x => slot = none || slot = some x.1 := by
  cases slot with
  | none => exact (List.filter_eq_self.mpr fun x _ => rfl).symm
  | some i =>
    have hone := filter_numbered r.slots 0 i
    rw [← List.range_eq_range', if_pos (Nat.zero_le i), Nat.sub_zero] at hone
    refine Eq.trans ?_ (hone.symm.trans (List.filter_congr fun x _ => ?_))
    · rfl
    · simp

theorem ContRecord.mem_namedSlots_numbers (r : ContRecord) (slot : Option Nat) (j : Nat) :
    j ∈ (r.namedSlots slot).map Prod.fst ↔ j < r.slots.length ∧ (slot = none ∨ slot = some j) := by
  have hnumbers : (r.namedSlots slot).map Prod.fst = (List.range r.slots.length).filter (slotNamed slot) := by
    rw [ContRecord.namedSlots_eq, show (fun x : Nat × Slot => (slot = none || slot = some x.1 : Bool))
      = slotNamed slot ∘ Prod.fst from rfl, ← List.filter_map, List.map_fst_zip (by simp)]
  rw [hnumbers, List.mem_filter, List.mem_range]
  simp [slotNamed]

/-! ### The change -/

theorem Slot.waive_waive (x : Slot) : x.waive.waive = x.waive := by
  obtain ⟨st, holder, prior, facts, gap⟩ := x
  cases st <;> rfl

theorem Slot.waive_eq (x : Slot) : x.waive = if x.state = .missing then { x with state := .waived, gapOpen := false }
    else if x.state = .defective then { x with state := .waived, facts := none } else x := by
  obtain ⟨st, holder, prior, facts, gap⟩ := x
  cases st <;> rfl

/-- The record with every slot of a list of numbers waived. -/
def ContRecord.waiveAll (r : ContRecord) (ns : List Nat) : ContRecord := ns.foldl (fun r n => r.onSlot n Slot.waive) r

theorem ContRecord.waiveAll_keeps (r : ContRecord) (ns : List Nat) : r.waiveAll ns = { r with slots := (r.waiveAll ns).slots } := by
  unfold ContRecord.waiveAll
  induction ns generalizing r with
  | nil => rfl
  | cons n ns ih => exact ih (r.onSlot n Slot.waive)

theorem ContRecord.getElem?_waiveAll (r : ContRecord) (ns : List Nat) (j : Nat) :
    (r.waiveAll ns).slots[j]? = (r.slots[j]?).map fun x => if j ∈ ns then x.waive else x := by
  unfold ContRecord.waiveAll
  induction ns generalizing r with
  | nil => simp
  | cons n ns ih =>
    rw [List.foldl_cons, ih]
    show ((r.slots.modify n Slot.waive)[j]?).map _ = _
    rw [List.getElem?_modify, Option.map_eq_map, Option.map_map]
    refine Option.map_congr fun x _ => ?_
    by_cases hn : n = j
    · by_cases hj : j ∈ ns <;> simp [hn, hj, Slot.waive_waive]
    · by_cases hj : j ∈ ns <;> simp [hn, hj, Ne.symm hn]

/-- R39: a slot number of a WAIVE as it leaves its slot. -/
def waivedAt (r : ContRecord) (slot : Option Nat) (i : Nat) (x : Slot) : Slot :=
  if ¬ (i < r.slots.length ∧ (slot = none ∨ slot = some i)) then x
  else if x.state = .missing then { x with state := .waived, gapOpen := false }
  else if x.state = .defective then { x with state := .waived, facts := none }
  else x

theorem ContRecord.waiveAll_slots (r : ContRecord) (slot : Option Nat) (y : ContRecord) :
    (y.waiveAll ((r.namedSlots slot).map Prod.fst)).slots
      = (List.range y.slots.length).zipWith (waivedAt r slot) y.slots := by
  refine List.ext_getElem? fun j => ?_
  rw [ContRecord.getElem?_waiveAll, List.getElem?_zipWith]
  cases hj : y.slots[j]? with
  | none => cases (List.range y.slots.length)[j]? <;> rfl
  | some x =>
    obtain ⟨hlt, -⟩ := List.getElem?_eq_some_iff.mp hj
    rw [List.getElem?_range hlt]
    refine congrArg some ?_
    unfold waivedAt
    dsimp only
    by_cases hnamed : j < r.slots.length ∧ (slot = none ∨ slot = some j)
    · rw [if_pos ((r.mem_namedSlots_numbers slot j).mpr hnamed), if_neg (not_not_intro hnamed), Slot.waive_eq]
    · rw [if_neg (mt (r.mem_namedSlots_numbers slot j).mp hnamed), if_pos hnamed]

theorem State.onSlots_eq (s : State) (source day : Nat) (xs : List (Nat × Slot)) :
    xs.foldl (fun s x => s.onSlot source day x.1 Slot.waive) s
      = s.onRecord source day fun r => r.waiveAll (xs.map Prod.fst) := by
  induction xs generalizing s with
  | nil =>
    have hid : ∀ rs : List ContRecord, rs.map (fun r => if r.source = source ∧ r.day = day then r else r) = rs := fun rs => by
      simp
    show s = s.onTracker fun k => { k with records := k.records.map fun r => if r.source = source ∧ r.day = day then r else r }
    rw [show (fun k : Tracker => { k with records := k.records.map fun r =>
      if r.source = source ∧ r.day = day then r else r }) = fun k => k from funext fun k => by rw [hid]]
    rfl
  | cons x xs ih =>
    rw [List.foldl_cons, ih]
    unfold State.onSlot State.onRecord State.onTracker
    simp only [List.map_map]
    congr 3
    funext r
    simp only [Function.comp_apply]
    by_cases h : r.source = source ∧ r.day = day <;> simp [h, ContRecord.onSlot, ContRecord.waiveAll]

theorem State.waiveEvent_eq (s : State) (p : WaiveParams) (i : Nat) (x : Slot) : s.waiveEvent p i x
    = if x.state = .missing then
        [s.about .gap .closed (some .waived) { source := p.source, day := p.day, slot := i, seq := 0 } none]
      else if x.state = .defective then
        [s.about .defect .closed (some .waived) { source := p.source, day := p.day, slot := i, seq := 0 } none]
      else [] := by
  obtain ⟨st, holder, prior, facts, gap⟩ := x
  cases st <;> rfl

/-- R39: the events of a WAIVE. -/
def State.waiveEvents (s : State) (p : WaiveParams) (r : ContRecord) : List AuditEvent :=
  (r.namedSlots p.slot).flatMap fun x => s.waiveEvent p x.1 x.2

/-- R39: the books with the slots named waived and their events raised. -/
def State.waived (s : State) (p : WaiveParams) (r : ContRecord) : State :=
  (s.waiveEvents p r).foldl State.recorded (s.withRecord { source := p.source, day := p.day, slot := 0, seq := 0 } fun y =>
    { y with slots := (List.range y.slots.length).zipWith (waivedAt r p.slot) y.slots })

theorem State.applyWaive_eq (s : State) (p : WaiveParams) (r : ContRecord) :
    s.applyWaive p r = (s.waived p r).tested p.day := by
  have hrecord : (r.namedSlots p.slot).foldl (fun s x => s.onSlot p.source p.day x.1 Slot.waive) s
      = s.withRecord { source := p.source, day := p.day, slot := 0, seq := 0 } fun y =>
        { y with slots := (List.range y.slots.length).zipWith (waivedAt r p.slot) y.slots } := by
    have hfun : (fun y : ContRecord => y.waiveAll ((r.namedSlots p.slot).map Prod.fst)) = fun y =>
        { y with slots := (List.range y.slots.length).zipWith (waivedAt r p.slot) y.slots } := by
      funext y
      rw [ContRecord.waiveAll_keeps, ContRecord.waiveAll_slots]
    rw [State.onSlots_eq, hfun]
    rfl
  unfold State.applyWaive
  dsimp only
  rw [hrecord, State.raiseAll_eq, State.testRetirement_eq, State.testSettlement_eq, ← List.flatMap_def]
  rfl

theorem State.waived_clock (s : State) (p r) : (s.waived p r).clock = s.clock := State.foldl_recorded_clock _ _

theorem State.withBooks_waived (u s : State) (p r) : (u.withBooks s).waived p r = u.withBooks (s.waived p r) := by
  unfold State.waived
  rw [State.withBooks_withRecord, State.withBooks_foldl_recorded]
  rfl

section
variable {s : State} {tag : Tag} {payload : List Byte} {rest : List Directive} {p : WaiveParams}

theorem waive_of_takes (h : s.Takes 0x11 tag payload rest) (hread : readWaive payload = some p) :
    waive s = if 511 < p.source then s.turnedDown rest tag .refusedRange
      else match s.record? p.source p.day with
        | none => s.turnedDown rest tag .notFound
        | some r =>
          if r.outOfRange p.slot then s.turnedDown rest tag .refusedRange
          else if r.slotBusy p.slot then s.turnedDown rest tag .refusedState
          else ((s.took rest).withBooks ((s.waived p r).tested p.day)).replied tag .done false (r.waiveFigures p.slot) := by
  unfold waive
  rw [State.directive_of_takes h hread]
  split
  · exact State.refuse_of_takes h _
  · rw [show (s.takeDirective _).record? p.source p.day = s.record? p.source p.day from rfl]
    cases s.record? p.source p.day with
    | none => exact State.refuse_of_takes h _
    | some r =>
      dsimp only
      split
      · exact State.refuse_of_takes h _
      split
      · exact State.refuse_of_takes h _
      · rw [State.applyWaive_eq, ← State.takeDirective_none h,
          show s.takeDirective { code := 0x11, tag := tag, payload := payload }
            = (s.takeDirective { code := 0x11, tag := tag, payload := payload }).withBooks s from rfl,
          State.withBooks_waived, State.withBooks_tested]
        rfl

theorem State.retiredIn_of_open {s : State} {day : Nat} {d : DayEntry} (hd : s.day? day = some d) (hst : d.state = .opened) :
    s.retiredIn day = s :=
  if_neg (by simp [State.inClosedDay, hd, hst])

theorem State.settledIn_of_open {s : State} {day : Nat} {d : DayEntry} (hd : s.day? day = some d) (hst : d.state = .opened) :
    s.settledIn day = s :=
  if_neg (by simp [hd, hst])

theorem State.tested_of_open {s : State} {day : Nat} {d : DayEntry} (hd : s.day? day = some d) (hst : d.state = .opened) :
    s.tested day = s := by
  unfold State.tested
  rw [State.retiredIn_of_open hd hst, State.settledIn_of_open hd hst]

theorem State.waived_tracker (s : State) (p r) : (s.waived p r).tracker
    = (s.withRecord { source := p.source, day := p.day, slot := 0, seq := 0 } fun y =>
        { y with slots := (List.range y.slots.length).zipWith (waivedAt r p.slot) y.slots }).tracker :=
  State.foldl_recorded_tracker _ _

theorem State.waived_audit (s : State) (p r) : (s.waived p r).audit = ((s.waiveEvents p r).foldl State.recorded s).audit :=
  (congrArg State.audit (State.onTracker_foldl_recorded s (fun k => { k with records := k.records.map fun y =>
    if y.source = p.source ∧ y.day = p.day then
      { y with slots := (List.range y.slots.length).zipWith (waivedAt r p.slot) y.slots } else y }) _).symm :)

theorem State.record?_withRecord (s : State) (f : FileInfo) {g : ContRecord → ContRecord}
    (hg : ∀ r, (g r).source = r.source ∧ (g r).day = r.day) (a b : Nat) : (s.withRecord f g).record? a b
      = (s.record? a b).map fun r => if r.source = f.source ∧ r.day = f.day then g r else r :=
  find?_map_of_keeps (fun r => by split <;> simp [hg]) s.tracker.records

end

theorem ContRecord.outOfRange_of_in {r : ContRecord} {slot : Option Nat} (h : ∀ i, slot = some i → i < r.expected) :
    ¬ r.outOfRange slot = true := by
  cases slot with
  | none => exact Bool.false_ne_true
  | some i =>
    have := h i rfl
    simpa [ContRecord.outOfRange] using this

theorem ContRecord.slotBusy_of_free {r : ContRecord} {slot : Option Nat}
    (h : ∀ i, slot = some i → ∀ x, r.slots[i]? = some x → x.state ≠ .inProgress) : ¬ r.slotBusy slot = true := by
  cases slot with
  | none => exact Bool.false_ne_true
  | some i =>
    cases hx : r.slots[i]? with
    | none => simp [ContRecord.slotBusy, ContRecord.slot?, hx]
    | some x =>
      have := h i rfl x hx
      simpa [ContRecord.slotBusy, ContRecord.slot?, hx] using this

/-- R39: the figures of a WAIVE. -/
theorem ContRecord.waiveFigures_eq (r : ContRecord) (slot : Option Nat) : r.waiveFigures slot
    = be 4 ((((List.range r.slots.length).zip r.slots).filter fun x => slot = none || slot = some x.1).countP fun x =>
        x.2.state = .missing || x.2.state = .defective)
      ++ be 4 ((((List.range r.slots.length).zip r.slots).filter fun x => slot = none || slot = some x.1).countP fun x =>
        x.2.state = .inProgress) := by
  rw [ContRecord.waiveFigures, ContRecord.namedSlots_eq]
  rfl

/-- Settles O49. -/
theorem slotsAreWaived : Obligations.SlotsAreWaived := by
  unfold Obligations.SlotsAreWaived
  intro s tag payload rest p h hread
  have hexec := waive_of_takes h hread
  refine ⟨fun hbig => congrArg Host.Outcome.next (hexec.trans (if_pos hbig)), fun hsmall hr => ?_, fun r hsmall hr => ?_⟩
  · refine congrArg Host.Outcome.next ((hexec.trans (if_neg (Nat.not_lt.mpr hsmall))).trans ?_)
    rw [hr]
  rw [if_neg (Nat.not_lt.mpr hsmall), hr] at hexec
  dsimp only at hexec
  have hevents : s.waiveEvents p r = (((List.range r.slots.length).zip r.slots).filter fun x =>
      p.slot = none || p.slot = some x.1).flatMap fun x =>
        if x.2.state = .missing then
          [s.about .gap .closed (some .waived) { source := p.source, day := p.day, slot := x.1, seq := 0 } none]
        else if x.2.state = .defective then
          [s.about .defect .closed (some .waived) { source := p.source, day := p.day, slot := x.1, seq := 0 } none]
        else [] := by
    rw [State.waiveEvents, ContRecord.namedSlots_eq]
    exact congrArg (fun g => List.flatMap g _) (funext fun x => s.waiveEvent_eq p x.1 x.2)
  have haccept (hin : ∀ i, p.slot = some i → i < r.expected)
      (hfree : ∀ i, p.slot = some i → ∀ x, r.slots[i]? = some x → x.state ≠ .inProgress) :
      waive s = ((s.took rest).withBooks ((s.waived p r).tested p.day)).replied tag .done false (r.waiveFigures p.slot) := by
    rw [hexec, if_neg (ContRecord.outOfRange_of_in hin), if_neg (ContRecord.slotBusy_of_free hfree)]
  refine ⟨fun i hi hout => ?_, fun i x hi hin hx hst => ?_, fun d hd hst hsound => ?_, fun hsound => ?_⟩
  · refine congrArg Host.Outcome.next (hexec.trans (if_pos ?_))
    rw [hi]
    exact decide_eq_true hout
  · refine congrArg Host.Outcome.next (hexec.trans ((if_neg ?_).trans (if_pos ?_)))
    · exact ContRecord.outOfRange_of_in fun j hj => (Option.some.inj (hi.symm.trans hj)) ▸ hin
    · simp [ContRecord.slotBusy, ContRecord.slot?, hi, hx, hst]
  · have hfree : ∀ i, p.slot = some i → ∀ x, r.slots[i]? = some x → x.state ≠ .inProgress := fun i hi x hx => by
      obtain ⟨-, y, hy, hne⟩ := hsound i hi
      exact (Option.some.inj (hy.symm.trans hx)) ▸ hne
    have hopen : (s.waived p r).day? p.day = some d := by
      unfold State.day?
      rw [State.waived_tracker]
      exact hd
    have hrecord (a b : Nat) : ((s.took rest).withBooks (s.waived p r)).record? a b = (s.record? a b).map fun y =>
        if y.source = p.source ∧ y.day = p.day then
          { y with slots := (List.range y.slots.length).zipWith (waivedAt r p.slot) y.slots } else y := by
      have hkept := State.record?_withRecord s { source := p.source, day := p.day, slot := 0, seq := 0 } (g := fun y =>
        { y with slots := (List.range y.slots.length).zipWith (waivedAt r p.slot) y.slots }) (fun _ => ⟨rfl, rfl⟩) a b
      unfold State.record? at hkept ⊢
      rw [← hkept, ← State.waived_tracker]
      rfl
    have hnamed : r.source = p.source ∧ r.day = p.day := by simpa using List.find?_some hr
    have hexec := haccept (fun i hi => (hsound i hi).1) hfree
    rw [State.tested_of_open hopen hst, ContRecord.waiveFigures_eq] at hexec
    refine ⟨_, congrArg Host.Outcome.next hexec, ?_, fun a b hab => ?_, ?_, ?_⟩
    · rw [hrecord, hr, Option.map_some, if_pos hnamed]
      refine congrArg (fun l => some { r with slots := l }) ?_
      rw [← List.map_uncurry_zip_eq_zipWith]
      refine List.map_congr_left fun x hx => ?_
      have hlt : x.1 < r.slots.length := List.mem_range.mp (List.of_mem_zip hx).1
      unfold waivedAt
      simp only [Function.uncurry, hlt, true_and]
    · rw [hrecord]
      cases hy : s.record? a b with
      | none => rfl
      | some y =>
        have hyab : y.source = a ∧ y.day = b := by simpa using List.find?_some hy
        refine congrArg some (if_neg fun hyp => ?_)
        rcases hab with hab | hab
        · exact hab (hyab.1.symm.trans hyp.1)
        · exact hab (hyab.2.symm.trans hyp.2)
    · rw [← hevents]
      exact State.waived_audit s p r
    · rw [State.withBooks, State.waived_clock, State.waived_tracker]
      rfl
  · have hexec := haccept (fun i hi => (hsound i hi).1) fun i hi => (hsound i hi).2
    rw [ContRecord.waiveFigures_eq] at hexec
    refine ⟨_, congrArg Host.Outcome.next hexec, ?_⟩
    have hclock : ((s.waived p r).tested p.day).clock = s.clock :=
      (State.tested_keeps _ _).2.2.trans (s.waived_clock p r)
    rw [State.withBooks, hclock]
    unfold State.waived
    rw [hevents]
    rfl

end Sys2Proof.Machine
end

section
/-! The store links in the words of the statements: target states, faults, requests that end, suspending (R86 to R91,
R101, R105, R149). -/

namespace Sys2Proof.Machine

/-! ### One target changed -/

theorem State.onTarget_eq (s : State) (t : TargetNo) (f : Target → Target) : s.onTarget t f = s.withTarget t (f (s.target t)) :=
  rfl

@[simp] theorem State.target_withTarget_same (s : State) (t : TargetNo) (k : Target) : (s.withTarget t k).target t = k :=
  vget_vset_same _ _ _

theorem State.target_withTarget (s : State) (t u : TargetNo) (k : Target) :
    (s.withTarget t k).target u = if u = t then k else s.target u := vget_vset _ _ _ _

@[simp] theorem State.withTarget_withTarget (s : State) (t : TargetNo) (k j : Target) :
    (s.withTarget t k).withTarget t j = s.withTarget t j := by
  unfold State.withTarget
  rw [vset_vset_same]

theorem State.withTarget_self (s : State) (t : TargetNo) : s.withTarget t (s.target t) = s := by
  unfold State.withTarget State.target vset vget
  rw [Vector.set_getElem_self]

theorem State.onTarget_withTarget (s : State) (t : TargetNo) (k : Target) (f : Target → Target) :
    (s.withTarget t k).onTarget t f = s.withTarget t (f k) := by
  rw [State.onTarget_eq, State.target_withTarget_same, State.withTarget_withTarget]

/-! ### Extents -/

theorem Target.setExtents_withExtents (k : Target) (xs : List Nat) (st : ExtentState) :
    k.setExtents xs st = k.withExtents xs st := Target.setExtents_eq xs st k

/-! ### STRANDED segments return, targets come ONLINE -/

theorem State.returnStranded_eq (s : State) : s.returnStranded = s.strandedReturned := by
  unfold State.returnStranded State.strandedReturned State.strandedIds
  rw [List.map_map]
  rfl

theorem State.enterOnline_eq (s : State) (t : TargetNo) : s.enterOnline t
    = (let u := s.withTarget t { s.target t with state := .online, faults := 0 }
       (if (s.target t).state = .scanning ∨ (s.target t).state = .offline then u.pended 3 (be 1 t.val ++ named 3)
        else u).strandedReturned) := by
  unfold State.enterOnline
  dsimp only
  rw [State.returnStranded_eq, State.onTarget_eq]
  have hnumber : (((s.withTarget t { s.target t with state := .online, faults := 0 }).target t).state.number : Nat) = 3 := by
    rw [State.target_withTarget_same]
    rfl
  rw [State.notifyTarget, State.notify_eq, hnumber]

/-- R89: a success. -/
theorem State.faultClear_eq (s : State) (t : TargetNo) : s.faultClear t = s.succeeded t := by
  unfold State.faultClear State.succeeded
  dsimp only
  cases hst : (s.target t).state with
  | offline => rfl
  | degraded =>
    rw [if_neg (by simp), if_pos rfl]
    exact (State.enterOnline_eq s t).trans (by rw [hst]; rfl)
  | absent | scanning | online =>
    rw [if_neg (by simp), if_neg (by simp)]
    exact State.onTarget_eq s t _ |>.trans (by rw [hst])

/-! ### Requests that end without a decode result -/

/-- The reply to an ending without a decode result. -/
def endingReply : Ending → Result × List Byte
  | .readFail c => (.failed, named 4 ++ named c.number)
  | .notFound => (.notFound, [])
  | .tooLate => (.tooLate, [])
  | .malformed _ => (.done, [])
  | .mismatch _ => (.done, [])
  | .matched => (.done, [])

/-- The ending carries no decode result. -/
def Ending.undecoded : Ending → Prop
  | .readFail _ => True
  | .notFound => True
  | .tooLate => True
  | .malformed _ => False
  | .mismatch _ => False
  | .matched => False

theorem State.applyEnding_undecoded {k : Machine.Ending} (hk : k.undecoded) (s : State) (r : Request) : s.applyEnding r k = s := by
  unfold State.applyEnding
  split
  · cases k with
    | readFail _ | notFound | tooLate => rfl
    | malformed _ | mismatch _ | matched => exact hk.elim
  · rfl

theorem requestReply_undecoded {k : Ending} (hk : k.undecoded) (r : Request) (e : Option SegEntry) :
    requestReply r e k = endingReply k := by
  unfold requestReply
  cases k with
  | readFail _ | notFound | tooLate => split <;> rfl
  | malformed _ | mismatch _ | matched => exact hk.elim

theorem Audit.countScrub_undecoded {k : Ending} (hk : k.undecoded) (a : Audit) :
    a.countScrub k = { a with scrubReadFail := min (a.scrubReadFail + 1) 4294967295 } := by
  cases k with
  | readFail _ | notFound | tooLate => rfl
  | malformed _ | mismatch _ | matched => exact hk.elim

theorem State.dequeueRequest_eq {s : State} {r : Request} {rs : List Request} (h : s.audit.requests = r :: rs) :
    s.dequeueRequest = s.requestDone r rs := by
  unfold State.dequeueRequest
  rw [h]
  rfl

theorem State.replyRequest_undecoded {k : Machine.Ending} (hk : k.undecoded) {s : State} {r : Request} (rs : List Request)
    (reply : Result × List Byte) : (s.requestDone r rs).replyRequest r k reply = s.requestEnds r rs reply.1 reply.2 := by
  unfold State.replyRequest State.requestEnds
  cases r.origin with
  | some tag => exact State.completeWith_eq _ _ _ _
  | none => exact congrArg (fun a => { s.requestDone r rs with audit := a }) (Audit.countScrub_undecoded hk _)

/-- R149: the head request ends without a decode result. -/
theorem State.finishRequest_undecoded {k : Machine.Ending} (hk : k.undecoded) {s : State} {r : Request} {rs : List Request}
    (h : s.audit.requests = r :: rs) : s.finishRequest k = s.requestEnds r rs (endingReply k).1 (endingReply k).2 := by
  unfold State.finishRequest
  rw [h]
  dsimp only
  rw [State.applyEnding_undecoded hk, State.dequeueRequest_eq h, requestReply_undecoded hk, State.replyRequest_undecoded hk]

theorem State.finishRequest_readFail (s : State) (c : ReadCause) : s.finishRequest (.readFail c) = s.readFailed c.number := by
  unfold State.readFailed
  cases h : s.audit.requests with
  | nil =>
    unfold State.finishRequest
    rw [h]
  | cons r rs => exact State.finishRequest_undecoded (k := .readFail c) trivial h

/-! ### Going OFFLINE and faults -/

theorem State.withdrawCommit_eq (s : State) (t : TargetNo) : s.withdrawCommit t = s.commitWithdrawn t := by
  unfold State.withdrawCommit State.commitWithdrawn
  cases hc : s.commit.current with
  | none => rfl
  | some c =>
    dsimp only
    unfold State.onTarget CommitEngine.requeue
    cases (s.entry? c.segId).bind SegEntry.place with
    | none =>
      simp only [State.onEntry, State.onDir, State.onCommit, State.onTargets, updateEntry, hc]
      rfl
    | some p =>
      simp only [State.onEntry, State.onDir, State.onCommit, State.onTargets, updateEntry, hc]
      rfl

/-- R91: a target becomes OFFLINE. -/
theorem State.goOffline_eq (s : State) (t : TargetNo) : s.goOffline t = s.wentOffline t := by
  unfold State.goOffline State.wentOffline
  dsimp only
  have hnotify : (s.onTarget t Target.offline).notifyTarget t
      = (s.withTarget t { s.target t with
          state := .offline, waitWrite := false, waitRead := none
          erase := (s.target t).erase.map fun y => if y.state = .suspended then { y with state := .resumeRequested } else y
          xfer := (s.target t).xfer.map fun x => if x.kind = .read then { x with cut := true } else x }).pended 3
        (be 1 t.val ++ named 5) := by
    rw [State.notifyTarget, State.notify_eq, State.target_onTarget_same]
    rfl
  rw [hnotify, State.withdrawCommit_eq, State.finishRequest_readFail]
  cases (s.target t).waitRead with
  | none => exact if_neg Bool.false_ne_true
  | some j => exact (if_pos rfl).trans (if_neg (by exact fun h => nomatch h)).symm

/-- R89: a fault. -/
theorem State.faultUp_eq (s : State) (t : TargetNo) : s.faultUp t = s.faultOn t := by
  unfold State.faultUp State.faultOn
  dsimp only
  split
  · rfl
  · rw [State.onTarget_eq]
    by_cases hthird : 3 ≤ (s.target t).faults + 1
    · have hmany : ¬ (s.target t).faults + 1 < 3 := by omega
      rw [if_pos hthird, if_neg hmany, State.goOffline_eq]
    · have hfew : (s.target t).faults + 1 < 3 := by omega
      rw [if_neg hthird, if_pos hfew, State.onTarget_withTarget]
      split <;> rfl

/-! ### Suspending and resuming -/

theorem Target.waits_iff (k : Target) : k.waits = true ↔ k.waitWrite = true ∨ k.waitRead ≠ none := by
  simp [Target.waits, Option.isSome_iff_ne_none]

/-- R105: what the controller does about its issued erase. -/
theorem Target.pokeErase_eq (k : Target) : k.pokeErase = { k with erase := k.erase.map fun y =>
    if y.state = .running ∧ (k.waitWrite = true ∨ k.waitRead ≠ none) ∧ y.suspends < 8 then
      { y with state := .suspendRequested }
    else if y.state = .suspended ∧ (k.state = .offline ∨ ¬ (k.waitWrite = true ∨ k.waitRead ≠ none) ∧ k.xfer = none) then
      { y with state := .resumeRequested }
    else y } := by
  simp only [Target.pokeErase, k.waits_iff, Config.suspendCap]
  cases he : k.erase with
  | none =>
    exact congrArg (fun x => { k with erase := x }) he
  | some y =>
    dsimp only [Option.map_some]
    cases hst : y.state with
    | running =>
      simp only [true_and, reduceCtorEq, false_and, if_false]
      split
      · rfl
      · rw [← he]
    | suspended =>
      simp only [true_and, reduceCtorEq, false_and, if_false]
      split
      · rfl
      · rw [← he]
    | suspendRequested | resumeRequested =>
      simp only [reduceCtorEq, false_and, if_false, ← he]

theorem State.pokeErase_eq (s : State) (t : TargetNo) : s.pokeErase t = s.eraseChecked t := by
  unfold State.pokeErase State.eraseChecked
  rw [State.onTarget_eq, Target.pokeErase_eq]

end Sys2Proof.Machine
end

section
/-! Commits begin, the order of a link's work, answers out of place, and erases (R92, R97, R98, R103 to R108). -/

namespace Sys2Proof.Machine

/-! ### Counters -/

theorem satAdd_eq (n k : Nat) : satAdd Config.max32 n k = min (n + k) 4294967295 := rfl

/-! ### Faults and successes, case by case -/

section
variable {s : State} {t : TargetNo}

theorem State.succeeded_offline (h : (s.target t).state = .offline) : s.succeeded t = s := if_pos h

theorem State.succeeded_degraded (h : (s.target t).state = .degraded) :
    s.succeeded t = (s.withTarget t { s.target t with state := .online, faults := 0 }).strandedReturned :=
  (if_neg (by rw [h]; exact fun hc => nomatch hc)).trans (if_pos h)

theorem State.succeeded_other (h : (s.target t).state ≠ .offline) (h' : (s.target t).state ≠ .degraded) :
    s.succeeded t = s.withTarget t { s.target t with faults := 0 } := (if_neg h).trans (if_neg h')

theorem State.faultOn_offline (h : (s.target t).state = .offline) : s.faultOn t = s := if_pos h

theorem State.faultOn_few (h : (s.target t).state ≠ .offline) (hf : (s.target t).faults + 1 < 3) : s.faultOn t
    = s.withTarget t { s.target t with
        faults := (s.target t).faults + 1
        state := if (s.target t).state = .online then .degraded else (s.target t).state } := (if_neg h).trans (if_pos hf)

theorem State.faultOn_third (h : (s.target t).state ≠ .offline) (hf : ¬ (s.target t).faults + 1 < 3) : s.faultOn t
    = (s.withTarget t { s.target t with faults := (s.target t).faults + 1 }).wentOffline t := (if_neg h).trans (if_neg hf)

end

/-! ### Beside the directive in hand and the Expiry Engine -/

/-- The directive in hand and the Expiry Engine changed. -/
def State.aside (s : State) (g : Option Directive → Option Directive) (h : Expiry → Expiry) : State :=
  { s with current := g s.current, expiry := h s.expiry }

section
variable (s : State) (t : TargetNo) (g : Option Directive → Option Directive) (h : Expiry → Expiry)

theorem State.aside_target (v : TargetNo) : (s.aside g h).target v = s.target v := rfl
theorem State.aside_withTarget (k : Target) : (s.aside g h).withTarget t k = (s.withTarget t k).aside g h := rfl
theorem State.aside_pended (i : Fin 8) (x : List Byte) : (s.aside g h).pended i x = (s.pended i x).aside g h := rfl

theorem State.aside_commitWithdrawn : (s.aside g h).commitWithdrawn t = (s.commitWithdrawn t).aside g h := by
  unfold State.commitWithdrawn
  rw [show (s.aside g h).commit = s.commit from rfl]
  cases s.commit.current <;> rfl

theorem State.aside_requestEnds (r rs result figures) :
    (s.aside g h).requestEnds r rs result figures = (s.requestEnds r rs result figures).aside g h := by
  unfold State.requestEnds
  cases r.origin <;> rfl

theorem State.aside_readFailed (cause : Nat) : (s.aside g h).readFailed cause = (s.readFailed cause).aside g h := by
  unfold State.readFailed
  rw [show (s.aside g h).audit = s.audit from rfl]
  cases s.audit.requests with
  | nil => rfl
  | cons r rs => exact State.aside_requestEnds s g h r rs _ _

theorem State.aside_wentOffline : (s.aside g h).wentOffline t = (s.wentOffline t).aside g h := by
  unfold State.wentOffline
  dsimp only
  simp only [State.aside_target, State.aside_withTarget, State.aside_pended, State.aside_commitWithdrawn]
  split <;> split <;> simp only [State.aside_readFailed]

theorem State.aside_faultOn : (s.aside g h).faultOn t = (s.faultOn t).aside g h := by
  by_cases hoff : (s.target t).state = .offline
  · rw [State.faultOn_offline (s := s.aside g h) hoff, State.faultOn_offline hoff]
  by_cases hf : (s.target t).faults + 1 < 3
  · rw [State.faultOn_few (s := s.aside g h) hoff hf, State.faultOn_few hoff hf]
    rfl
  · rw [State.faultOn_third (s := s.aside g h) hoff hf, State.faultOn_third hoff hf, ← State.aside_wentOffline]
    rfl

theorem State.aside_succeeded : (s.aside g h).succeeded t = (s.succeeded t).aside g h := by
  by_cases hoff : (s.target t).state = .offline
  · rw [State.succeeded_offline (s := s.aside g h) hoff, State.succeeded_offline hoff]
  by_cases hdeg : (s.target t).state = .degraded
  · rw [State.succeeded_degraded (s := s.aside g h) hdeg, State.succeeded_degraded hdeg]
    rfl
  · rw [State.succeeded_other (s := s.aside g h) hoff hdeg, State.succeeded_other hoff hdeg]
    rfl

end

/-! ### Commits begin -/

theorem Target.firstFree_eq_some {k : Target} {m : List ExtentState} {x : Nat} (hm : k.map = some m)
    (hx : m[x]? = some .free) (hlow : ∀ y, y < x → m[y]? ≠ some .free) : k.firstFree = some x := by
  obtain ⟨hlt, hget⟩ := List.getElem?_eq_some_iff.mp hx
  unfold Target.firstFree
  rw [hm, Option.bind_some, List.findIdx?_eq_some_iff_getElem]
  refine ⟨hlt, by rw [hget]; rfl, fun y hy hfree => hlow y hy ?_⟩
  exact List.getElem?_eq_some_iff.mpr ⟨by omega, by simpa using hfree⟩

theorem Target.canTake_iff (k : Target) : k.takesCommit = true ↔ k.canTake := by
  unfold Target.takesCommit Target.usable Target.firstFree Target.canTake
  cases k.map with
  | none => simp
  | some m => simp

theorem find?_allTargets {q : TargetNo → Bool} {t : TargetNo} (ht : q t = true) (hlow : ∀ u, u < t → q u = false) :
    allTargets.find? q = some t := by
  have hsplit : ∀ t : TargetNo, allTargets = allTargets.take t.val ++ t :: allTargets.drop (t.val + 1) := by decide
  have hbelow : ∀ t : TargetNo, ∀ u ∈ allTargets.take t.val, u < t := by decide
  refine List.find?_eq_some_iff_append.mpr ⟨ht, _, _, hsplit t, fun u hu => ?_⟩
  rw [hlow u (hbelow t u hu)]
  rfl

theorem State.chooseTarget_eq_some {s : State} {cls : ClassNo} {t : TargetNo} (ht : (s.target t).canTake)
    (hchoice : t = (vget s.tables.classes cls).target
      ∨ ¬ (s.target (vget s.tables.classes cls).target).canTake ∧ ∀ u, u < t → ¬ (s.target u).canTake) :
    s.chooseTarget cls = some t := by
  unfold State.chooseTarget
  dsimp only
  rcases hchoice with rfl | ⟨hpreferred, hlow⟩
  · exact if_pos ((Target.canTake_iff _).mpr ht)
  · refine (if_neg (mt (Target.canTake_iff _).mp hpreferred)).trans (find?_allTargets ((Target.canTake_iff _).mpr ht) ?_)
    exact fun u hu => Bool.eq_false_iff.mpr (mt (Target.canTake_iff _).mp (hlow u hu))

theorem State.chooseTarget_eq_none {s : State} {cls : ClassNo} (h : ∀ t, ¬ (s.target t).canTake) :
    s.chooseTarget cls = none := by
  unfold State.chooseTarget
  refine (if_neg (mt (Target.canTake_iff _).mp (h _))).trans (List.find?_eq_none.mpr fun t _ => ?_)
  exact mt (Target.canTake_iff _).mp (h t)

/-- R105: a write that has come to wait asks a RUNNING erase to suspend. -/
theorem Target.pokeErase_waiting {k : Target} (hw : k.waitWrite = true ∨ k.waitRead ≠ none) (hst : k.state ≠ .offline) :
    k.pokeErase = { k with erase := k.eraseWhenAsked } := by
  rw [Target.pokeErase_eq]
  unfold Target.eraseWhenAsked
  simp [hw, hst]

theorem State.beginCommit_eq {s : State} {c : CommitEntry} {t : TargetNo} {x : Nat} {m : List ExtentState}
    (ht : (s.target t).canTake) (hm : (s.target t).map = some m) : s.beginCommit c t x = { s with
      commit := { queue := s.commit.queue.filter (fun y => y.segId ≠ c.segId), current := some c, waited := false }
      dir := s.dir.map fun y => if y.id = c.segId then { y with state := .committing, place := some (t, x) } else y
      targets := vset s.targets t ({ s.target t with
        map := some (m.set x .allocated), waitWrite := true, erase := (s.target t).eraseWhenAsked }) } := by
  have hst : (s.target t).state ≠ .offline := by
    rcases ht.1 with h | h <;> rw [h] <;> exact fun hc => nomatch hc
  unfold State.beginCommit
  have hpoke : ({ (s.target t).setExtent x .allocated with waitWrite := true } : Target).pokeErase
      = { s.target t with map := some (m.set x .allocated), waitWrite := true, erase := (s.target t).eraseWhenAsked } := by
    refine (Target.pokeErase_waiting (by exact .inl rfl) (by exact hst)).trans ?_
    unfold Target.setExtent
    rw [hm]
    rfl
  rw [← hpoke]
  unfold State.pokeErase State.onTarget State.onTargets State.onEntry State.onCommit State.onDir updateEntry
  simp only [vset_vset_same, vget_vset_same]
  rfl

/-- Settles O28. -/
theorem commitBegins : Obligations.CommitBegins := by
  unfold Obligations.CommitBegins
  intro s
  refine ⟨fun h => congrArg Host.Outcome.next ?_, fun c e hcurrent hfirst he => ⟨fun hnone => congrArg Host.Outcome.next ?_,
    fun t m x ht hchoice hm hx hlow => congrArg Host.Outcome.next ?_⟩⟩
  · unfold commitBegin
    by_cases hc : s.commit.current = none
    · have hnext : s.nextCommit = none := h.resolve_left fun hn => hn hc
      rw [if_neg (by rw [hc]; exact Bool.false_ne_true), hnext]
    · exact if_pos (Option.isSome_iff_ne_none.mpr hc)
  all_goals
    have hnext : s.nextCommit = some c := hfirst
    unfold commitBegin
    rw [if_neg (by rw [hcurrent]; exact Bool.false_ne_true), hnext]
    dsimp only
    rw [he, Option.bind_some]
  · rw [State.chooseTarget_eq_none hnone]
    dsimp only
    unfold State.waitForTarget
    split <;> rfl
  · rw [State.chooseTarget_eq_some ht hchoice]
    dsimp only
    rw [Target.firstFree_eq_some hm hx hlow]
    exact State.beginCommit_eq ht hm

/-! ### The order of a link's work -/

theorem Target.linkOpen_iff (k : Target) : k.linkOpen = true ↔ ∀ y, k.erase = some y → y.state = .suspended := by
  unfold Target.linkOpen
  cases k.erase <;> simp

theorem Target.usable_iff (k : Target) : k.usable = true ↔ k.state = .online ∨ k.state = .degraded := by
  simp [Target.usable]

section
variable {s : State} {t : TargetNo}

theorem arbiterBegin_closed (h : (s.target t).xfer ≠ none ∨ ((s.target t).state ≠ .online ∧ (s.target t).state ≠ .degraded)
      ∨ ∃ y, (s.target t).erase = some y ∧ y.state ≠ .suspended) : arbiterBegin t s = s := by
  refine if_pos ?_
  rcases h with hx | ⟨hon, hdeg⟩ | ⟨y, hy, hst⟩
  · exact .inl (Option.isSome_iff_ne_none.mpr hx)
  · exact .inr (.inl fun hu => ((Target.usable_iff _).mp hu).elim hon hdeg)
  · exact .inr (.inr fun hopen => hst ((Target.linkOpen_iff _).mp hopen y hy))

theorem arbiterBegin_open (hx : (s.target t).xfer = none) (hst : (s.target t).state = .online ∨ (s.target t).state = .degraded)
    (he : ∀ y, (s.target t).erase = some y → y.state = .suspended) : arbiterBegin t s
      = if (s.target t).waitWrite then s.beginWrite t
        else match (s.target t).waitRead with
          | some j => s.beginRead t j
          | none => if (s.target t).erase.isNone then s.onTarget t Target.issueErase else s := by
  refine if_neg fun h => ?_
  rcases h with h | h | h
  · rw [hx] at h
    exact Bool.false_ne_true h
  · exact h ((Target.usable_iff _).mpr hst)
  · exact h ((Target.linkOpen_iff _).mpr he)

theorem State.beginWrite_eq {c : CommitEntry} {e : SegEntry} {b : Buffer} {p : TargetNo × Nat} {unit : Nat} {gather : Bool}
    (hc : s.commit.current = some c) (he : s.entry? c.segId = some e) (hp : e.place = some p)
    (hb : s.buffer? c.segId = some b) (hu : (s.target t).unitSize = some unit) (hg : (s.target t).gather = some gather) :
    s.beginWrite t = s.withTarget t { s.target t with
      waitWrite := false
      xfer := some { kind := .write, extent := p.2, first := 0, beats := (512 + e.payloadLen + unit - 1) / unit,
                     unitSize := unit, gather := gather, beat := 0, ackMs := (s.target t).ackMs, image := segmentImage e b,
                     cut := false } } := by
  unfold State.beginWrite State.committing
  rw [hc, Option.bind_some, he, hu, hg]
  dsimp only [Option.map_some]
  rw [hp, hb]
  rfl

theorem State.beginRead_eq {j : ReadJob} {unit : Nat} {gather : Bool} (hu : (s.target t).unitSize = some unit)
    (hg : (s.target t).gather = some gather) : s.beginRead t j = { s.withTarget t { s.target t with
        waitRead := none
        xfer := some { kind := .read, extent := j.extent, first := 0, beats := (512 + j.payloadLen + unit - 1) / unit,
                       unitSize := unit, gather := gather, beat := 0, ackMs := (s.target t).ackMs, image := [],
                       cut := false } }
      with audit := { s.audit with readBuffer := [] } } := by
  unfold State.beginRead
  rw [hu, hg]
  rfl

theorem Target.issueErase_cons {k : Target} {e : EraseEntry} {q : List EraseEntry} (hq : k.queue = e :: q) :
    k.issueErase = { k.withExtents e.extents .erasing with
      erase := some { state := .running, suspends := 0, timer := 0, timeout := e.timeout k.eraseSecs } } := by
  unfold Target.issueErase
  rw [hq]
  dsimp only
  rw [Target.setExtents_withExtents]

end

/-- Settles O29. -/
theorem arbiterOrder : Obligations.ArbiterOrder := by
  unfold Obligations.ArbiterOrder
  intro s t
  refine ⟨fun h => congrArg Host.Outcome.next (arbiterBegin_closed h), fun hx hst he =>
    ⟨fun c e b p unit gather hw hc hent hp hb hu hg => ?_, fun j unit gather hw hr hu hg => ?_, fun e q hw hr hno hq => ?_,
      fun hw hr hidle => ?_⟩⟩
  all_goals refine congrArg Host.Outcome.next ((arbiterBegin_open hx hst he).trans ?_)
  · rw [if_pos hw]
    exact State.beginWrite_eq hc hent hp hb hu hg
  all_goals
    rw [if_neg (by rw [hw]; exact Bool.false_ne_true), hr]
    dsimp only
  · exact State.beginRead_eq hu hg
  · rw [if_pos (by rw [hno]; rfl), State.onTarget_eq, Target.issueErase_cons hq]
    cases e <;> rfl
  · by_cases hno : (s.target t).erase = none
    · have hq := hidle.resolve_left fun hn => hn hno
      rw [if_pos (by rw [hno]; rfl), State.onTarget_eq, Target.issueErase, hq]
      exact s.withTarget_self t
    · exact if_neg (by simpa using hno)

/-! ### Answers out of place -/

theorem State.unexpectedAnswer_eq (s : State) (t : TargetNo) : s.unexpectedAnswer t
    = s.withTarget t { s.target t with unexpected := min ((s.target t).unexpected + 1) 4294967295 } := rfl

theorem State.lateAnswer_eq (s : State) (t : TargetNo) : s.lateAnswer t
    = if (s.target t).expired = 0 then
        s.withTarget t { s.target t with unexpected := min ((s.target t).unexpected + 1) 4294967295 }
      else s.withTarget t { s.target t with
        expired := (s.target t).expired - 1, late := min ((s.target t).late + 1) 4294967295 } := rfl

/-- Settles O34. -/
theorem answersOutOfPlace : Obligations.AnswersOutOfPlace := by
  unfold Obligations.AnswersOutOfPlace
  intro s t data
  refine ⟨fun i hi => ?_, fun i hi => ?_, fun hx => ⟨?_, ?_⟩, fun he => ⟨?_, ?_, ?_, ?_⟩⟩
  · simp only [List.mem_cons, List.not_mem_nil, or_false] at hi
    rcases hi with rfl | rfl | rfl | rfl | rfl | rfl <;> exact congrArg Host.Outcome.next (s.unexpectedAnswer_eq t)
  · simp only [List.mem_cons, List.not_mem_nil, or_false] at hi
    rcases hi with rfl | rfl | rfl | rfl | rfl | rfl <;> exact congrArg Host.Outcome.next (s.lateAnswer_eq t)
  · refine congrArg Host.Outcome.next (Eq.trans ?_ (s.unexpectedAnswer_eq t))
    show s.acceptBeat t data = _
    unfold State.acceptBeat
    rw [hx]
  · refine congrArg Host.Outcome.next (Eq.trans ?_ (s.unexpectedAnswer_eq t))
    show s.errorBeat t = _
    unfold State.errorBeat
    rw [hx]
  · exact congrArg Host.Outcome.next ((if_neg (by rw [he]; exact Bool.false_ne_true)).trans (s.unexpectedAnswer_eq t))
  · exact congrArg Host.Outcome.next ((if_neg (by rw [he]; exact Bool.false_ne_true)).trans (s.unexpectedAnswer_eq t))
  · refine congrArg Host.Outcome.next (Eq.trans ?_ (s.unexpectedAnswer_eq t))
    show s.takeSuspended t = _
    unfold State.takeSuspended
    rw [he]
  · refine congrArg Host.Outcome.next (Eq.trans ?_ (s.unexpectedAnswer_eq t))
    show s.takeResumed t = _
    unfold State.takeResumed
    rw [he]

end Sys2Proof.Machine
end

section
/-! Erases end (R105 to R108), beats of reads (R93 to R95), targets set and loaded (R85, R90, R101). -/

namespace Sys2Proof.Machine

/-! ### The end of an erase -/

theorem State.removeErased_eq {s : State} {t : TargetNo} {e : EraseEntry} {q : List EraseEntry}
    (hq : (s.target t).queue = e :: q) (st : ExtentState) (f : Target → Target) :
    (s.removeErased t e st).onTarget t f = { s.withTarget t
        (f { (s.target t).withExtents e.extents st with queue := q, erase := none }) with
      dir := s.dir.filter fun x => !e.segments.contains x.id } := by
  have hremoved : s.removeErased t e st = { s.withTarget t
        { (s.target t).withExtents e.extents st with queue := q, erase := none } with
      dir := s.dir.filter fun x => !e.segments.contains x.id } := by
    unfold State.removeErased
    rw [State.onTarget_eq, Target.setExtents_withExtents, hq]
    rfl
  have hsame : (s.removeErased t e st).target t
      = { (s.target t).withExtents e.extents st with queue := q, erase := none } := by
    rw [hremoved]
    exact s.target_withTarget_same t _
  rw [State.onTarget_eq, hsame, hremoved]
  exact congrArg (fun u : State => ({ u with dir := s.dir.filter fun x => !e.segments.contains x.id } : State))
    (s.withTarget_withTarget t _ _)

section
variable {s : State} {t : TargetNo} {y : EraseSlot} {e : EraseEntry} {q : List EraseEntry}

theorem State.eraseCompletes_eq (he : (s.target t).erase = some y) (hq : (s.target t).queue = e :: q) :
    s.eraseCompletes t = State.succeeded { s.withTarget t { (s.target t).withExtents e.extents .free with
        queue := q, erase := none, erasesDone := min ((s.target t).erasesDone + 1) 4294967295 } with
      dir := s.dir.filter fun z => !e.segments.contains z.id
      expiry := { s.expiry with
        erased := min (s.expiry.erased + (s.dir.filter fun z => e.segments.contains z.id).length) 4294967295 } } t := by
  unfold State.eraseCompletes
  rw [he, hq]
  dsimp only
  simp only [satAdd_eq]
  rw [State.removeErased_eq hq, State.faultClear_eq]
  exact (State.aside_succeeded _ t (fun c => c) fun x => { x with
    erased := min (x.erased + (s.dir.filter fun z => e.segments.contains z.id).length) 4294967295 }).symm

theorem State.foldl_recorded_books (s : State) (es : List AuditEvent) :
    es.foldl State.recorded s = s.withBooks (es.foldl State.recorded s) :=
  State.withBooks_foldl_recorded s s es

theorem State.eraseFails_failedTo (he : (s.target t).erase = some y) (hq : (s.target t).queue = e :: q) (c : Cause) :
    s.EraseFailedTo t e q c (s.eraseFails t c) := by
  unfold State.EraseFailedTo State.eraseFails
  rw [he, hq]
  dsimp only
  simp only [satAdd_eq]
  rw [State.removeErased_eq hq, State.faultUp_eq, State.raiseAll_eq]
  have hevents : (s.presentMembers e).map (State.eraseFailedEvent { s.withTarget t
        { (s.target t).withExtents e.extents .bad with
          queue := q, erase := none, eraseFails := min ((s.target t).eraseFails + 1) 4294967295 } with
        dir := s.dir.filter fun x => !e.segments.contains x.id } t c)
      = (s.dir.filter fun z => e.segments.contains z.id).map fun z =>
        { code := .eraseFailed, state := .point, cause := some c, source := none, day := some z.day, slot := none,
          segId := some z.id, target := some t.val, figure := some z.cls.val, time := s.clock.reading } := rfl
  refine (congrArg (fun es => (State.faultOn (List.foldl State.recorded _ es) t).onExpiry _) hevents).trans ?_
  refine (State.aside_faultOn _ t (fun x => x) fun x => { x with
    failed := min (x.failed + (s.presentMembers e).length) 4294967295 }).symm.trans (congrArg (State.faultOn · t) ?_)
  generalize (s.dir.filter fun z => e.segments.contains z.id).map _ = es
  have hbooks := State.withBooks_foldl_recorded ({ s.withTarget t
        { (s.target t).withExtents e.extents .bad with
          queue := q, erase := none, eraseFails := min ((s.target t).eraseFails + 1) 4294967295 } with
        dir := s.dir.filter fun x => !e.segments.contains x.id } : State) s es
  refine (congrArg (fun u : State => u.aside (fun x => x) fun x => { x with
    failed := min (x.failed + (s.presentMembers e).length) 4294967295 }) hbooks).trans ?_
  have hkept := State.foldl_recorded_books s es
  generalize es.foldl State.recorded s = u at hkept ⊢
  exact (congrArg (fun v : State => ({ v with
    dir := s.dir.filter fun z => !e.segments.contains z.id
    targets := vset s.targets t { (s.target t).withExtents e.extents .bad with
      queue := q, erase := none, eraseFails := min ((s.target t).eraseFails + 1) 4294967295 }
    expiry := { s.expiry with
      failed := min (s.expiry.failed + (s.dir.filter fun z => e.segments.contains z.id).length) 4294967295 } } : State))
    hkept).symm

end

/-- Settles O35. -/
theorem eraseCompletes : Obligations.EraseCompletes := by
  unfold Obligations.EraseCompletes
  intro s t y e q he hq
  have hexec : exec (.eraseDone t .live) s = .next (s.eraseCompletes t) :=
    congrArg Host.Outcome.next (if_pos (by rw [he]; rfl))
  rw [State.eraseCompletes_eq he hq] at hexec
  refine ⟨hexec, fun hst => hexec.trans (congrArg Host.Outcome.next ?_)⟩
  have hsame : ∀ (v : Target) (d : List SegEntry) (x : Expiry),
      State.target { s.withTarget t v with dir := d, expiry := x } t = v := fun v d x => s.target_withTarget_same t v
  by_cases hoff : (s.target t).state = .offline
  · rw [State.succeeded_offline (by rw [hsame]; exact hoff)]
    refine (State.withTarget_self _ t).symm.trans (congrArg (State.withTarget _ t) ?_)
    rw [hsame]
    simp only [hoff, if_true]
    rfl
  · rw [State.succeeded_other (by rw [hsame]; exact hoff) (by rw [hsame]; exact hst), if_neg hoff]

/-- Settles O36. -/
theorem eraseFails : Obligations.EraseFails := by
  unfold Obligations.EraseFails
  intro s t y e q he hq
  refine ⟨⟨_, congrArg Host.Outcome.next (if_pos (by rw [he]; rfl)), State.eraseFails_failedTo he hq .error⟩,
    fun hdue => ⟨_, congrArg Host.Outcome.next (if_pos ?_), State.eraseFails_failedTo he hq .timeout⟩,
    fun hnot => congrArg Host.Outcome.next (if_neg ?_), fun hasks => ⟨_, congrArg Host.Outcome.next (if_pos ?_), ?_⟩,
    fun hidle => congrArg Host.Outcome.next (if_neg ?_)⟩
  · rw [he]
    simpa [EraseSlot.overdue] using hdue
  · rw [he]
    simpa [EraseSlot.overdue] using hnot
  · rw [he]
    simpa [EraseSlot.asks] using hasks
  · have hsame := s.target_withTarget_same t { s.target t with expired := (s.target t).expired + 1 }
    exact State.eraseFails_failedTo (y := y) (by rw [hsame]; exact he) (by rw [hsame]; exact hq) .timeout
  · rw [he]
    rcases hidle with h | h <;> simp [EraseSlot.asks, h]

/-! ### SUSPENDED and RESUMED -/

theorem Target.pokeErase_suspended {k : Target} {y : EraseSlot} (he : k.erase = some y) (hst : y.state = .suspended) :
    k.pokeErase = if k.state = .offline ∨ ¬ (k.waitWrite = true ∨ k.waitRead ≠ none) ∧ k.xfer = none then
      { k with erase := some { y with state := .resumeRequested } } else k := by
  simp only [Target.pokeErase, k.waits_iff]
  rw [he]
  dsimp only
  rw [hst]

theorem Target.pokeErase_running {k : Target} {y : EraseSlot} (he : k.erase = some y) (hst : y.state = .running) :
    k.pokeErase = if (k.waitWrite = true ∨ k.waitRead ≠ none) ∧ y.suspends < 8 then
      { k with erase := some { y with state := .suspendRequested } } else k := by
  simp only [Target.pokeErase, k.waits_iff]
  rw [he]
  dsimp only
  rw [hst]

section
variable {s : State} {t : TargetNo} {y : EraseSlot}

theorem State.takeSuspended_asked (he : (s.target t).erase = some y) (hst : y.state = .suspendRequested) :
    s.takeSuspended t = s.withTarget t (Target.suspendedBy y (s.target t)).pokeErase := by
  unfold State.takeSuspended
  rw [he]
  exact (if_pos hst).trans (State.onTarget_withTarget s t _ _)

theorem State.takeSuspended_unasked (he : (s.target t).erase = some y) (hst : y.state ≠ .suspendRequested) :
    s.takeSuspended t = s.unexpectedAnswer t := by
  unfold State.takeSuspended
  rw [he]
  exact if_neg hst

theorem State.takeResumed_asked (he : (s.target t).erase = some y) (hst : y.state = .resumeRequested) :
    s.takeResumed t = s.withTarget t
      (Target.pokeErase { s.target t with erase := some { y with state := .running } }) := by
  unfold State.takeResumed
  rw [he]
  exact (if_pos hst).trans (State.onTarget_withTarget s t _ _)

theorem State.takeResumed_unasked (he : (s.target t).erase = some y) (hst : y.state ≠ .resumeRequested) :
    s.takeResumed t = s.unexpectedAnswer t := by
  unfold State.takeResumed
  rw [he]
  exact if_neg hst

end

/-- Settles O37. -/
theorem suspendAndResume : Obligations.SuspendAndResume := by
  unfold Obligations.SuspendAndResume
  intro s t y he
  refine ⟨fun hst => ⟨fun hstay => ?_, fun hgo => ?_⟩, fun hst => ⟨fun hagain => ?_, fun hrun => ?_⟩, fun hst => ?_,
    fun hst => ?_⟩
  · refine congrArg Host.Outcome.next ((State.takeSuspended_asked he hst).trans (congrArg (s.withTarget t) ?_))
    refine (Target.pokeErase_suspended (k := Target.suspendedBy y (s.target t)) rfl rfl).trans (if_neg fun hc => ?_)
    rcases hc with hoff | ⟨hw, hx⟩
    · exact hstay.1 hoff
    · exact hstay.2.elim hw fun h => h hx
  · refine congrArg Host.Outcome.next ((State.takeSuspended_asked he hst).trans (congrArg (s.withTarget t) ?_))
    exact (Target.pokeErase_suspended (k := Target.suspendedBy y (s.target t)) rfl rfl).trans (if_pos hgo)
  · refine congrArg Host.Outcome.next ((State.takeResumed_asked he hst).trans (congrArg (s.withTarget t) ?_))
    exact (Target.pokeErase_running (k := { s.target t with erase := some { y with state := .running } }) rfl rfl).trans
      (if_pos hagain)
  · refine congrArg Host.Outcome.next ((State.takeResumed_asked he hst).trans (congrArg (s.withTarget t) ?_))
    refine (Target.pokeErase_running (k := { s.target t with erase := some { y with state := .running } }) rfl rfl).trans
      (if_neg fun hc => ?_)
    rcases hrun with hw | hs
    · exact hw hc.1
    · have := hc.2
      have : y.suspends < 8 := this
      omega
  · exact congrArg Host.Outcome.next ((State.takeSuspended_unasked he hst).trans (s.unexpectedAnswer_eq t))
  · exact congrArg Host.Outcome.next ((State.takeResumed_unasked he hst).trans (s.unexpectedAnswer_eq t))

/-! ### Beats of a read -/

theorem State.imageRead_verify {s : State} {r : Request} {rs : List Request} (h : s.audit.requests = r :: rs)
    (hk : r.kind = .verify) : s.imageRead = s.toCoder := by
  unfold State.imageRead
  rw [h]
  dsimp only
  rw [hk]

theorem State.succeeded_audit (s : State) (t : TargetNo) : (s.succeeded t).audit = s.audit := by
  unfold State.succeeded
  dsimp only
  split
  · rfl
  · split <;> rfl

theorem State.readFail_eq (s : State) (t : TargetNo) {c : ReadCause} (hc : c ≠ .offline) : s.readFail t c
    = ((State.faultOn (s.withTarget t { s.target t with
        xfer := none, readFails := min ((s.target t).readFails + 1) 4294967295 }) t).readFailed c.number).eraseChecked t := by
  unfold State.readFail
  dsimp only
  rw [if_neg hc, State.pokeErase_eq, State.finishRequest_readFail, State.faultUp_eq, State.onTarget_eq s,
    State.onTarget_withTarget]
  rfl

theorem State.readFail_offline (s : State) (t : TargetNo) : s.readFail t .offline
    = ((s.withTarget t { s.target t with xfer := none }).readFailed 3).eraseChecked t := by
  unfold State.readFail
  dsimp only
  rw [if_pos rfl, State.pokeErase_eq, State.finishRequest_readFail]
  rfl

theorem State.readComplete_verify {s : State} {t : TargetNo} {r : Request} {rs : List Request}
    (h : s.audit.requests = r :: rs) (hk : r.kind = .verify) : s.readComplete t
      = (((s.withTarget t { s.target t with xfer := none }).succeeded t).toCoder).eraseChecked t := by
  unfold State.readComplete
  rw [State.pokeErase_eq, State.faultClear_eq, State.onTarget_eq, State.imageRead_verify (r := r) (rs := rs) ?_ hk]
  rw [State.succeeded_audit]
  exact h

section
variable {s : State} {t : TargetNo} {x : Xfer} {data : List Byte}

theorem beatAccept_write (hx : (s.target t).xfer = some x) (hk : x.kind = .write) :
    beatAccept t .live data s = s.writeBeat t x := by
  show s.acceptBeat t data = _
  unfold State.acceptBeat
  rw [hx]
  dsimp only
  rw [hk]

theorem beatAccept_read (hx : (s.target t).xfer = some x) (hk : x.kind = .read) (hlen : data.length = x.unitSize) :
    beatAccept t .live data s = s.readBeat t x data := by
  show s.acceptBeat t data = _
  unfold State.acceptBeat
  rw [hx]
  dsimp only
  rw [hk]
  exact if_pos hlen

theorem beatError_live (hx : (s.target t).xfer = some x) : beatError t .live s = s.failBeat t x .error := by
  show s.errorBeat t = _
  unfold State.errorBeat
  rw [hx]

theorem ackTimerExpiry_beat (hx : (s.target t).xfer = some x) :
    ackTimerExpiry t .beat s = (s.withTarget t { s.target t with expired := (s.target t).expired + 1 }).failBeat t x .timeout := by
  unfold ackTimerExpiry
  rw [hx]
  rfl

theorem State.failBeat_read (hk : x.kind = .read) (c : ReadCause) :
    s.failBeat t x c = s.readFail t (if x.cut then .offline else c) := by
  unfold State.failBeat
  rw [hk]

theorem State.failBeat_write (hk : x.kind = .write) (c : ReadCause) : s.failBeat t x c = s.writeFailure t x.extent := by
  unfold State.failBeat
  rw [hk]

end

/-- Settles O30. -/
theorem beatsOfATransfer : Obligations.BeatsOfATransfer := by
  unfold Obligations.BeatsOfATransfer
  intro s t x data hx
  refine ⟨fun hmid => ⟨fun hk => ?_, fun hk hcut hlen => ?_⟩, fun r rs hlast hk hcut hlen hr hkind => ?_, fun hk =>
    ⟨fun hcut => ⟨?_, ?_⟩, fun hcut => ⟨?_, ?_, fun hlen => ?_⟩⟩⟩
  · exact congrArg Host.Outcome.next ((beatAccept_write hx hk).trans (if_pos hmid))
  · refine congrArg Host.Outcome.next ((beatAccept_read hx hk hlen).trans ?_)
    unfold State.readBeat
    rw [if_neg (by rw [hcut]; exact Bool.false_ne_true)]
    exact if_pos hmid
  · refine congrArg Host.Outcome.next ((beatAccept_read hx hk hlen).trans ?_)
    unfold State.readBeat
    rw [if_neg (by rw [hcut]; exact Bool.false_ne_true)]
    refine (if_neg (Nat.not_lt.mpr hlast)).trans ?_
    have hbuffer : (s.onAudit fun a => { a with readBuffer := a.readBuffer ++ data }).withTarget t
        { (s.onAudit fun a => { a with readBuffer := a.readBuffer ++ data }).target t with xfer := none }
        = { s.withTarget t { s.target t with xfer := none } with
            audit := { s.audit with readBuffer := s.audit.readBuffer ++ data } } := rfl
    rw [State.readComplete_verify (r := r) (rs := rs) (by exact hr) hkind, hbuffer]
    rfl
  · refine congrArg Host.Outcome.next ((beatError_live hx).trans ?_)
    rw [State.failBeat_read hk, if_neg (by rw [hcut]; exact Bool.false_ne_true), State.readFail_eq _ _ (by decide)]
    rfl
  · refine congrArg Host.Outcome.next ((ackTimerExpiry_beat hx).trans ?_)
    rw [State.failBeat_read hk, if_neg (by rw [hcut]; exact Bool.false_ne_true), State.readFail_eq _ _ (by decide),
      State.target_withTarget_same, State.withTarget_withTarget]
    rfl
  · refine congrArg Host.Outcome.next ((beatError_live hx).trans ?_)
    rw [State.failBeat_read hk, if_pos hcut, State.readFail_offline]
    rfl
  · refine congrArg Host.Outcome.next ((ackTimerExpiry_beat hx).trans ?_)
    rw [State.failBeat_read hk, if_pos hcut, State.readFail_offline, State.target_withTarget_same,
      State.withTarget_withTarget]
  · refine congrArg Host.Outcome.next ((beatAccept_read hx hk hlen).trans ?_)
    unfold State.readBeat
    rw [if_pos hcut, State.readFail_offline]
    rfl

end Sys2Proof.Machine
end

section
/-! The write of a commit succeeds or fails (R99, R100). -/

namespace Sys2Proof.Machine

/-! ### What each step of a write's end leaves alone -/

section
variable (s : State) (t : TargetNo)

theorem State.flowTested_rest : s.flowTested = { s with port := s.flowTested.port } := by
  unfold State.flowTested
  dsimp only
  split
  · split <;> rfl
  · split <;> rfl

theorem State.flushCounts_rest (id stored stranded discarded : Nat) : s.flushCounts id stored stranded discarded
    = { s with
        port := (s.flushCounts id stored stranded discarded).port
        builder := { s.builder with flush := (s.flushCounts id stored stranded discarded).builder.flush } } := by
  unfold State.flushCounts
  split
  · rfl
  · split
    · rfl
    · dsimp only
      split <;> rfl

theorem State.succeeded_rest : s.succeeded t = { s with
    targets := (s.succeeded t).targets, commit := (s.succeeded t).commit, dir := (s.succeeded t).dir } := by
  unfold State.succeeded
  dsimp only
  split
  · rfl
  · split <;> rfl

theorem State.strandedReturned_entry? {id : Nat} {e : SegEntry} (he : s.entry? id = some e) (hst : e.state ≠ .stranded) :
    s.strandedReturned.entry? id = some e := by
  show (s.dir.map _).find? _ = _
  rw [find?_map_of_keeps (fun e => by split <;> rfl)]
  unfold State.entry? at he
  rw [he, Option.map_some, if_neg hst]

theorem State.succeeded_entry? {id : Nat} {e : SegEntry} (he : s.entry? id = some e) (hst : e.state ≠ .stranded) :
    (s.succeeded t).entry? id = some e := by
  unfold State.succeeded
  dsimp only
  split
  · exact he
  · split
    · exact State.strandedReturned_entry? _ he hst
    · exact he

theorem State.succeeded_target (hst : (s.target t).state = .online ∨ (s.target t).state = .degraded) :
    (s.succeeded t).target t = { s.target t with state := .online, faults := 0 } := by
  rcases hst with hst | hst
  · rw [State.succeeded_other (by rw [hst]; decide) (by rw [hst]; decide), State.target_withTarget_same, ← hst]
  · rw [State.succeeded_degraded hst]
    exact s.target_withTarget_same t _

theorem State.succeeded_target_of_ne {v : TargetNo} (hv : v ≠ t) : (s.succeeded t).target v = s.target v := by
  have hset (k : Target) : (s.withTarget t k).target v = s.target v := by rw [State.target_withTarget, if_neg hv]
  unfold State.succeeded
  dsimp only
  split
  · rfl
  · split
    · exact hset _
    · exact hset _

theorem State.eraseChecked_target : ∃ x, (s.eraseChecked t).target t = { s.target t with erase := x } :=
  ⟨_, s.target_withTarget_same t _⟩

theorem State.eraseChecked_target_of_ne {v : TargetNo} (hv : v ≠ t) : (s.eraseChecked t).target v = s.target v := by
  unfold State.eraseChecked
  dsimp only
  rw [State.target_withTarget, if_neg hv]

end

/-- The state with the blocks that a write's end touches taken from another. -/
def State.withLinkWork (s u : State) : State :=
  { s with
    port := u.port, builder := u.builder, dir := u.dir, commit := u.commit, targets := u.targets, audit := u.audit
    notices := u.notices }

/-- `t` comes from `s` by changes of the blocks that a write's end touches. -/
def State.LinkWork (s t : State) : Prop := t = s.withLinkWork t

theorem State.LinkWork.trans {s t u : State} (h : s.LinkWork t) (h' : t.LinkWork u) : s.LinkWork u := calc
  u = t.withLinkWork u := h'
  _ = (s.withLinkWork t).withLinkWork u := congrArg (State.withLinkWork · u) h

theorem State.LinkWork.flowTested (s : State) : s.LinkWork s.flowTested := by
  unfold State.flowTested
  dsimp only
  split
  · split <;> rfl
  · split <;> rfl

theorem State.LinkWork.flushCounts (s : State) (id a b c) : s.LinkWork (s.flushCounts id a b c) := by
  unfold State.flushCounts
  split
  · rfl
  · split
    · rfl
    · dsimp only
      split <;> rfl

theorem State.LinkWork.succeeded (s : State) (t) : s.LinkWork (s.succeeded t) := by
  unfold State.succeeded
  dsimp only
  split
  · rfl
  · split <;> rfl

theorem State.LinkWork.recorded (s : State) (e) : s.LinkWork (s.recorded e) := rfl
theorem State.LinkWork.pended (s : State) (i x) : s.LinkWork (s.pended i x) := rfl
theorem State.LinkWork.eraseChecked (s : State) (t) : s.LinkWork (s.eraseChecked t) := rfl

/-! ### A write succeeds -/

/-- R99: the write's extent WRITTEN, the entry STORED in its place, the buffer free. -/
def State.stored (s : State) (t : TargetNo) (x id : Nat) : State :=
  { s.withTarget t { s.target t with map := (s.target t).map.map fun m => m.set x .written, xfer := none } with
    dir := s.dir.map fun y => if y.id = id then { y with state := .stored } else y
    builder := { s.builder with buffers := s.builder.buffers.filter fun b => b.segId ≠ id } }

/-- R99: the STRANDED CLOSED of a segment that was stranded before. -/
def State.strandedClosed (s : State) (c : CommitEntry) : State :=
  if c.strandedBefore then s.recorded
    { code := .stranded, state := .closed, cause := none, source := none, day := none, slot := none,
      segId := some c.segId, target := none, figure := none, time := s.clock.reading } else s

/-- R99: what the success of a write leaves. -/
def State.writeDone (s : State) (t : TargetNo) (x : Nat) (c : CommitEntry) : State :=
  let counted := (((s.stored t x c.segId).flowTested.succeeded t).strandedClosed c).flushCounts c.segId 1 0 0
  ({ counted with commit := { counted.commit with current := none } } : State).eraseChecked t

theorem State.closeStranded_eq (s : State) (c : CommitEntry) : s.closeStranded c = s.strandedClosed c := by
  unfold State.closeStranded State.strandedClosed
  split
  · exact State.raise_eq _ _
  · rfl

theorem State.writeSuccess_eq {s : State} {c : CommitEntry} (hc : s.commit.current = some c) (t : TargetNo) (x : Nat) :
    s.writeSuccess t x = s.writeDone t x c := by
  have hstored : ((s.onTarget t fun k => { k.setExtent x .written with xfer := none }).onEntry c.segId
      fun e => { e with state := .stored }).freeBuffer c.segId = s.stored t x c.segId := rfl
  unfold State.writeSuccess
  dsimp only
  rw [show (s.onTarget t fun k => { k.setExtent x .written with xfer := none }).commit.current = some c from hc]
  dsimp only
  rw [hstored, State.pokeErase_eq, State.flushEnd_eq, State.closeStranded_eq, State.faultClear_eq, State.checkFlow_eq]
  rfl

theorem State.strandedClosed_rest (s : State) (c : CommitEntry) :
    s.strandedClosed c = { s with audit := (s.strandedClosed c).audit, notices := (s.strandedClosed c).notices } := by
  unfold State.strandedClosed
  split <;> rfl

/-- What a write's success changes. -/
theorem State.LinkWork.writeDone (s : State) (t : TargetNo) (x : Nat) (c : CommitEntry) : s.LinkWork (s.writeDone t x c) := by
  have hstored : s.LinkWork (s.stored t x c.segId) := rfl
  have hclosed (u : State) : u.LinkWork (u.strandedClosed c) := by
    unfold State.strandedClosed
    split <;> rfl
  have hidle (u : State) : u.LinkWork { u with commit := { u.commit with current := none } } := rfl
  exact hstored.trans <| (flowTested _).trans <| (succeeded _ t).trans <| (hclosed _).trans <|
    (flushCounts _ c.segId 1 0 0).trans <| (hidle _).trans (eraseChecked _ t)

section
variable (s : State) (t : TargetNo) (x : Nat) (c : CommitEntry)

theorem State.writeDone_dir : (s.writeDone t x c).dir = ((s.stored t x c.segId).flowTested.succeeded t).dir := by
  unfold State.writeDone
  dsimp only
  rw [State.flushCounts_rest, State.strandedClosed_rest]
  rfl

theorem State.writeDone_buffers : (s.writeDone t x c).builder.buffers
    = s.builder.buffers.filter fun b => b.segId ≠ c.segId := by
  have hup (u : State) : (((u.flowTested.succeeded t).strandedClosed c).flushCounts c.segId 1 0 0).builder.buffers
      = u.builder.buffers := by
    rw [State.flushCounts_rest]
    show ((u.flowTested.succeeded t).strandedClosed c).builder.buffers = _
    rw [State.strandedClosed_rest]
    show (u.flowTested.succeeded t).builder.buffers = _
    rw [State.succeeded_rest]
    show u.flowTested.builder.buffers = _
    rw [State.flowTested_rest]
  exact hup (s.stored t x c.segId)

theorem State.writeDone_commit : (s.writeDone t x c).commit
    = { ((s.stored t x c.segId).flowTested.succeeded t).commit with current := none } := by
  unfold State.writeDone
  dsimp only
  rw [State.flushCounts_rest, State.strandedClosed_rest]
  rfl

theorem State.writeDone_target : ∃ y, (s.writeDone t x c).target t
    = { ((s.stored t x c.segId).flowTested.succeeded t).target t with erase := y } := by
  unfold State.writeDone
  dsimp only
  rw [State.flushCounts_rest, State.strandedClosed_rest]
  exact State.eraseChecked_target _ t

theorem State.writeDone_target_of_ne {v : TargetNo} (hv : v ≠ t) : (s.writeDone t x c).target v = s.target v := by
  unfold State.writeDone
  dsimp only
  rw [State.flushCounts_rest, State.strandedClosed_rest, State.eraseChecked_target_of_ne _ _ hv]
  refine (State.succeeded_target_of_ne _ t hv).trans ?_
  rw [State.flowTested_rest]
  exact (State.target_withTarget s t v _).trans (if_neg hv)

theorem State.stored_flowTested_target : (s.stored t x c.segId).flowTested.target t
    = { s.target t with map := (s.target t).map.map fun m => m.set x .written, xfer := none } := by
  rw [State.flowTested_rest]
  exact s.target_withTarget_same t _

/-- R99, R89: the target after its write has succeeded. -/
theorem State.writeDone_target_up (hst : (s.target t).state = .online ∨ (s.target t).state = .degraded) :
    ∃ y, (s.writeDone t x c).target t = { s.target t with
      map := (s.target t).map.map fun m => m.set x .written, xfer := none, state := .online, faults := 0, erase := y } := by
  obtain ⟨y, htarget⟩ := s.writeDone_target t x c
  have hstored := s.stored_flowTested_target t x c
  rw [State.succeeded_target _ _ (by rw [hstored]; exact hst), hstored] at htarget
  exact ⟨y, htarget⟩

theorem State.writeDone_target_offline (hst : (s.target t).state = .offline) :
    ∃ y, (s.writeDone t x c).target t = { s.target t with
      map := (s.target t).map.map fun m => m.set x .written, xfer := none, erase := y } := by
  obtain ⟨y, htarget⟩ := s.writeDone_target t x c
  have hstored := s.stored_flowTested_target t x c
  rw [State.succeeded_offline (by rw [hstored]; exact hst), hstored] at htarget
  exact ⟨y, htarget⟩

theorem State.writeDone_queue_offline (hst : (s.target t).state = .offline) :
    (s.writeDone t x c).commit.queue = s.commit.queue := by
  have hstored := s.stored_flowTested_target t x c
  rw [State.writeDone_commit, State.succeeded_offline (by rw [hstored]; exact hst), State.flowTested_rest]
  rfl

theorem State.writeDone_buffer? : (s.writeDone t x c).buffer? c.segId = none := by
  unfold State.buffer?
  rw [State.writeDone_buffers, List.find?_eq_none]
  intro b hb
  simpa using (List.mem_filter.mp hb).2

theorem State.writeDone_buffer?_of_ne {id : Nat} (hid : id ≠ c.segId) :
    (s.writeDone t x c).buffer? id = s.buffer? id := by
  unfold State.buffer?
  rw [State.writeDone_buffers, List.find?_filter]
  congr 1
  funext b
  by_cases hb : b.segId = id
  · simp [hb, hid]
  · simp [hb]

theorem State.writeDone_entry? {e : SegEntry} (he : s.entry? c.segId = some e) :
    (s.writeDone t x c).entry? c.segId = some { e with state := .stored } := by
  have hstored : (s.stored t x c.segId).flowTested.entry? c.segId = some { e with state := .stored } := by
    rw [State.flowTested_rest]
    exact (State.entry?_onEntry_same s c.segId (f := fun e => { e with state := .stored }) fun _ => rfl).trans (by rw [he]; rfl)
  have hkept := State.succeeded_entry? _ t hstored (by exact fun hc => nomatch hc)
  unfold State.entry? at hkept ⊢
  rw [State.writeDone_dir]
  exact hkept

end

/-- Settles O31. -/
theorem writeSucceeds : Obligations.WriteSucceeds := by
  unfold Obligations.WriteSucceeds
  intro s t x data c e hx hk hlast hc he
  have hexec : exec (.beatAccept t .live data) s = .next (s.writeDone t x.extent c) :=
    congrArg Host.Outcome.next ((beatAccept_write hx hk).trans ((if_neg (Nat.not_lt.mpr hlast)).trans
      (State.writeSuccess_eq hc t x.extent)))
  have hentry := State.writeDone_entry? s t x.extent c he
  refine ⟨hexec.trans (congrArg Host.Outcome.next ?_), fun hst => ?_, fun hst => ?_⟩
  · have hclock : ((s.stored t x.extent c.segId).flowTested.succeeded t).clock = s.clock := by
      rw [State.succeeded_rest, State.flowTested_rest]
      rfl
    unfold State.writeDone State.strandedClosed
    rw [hclock]
    rfl
  · obtain ⟨y, htarget⟩ := s.writeDone_target_up t x.extent c hst
    refine ⟨_, hexec, ?_, ?_, ?_, ?_, hentry, s.writeDone_buffer? t x.extent c,
      fun id hid => s.writeDone_buffer?_of_ne t x.extent c hid, ?_,
      fun v hv => s.writeDone_target_of_ne t x.extent c hv, State.LinkWork.writeDone s t x.extent c⟩
    case refine_5 => rw [State.writeDone_commit]
    all_goals rw [htarget]
  · obtain ⟨y, htarget⟩ := s.writeDone_target_offline t x.extent c hst
    refine ⟨_, hexec, ?_, ?_, s.writeDone_queue_offline t x.extent c hst, hentry⟩
    · rw [htarget]
      exact hst
    · rw [htarget]

end Sys2Proof.Machine
end

section
/-! The write of a commit fails (R100). -/

namespace Sys2Proof.Machine

/-! ### What a fault of a target leaves alone -/

theorem State.LinkWork.commitWithdrawn (s : State) (t) : s.LinkWork (s.commitWithdrawn t) := by
  unfold State.commitWithdrawn
  split <;> rfl

theorem State.LinkWork.requestEnds (s : State) (r rs result figures) : s.LinkWork (s.requestEnds r rs result figures) := by
  unfold State.requestEnds
  dsimp only
  split <;> rfl

theorem State.LinkWork.readFailed (s : State) (cause) : s.LinkWork (s.readFailed cause) := by
  unfold State.readFailed
  split
  · rfl
  · exact requestEnds s _ _ _ _

theorem State.LinkWork.wentOffline (s : State) (t) : s.LinkWork (s.wentOffline t) := by
  unfold State.wentOffline
  dsimp only
  generalize ha : State.pended (s.withTarget t _) 3 _ = a
  have hpended : s.LinkWork a := ha ▸ rfl
  have hcommit : s.LinkWork (if (s.target t).waitWrite then a.commitWithdrawn t else a) := by
    split
    · exact hpended.trans (commitWithdrawn a t)
    · exact hpended
  split
  · exact hcommit
  · exact hcommit.trans (readFailed _ 3)

theorem State.LinkWork.faultOn (s : State) (t) : s.LinkWork (s.faultOn t) := by
  by_cases hoff : (s.target t).state = .offline
  · rw [State.faultOn_offline hoff]
    rfl
  by_cases hf : (s.target t).faults + 1 < 3
  · rw [State.faultOn_few hoff hf]
    rfl
  · rw [State.faultOn_third hoff hf]
    have hset : s.LinkWork (s.withTarget t { s.target t with faults := (s.target t).faults + 1 }) := rfl
    exact hset.trans (wentOffline _ t)

/-- The commit attempts of the entry of an id. -/
def State.attempts? (s : State) (id : Nat) : Option Nat := (s.entry? id).map SegEntry.attempts

theorem State.attempts?_map {s u : State} {f : SegEntry → SegEntry} (hf : ∀ e, (f e).id = e.id ∧ (f e).attempts = e.attempts)
    (hu : u.dir = s.dir.map f) (id : Nat) : u.attempts? id = s.attempts? id := by
  unfold State.attempts? State.entry?
  rw [hu, find?_map_of_keeps (fun e => by rw [(hf e).1]), Option.map_map]
  exact Option.map_congr fun e _ => (hf e).2

theorem State.commitWithdrawn_attempts? (s : State) (t id) : (s.commitWithdrawn t).attempts? id = s.attempts? id := by
  unfold State.commitWithdrawn
  split
  · rfl
  · exact State.attempts?_map (fun e => by split <;> exact ⟨rfl, rfl⟩) rfl id

theorem State.requestEnds_attempts? (s : State) (r rs result figures id) :
    (s.requestEnds r rs result figures).attempts? id = s.attempts? id := by
  have hdone : (s.requestDone r rs).attempts? id = s.attempts? id :=
    State.attempts?_map (f := fun y => if y.id = r.segId then { y with pins := y.pins - 1 } else y)
      (fun e => by split <;> exact ⟨rfl, rfl⟩) rfl id
  unfold State.requestEnds
  dsimp only
  split <;> exact hdone

theorem State.readFailed_attempts? (s : State) (cause id) : (s.readFailed cause).attempts? id = s.attempts? id := by
  unfold State.readFailed
  split
  · rfl
  · exact State.requestEnds_attempts? s _ _ _ _ id

theorem State.wentOffline_attempts? (s : State) (t id) : (s.wentOffline t).attempts? id = s.attempts? id := by
  unfold State.wentOffline
  dsimp only
  generalize ha : State.pended (s.withTarget t _) 3 _ = a
  have hpended : a.attempts? id = s.attempts? id := ha ▸ rfl
  have hcommit : (if (s.target t).waitWrite then a.commitWithdrawn t else a).attempts? id = s.attempts? id := by
    split
    · exact (a.commitWithdrawn_attempts? t id).trans hpended
    · exact hpended
  split
  · exact hcommit
  · exact (State.readFailed_attempts? _ 3 id).trans hcommit

theorem State.faultOn_attempts? (s : State) (t id) : (s.faultOn t).attempts? id = s.attempts? id := by
  by_cases hoff : (s.target t).state = .offline
  · rw [State.faultOn_offline hoff]
  by_cases hf : (s.target t).faults + 1 < 3
  · rw [State.faultOn_few hoff hf]
    rfl
  · rw [State.faultOn_third hoff hf, State.wentOffline_attempts?]
    rfl

theorem State.requestEnds_commit (s : State) (r rs result figures) :
    (s.requestEnds r rs result figures).commit = s.commit := by
  unfold State.requestEnds
  dsimp only
  split <;> rfl

theorem State.readFailed_commit (s : State) (cause) : (s.readFailed cause).commit = s.commit := by
  unfold State.readFailed
  split
  · rfl
  · exact State.requestEnds_commit s _ _ _ _

theorem State.wentOffline_commit {s : State} {t : TargetNo} (hw : (s.target t).waitWrite = false) :
    (s.wentOffline t).commit = s.commit := by
  have hidle : ¬ (s.target t).waitWrite = true := by
    rw [hw]
    exact Bool.false_ne_true
  unfold State.wentOffline
  dsimp only
  rw [if_neg hidle]
  split
  · rfl
  · exact State.readFailed_commit _ 3

/-- With no write waiting, a fault leaves the Commit Engine alone. -/
theorem State.faultOn_commit {s : State} {t : TargetNo} (hw : (s.target t).waitWrite = false) :
    (s.faultOn t).commit = s.commit := by
  by_cases hoff : (s.target t).state = .offline
  · rw [State.faultOn_offline hoff]
  by_cases hf : (s.target t).faults + 1 < 3
  · rw [State.faultOn_few hoff hf]
    rfl
  · rw [State.faultOn_third hoff hf, State.wentOffline_commit]
    · rfl
    · rw [State.target_withTarget_same]
      exact hw

/-! ### A write fails -/

/-- R100 steps 1 and 2: the extent BAD, the entry out of it, the failure and a fault of the target counted. -/
def State.writeLost (s : State) (t : TargetNo) (x id : Nat) : State :=
  State.faultOn { s.withTarget t { s.target t with
      map := (s.target t).map.map fun m => m.set x .bad
      xfer := none, writeFails := min ((s.target t).writeFails + 1) 4294967295 } with
    dir := s.dir.map fun y => if y.id = id then { y with place := none } else y } t

/-- R100 step 3: the attempt counted, and the entry's new state. -/
def State.attempted (s : State) (id n : Nat) (st : SegState) : State :=
  { s with dir := s.dir.map fun y => if y.id = id then { y with state := st, attempts := n } else y }

/-- R100 step 5: the event and the notice of a segment STRANDED, which a waiting FLUSH counts. -/
def State.strandedOn (s : State) (id : Nat) (t : TargetNo) : State :=
  let told := (s.recorded
    { code := .stranded, state := .opened, cause := none, source := none, day := none, slot := none,
      segId := some id, target := some t.val, figure := none, time := s.clock.reading }).pended 2
        (be 4 (s.dir.countP fun y => y.state = .stranded))
  told.flushCounts id 0 1 0

theorem updateEntry_updateEntry (id : Nat) {f g : SegEntry → SegEntry} (hf : ∀ e, (f e).id = e.id) (d : List SegEntry) :
    (d.map fun e => if e.id = id then f e else e).map (fun e => if e.id = id then g e else e)
      = d.map fun e => if e.id = id then g (f e) else e := by
  rw [List.map_map]
  refine List.map_congr_left fun e _ => ?_
  by_cases he : e.id = id <;> simp [he, hf]

theorem State.countAttempt_again {s : State} {c : CommitEntry} {n : Nat} (hn : s.attempts? c.segId = some n) (h : n + 1 < 3)
    (hc : s.commit.current = some c) (t : TargetNo) : s.countAttempt c t = { s.attempted c.segId (n + 1) .sealed with
      commit := { s.commit with queue := c :: s.commit.queue, current := none } } := by
  unfold State.attempts? at hn
  unfold State.countAttempt
  rw [hn]
  dsimp only [Option.getD_some]
  rw [if_pos h]
  unfold State.attempted State.onEntry State.onDir State.onCommit CommitEngine.requeue updateEntry
  dsimp only
  rw [updateEntry_updateEntry (f := fun e => { e with attempts := n + 1 }) (g := fun e => { e with state := .sealed }) c.segId
    (fun _ => rfl), hc]
  rfl

theorem State.countAttempt_stranded {s : State} {c : CommitEntry} {n : Nat} (hn : s.attempts? c.segId = some n)
    (h : 3 ≤ n + 1) (t : TargetNo) : s.countAttempt c t
      = (let ended := (s.attempted c.segId (n + 1) .stranded).strandedOn c.segId t
         { ended with commit := { ended.commit with current := none } }) := by
  have hentry : (s.onEntry c.segId fun e => { e with attempts := n + 1 }).onEntry c.segId
      (fun e => { e with state := .stranded }) = s.attempted c.segId (n + 1) .stranded := by
    unfold State.attempted State.onEntry State.onDir updateEntry
    dsimp only
    rw [updateEntry_updateEntry (f := fun e => { e with attempts := n + 1 }) (g := fun e => { e with state := .stranded })
      c.segId fun _ => rfl]
  unfold State.attempts? at hn
  unfold State.countAttempt
  rw [hn]
  dsimp only [Option.getD_some]
  rw [if_neg (Nat.not_lt.mpr h)]
  unfold State.strand
  rw [hentry]
  dsimp only
  rw [State.flushEnd_eq, State.raise_eq, State.notify_eq]
  rfl

section
variable {s : State} {t : TargetNo} {x : Nat} {c : CommitEntry} {e : SegEntry}

theorem State.writeFailure_eq (hc : s.commit.current = some c) :
    s.writeFailure t x = ((s.writeLost t x c.segId).countAttempt c t).eraseChecked t := by
  have hlost : ((s.onTarget t fun k => { k.setExtent x .bad with
      xfer := none, writeFails := satAdd Config.max32 k.writeFails 1 }).onEntry c.segId
        fun e => { e with place := none }).faultUp t = s.writeLost t x c.segId := State.faultUp_eq _ t
  unfold State.writeFailure
  dsimp only
  rw [show (s.onTarget t fun k => { k.setExtent x .bad with
    xfer := none, writeFails := satAdd Config.max32 k.writeFails 1 }).commit.current = some c from hc]
  dsimp only
  rw [hlost, State.pokeErase_eq]

theorem State.writeLost_attempts? (he : s.entry? c.segId = some e) :
    (s.writeLost t x c.segId).attempts? c.segId = some e.attempts := by
  unfold State.writeLost
  rw [State.faultOn_attempts?, State.attempts?_map (s := s) (fun e => by split <;> exact ⟨rfl, rfl⟩) rfl]
  unfold State.attempts?
  rw [he]
  rfl

theorem State.writeLost_clock : (s.writeLost t x c.segId).clock = s.clock := by
  have h := State.LinkWork.faultOn ({ s.withTarget t { s.target t with
      map := (s.target t).map.map fun m => m.set x .bad
      xfer := none, writeFails := min ((s.target t).writeFails + 1) 4294967295 } with
    dir := s.dir.map fun y => if y.id = c.segId then { y with place := none } else y } : State) t
  unfold State.writeLost
  rw [h]
  rfl

/-- The commands that fail the beat in flight do what the failure says, on the state with the ack timer's expiry counted. -/
theorem exec_beatFails {y : Xfer} (hx : (s.target t).xfer = some y) (hk : y.kind = .write) {i : Instr} {late : Nat}
    (hi : i = .beatError t .live ∧ late = 0 ∨ i = .ackTimerExpiry t .beat ∧ late = 1) : exec i s = .next
      ((s.withTarget t { s.target t with expired := (s.target t).expired + late }).writeFailure t y.extent) := by
  rcases hi with ⟨rfl, rfl⟩ | ⟨rfl, rfl⟩
  · refine congrArg Host.Outcome.next ((beatError_live hx).trans ((State.failBeat_write hk _).trans ?_))
    exact congrArg (State.writeFailure · t y.extent) (s.withTarget_self t).symm
  · exact congrArg Host.Outcome.next ((ackTimerExpiry_beat hx).trans (State.failBeat_write hk _))

end

/-- R100: what the failure of a write leaves, with a fault that does not take the target OFFLINE. -/
theorem State.writeLost_few {s : State} {t : TargetNo} (hst : (s.target t).state = .online ∨ (s.target t).state = .degraded)
    (hf : (s.target t).faults < 2) (x id : Nat) : s.writeLost t x id = { s.withTarget t { s.target t with
        map := (s.target t).map.map fun m => m.set x .bad
        xfer := none, writeFails := min ((s.target t).writeFails + 1) 4294967295
        faults := (s.target t).faults + 1, state := .degraded } with
      dir := s.dir.map fun y => if y.id = id then { y with place := none } else y } := by
  have hsame := s.target_withTarget_same t { s.target t with
    map := (s.target t).map.map fun m => m.set x .bad
    xfer := none, writeFails := min ((s.target t).writeFails + 1) 4294967295 }
  have hdegraded : (if (s.target t).state = .online then TargetState.degraded else (s.target t).state) = .degraded := by
    rcases hst with h | h <;> simp [h]
  unfold State.writeLost
  rw [State.faultOn_few]
  · show State.withTarget ({ s.withTarget t _ with dir := _ } : State) t { (s.withTarget t _).target t with
      faults := ((s.withTarget t _).target t).faults + 1
      state := if ((s.withTarget t _).target t).state = .online then .degraded else ((s.withTarget t _).target t).state } = _
    rw [hsame]
    dsimp only
    rw [hdegraded]
    exact congrArg (fun u : State => ({ u with
      dir := s.dir.map fun y => if y.id = id then { y with place := none } else y } : State)) (s.withTarget_withTarget t _ _)
  · show ((s.withTarget t _).target t).state ≠ _
    rw [hsame]
    rcases hst with h | h <;> simp [h]
  · show ((s.withTarget t _).target t).faults + 1 < 3
    rw [hsame]
    dsimp only
    omega

section
variable (s : State) (id : Nat) (t : TargetNo)

theorem State.strandedOn_rest : s.strandedOn id t = { s with
    port := (s.strandedOn id t).port, audit := (s.strandedOn id t).audit, notices := (s.strandedOn id t).notices
    builder := { s.builder with flush := (s.strandedOn id t).builder.flush } } := by
  unfold State.strandedOn
  dsimp only
  generalize htold : State.pended _ 2 _ = told
  have hrest : told = { s with audit := told.audit, notices := told.notices } := htold ▸ rfl
  have hflush := told.flushCounts_rest id 0 1 0
  generalize told.flushCounts id 0 1 0 = u at hflush
  rw [hflush, hrest]

theorem State.strandedOn_audit : (s.strandedOn id t).audit = (s.recorded
    { code := .stranded, state := .opened, cause := none, source := none, day := none, slot := none,
      segId := some id, target := some t.val, figure := none, time := s.clock.reading }).audit := by
  unfold State.strandedOn
  dsimp only
  rw [State.flushCounts_rest]
  rfl

theorem State.strandedOn_notice : (vget (s.strandedOn id t).notices.sources 2).flag = true := by
  unfold State.strandedOn
  dsimp only
  rw [State.flushCounts_rest]
  exact congrArg NoticeSource.flag (vget_vset_same _ _ _)

end

/-- The failed attempt leaves targets and buffers alone, and no commit is current. -/
theorem State.countAttempt_keeps {s : State} {c : CommitEntry} {n : Nat} (hn : s.attempts? c.segId = some n)
    (hc : s.commit.current = some c) (t : TargetNo) : (s.countAttempt c t).targets = s.targets
      ∧ (s.countAttempt c t).builder.buffers = s.builder.buffers ∧ (s.countAttempt c t).commit.current = none
      ∧ s.LinkWork (s.countAttempt c t) := by
  by_cases h : n + 1 < 3
  · rw [State.countAttempt_again hn h hc]
    exact ⟨rfl, rfl, rfl, rfl⟩
  · rw [State.countAttempt_stranded hn (Nat.not_lt.mp h)]
    dsimp only
    rw [State.strandedOn_rest]
    exact ⟨rfl, rfl, rfl, rfl⟩

theorem State.entry?_attempted {s : State} {id n : Nat} {e : SegEntry} (he : s.entry? id = some e) (st : SegState) :
    (s.attempted id n st).entry? id = some { e with state := st, attempts := n } :=
  (State.entry?_onEntry_same s id (f := fun y => { y with state := st, attempts := n }) fun _ => rfl).trans (by rw [he]; rfl)

section
variable {s : State} {t : TargetNo} {x : Nat} {c : CommitEntry} {e : SegEntry}

theorem State.writeLost_few_entry? (hst : (s.target t).state = .online ∨ (s.target t).state = .degraded)
    (hf : (s.target t).faults < 2) (he : s.entry? c.segId = some e) :
    (s.writeLost t x c.segId).entry? c.segId = some { e with place := none } := by
  rw [State.writeLost_few hst hf]
  exact (State.entry?_onEntry_same s c.segId (f := fun y => { y with place := none }) fun _ => rfl).trans (by rw [he]; rfl)

/-- R100: below three attempts the segment is SEALED again at the head of the Commit Queue. -/
theorem State.writeFailure_again (hst : (s.target t).state = .online ∨ (s.target t).state = .degraded)
    (hf : (s.target t).faults < 2) (hc : s.commit.current = some c) (he : s.entry? c.segId = some e)
    (h : e.attempts + 1 < 3) :
    (s.writeFailure t x).entry? c.segId = some { e with state := .sealed, place := none, attempts := e.attempts + 1 }
    ∧ (s.writeFailure t x).commit.queue = c :: s.commit.queue ∧ (s.writeFailure t x).audit = s.audit := by
  have hcommit : (s.writeLost t x c.segId).commit = s.commit := by rw [State.writeLost_few hst hf]; rfl
  have haudit : (s.writeLost t x c.segId).audit = s.audit := by rw [State.writeLost_few hst hf]; rfl
  rw [State.writeFailure_eq hc, State.countAttempt_again (State.writeLost_attempts? he) h (by rw [hcommit, hc])]
  refine ⟨State.entry?_attempted (State.writeLost_few_entry? hst hf he) .sealed, ?_, haudit⟩
  exact congrArg (fun k : CommitEngine => c :: k.queue) hcommit

/-- R100: at three attempts the segment is STRANDED. -/
theorem State.writeFailure_stranded (hst : (s.target t).state = .online ∨ (s.target t).state = .degraded)
    (hf : (s.target t).faults < 2) (hc : s.commit.current = some c) (he : s.entry? c.segId = some e)
    (h : 3 ≤ e.attempts + 1) :
    (s.writeFailure t x).entry? c.segId = some { e with state := .stranded, place := none, attempts := e.attempts + 1 }
    ∧ (s.writeFailure t x).commit.queue = s.commit.queue
    ∧ (s.writeFailure t x).audit = (s.recorded
        { code := .stranded, state := .opened, cause := none, source := none, day := none, slot := none,
          segId := some c.segId, target := some t.val, figure := none, time := s.clock.reading }).audit
    ∧ (vget (s.writeFailure t x).notices.sources 2).flag = true := by
  have hentry := State.entry?_attempted (n := e.attempts + 1) (State.writeLost_few_entry? (x := x) hst hf he) .stranded
  have haudit := ((s.writeLost t x c.segId).attempted c.segId (e.attempts + 1) .stranded).strandedOn_audit c.segId t
  have hnotice := ((s.writeLost t x c.segId).attempted c.segId (e.attempts + 1) .stranded).strandedOn_notice c.segId t
  have hrest := ((s.writeLost t x c.segId).attempted c.segId (e.attempts + 1) .stranded).strandedOn_rest c.segId t
  have hcommit : (s.writeLost t x c.segId).commit = s.commit := by rw [State.writeLost_few hst hf]; rfl
  have hbooks : (s.writeLost t x c.segId).audit = s.audit ∧ (s.writeLost t x c.segId).clock = s.clock := by
    rw [State.writeLost_few hst hf]
    exact ⟨rfl, rfl⟩
  rw [State.writeFailure_eq hc, State.countAttempt_stranded (State.writeLost_attempts? he) h]
  refine ⟨?_, ?_, ?_, hnotice⟩
  · refine Eq.trans ?_ hentry
    exact (congrArg (fun u : State => u.entry? c.segId) hrest :)
  · exact (congrArg (fun u : State => u.commit.queue) hrest :).trans (congrArg CommitEngine.queue hcommit)
  · refine haudit.trans ?_
    have hrecord (u v : State) (ev : AuditEvent) (h : u.audit = v.audit) : (u.recorded ev).audit = (v.recorded ev).audit := by
      unfold State.recorded
      dsimp only
      rw [h]
    refine (hrecord _ s _ hbooks.1).trans ?_
    rw [show ((s.writeLost t x c.segId).attempted c.segId (e.attempts + 1) .stranded).clock = s.clock from hbooks.2]

/-- R100: what the failure of a write leaves in either case. -/
theorem State.writeFailure_keeps (hst : (s.target t).state = .online ∨ (s.target t).state = .degraded)
    (hf : (s.target t).faults < 2) (hc : s.commit.current = some c) (he : s.entry? c.segId = some e) :
    (∃ y, (s.writeFailure t x).target t = { s.target t with
      map := (s.target t).map.map fun m => m.set x .bad
      xfer := none, writeFails := min ((s.target t).writeFails + 1) 4294967295
      faults := (s.target t).faults + 1, state := .degraded, erase := y })
    ∧ (s.writeFailure t x).commit.current = none
    ∧ (∀ v, v ≠ t → (s.writeFailure t x).target v = s.target v)
    ∧ (s.writeFailure t x).builder.buffers = s.builder.buffers ∧ s.LinkWork (s.writeFailure t x) := by
  have hcommit : (s.writeLost t x c.segId).commit = s.commit := by rw [State.writeLost_few hst hf]; rfl
  obtain ⟨htargets, hbuffers, hcurrent, hwork⟩ :=
    State.countAttempt_keeps (State.writeLost_attempts? (x := x) (t := t) he) (by rw [hcommit, hc]) t
  have htarget (v : TargetNo) : ((s.writeLost t x c.segId).countAttempt c t).target v = (s.writeLost t x c.segId).target v :=
    congrArg (fun k => vget k v) htargets
  have hlost : s.LinkWork (s.writeLost t x c.segId) := by
    rw [State.writeLost_few hst hf]
    rfl
  rw [State.writeFailure_eq hc]
  refine ⟨?_, hcurrent, fun v hv => ?_, ?_, (hlost.trans hwork).trans (State.LinkWork.eraseChecked _ t)⟩
  · obtain ⟨y, hy⟩ := State.eraseChecked_target ((s.writeLost t x c.segId).countAttempt c t) t
    refine ⟨y, hy.trans ?_⟩
    rw [htarget, State.writeLost_few hst hf]
    exact congrArg (fun k : Target => ({ k with erase := y } : Target)) (s.target_withTarget_same t _)
  · rw [State.eraseChecked_target_of_ne _ _ hv, htarget, State.writeLost_few hst hf]
    exact (s.target_withTarget t v _).trans (if_neg hv)
  · refine hbuffers.trans ?_
    rw [State.writeLost_few hst hf]
    rfl

end

/-- Settles O32. -/
theorem writeFails : Obligations.WriteFails := by
  unfold Obligations.WriteFails
  refine ⟨fun s t x c e i hi hx hk hc he hst hf => ?_, fun s t x c e late i hi hx hk hc he hw => ?_⟩
  · obtain ⟨late, hlate⟩ : ∃ late, i = .beatError t .live ∧ late = 0 ∨ i = .ackTimerExpiry t .beat ∧ late = 1 := by
      rcases hi with h | h
      · exact ⟨0, .inl ⟨h, rfl⟩⟩
      · exact ⟨1, .inr ⟨h, rfl⟩⟩
    have hexec := exec_beatFails hx hk hlate
    have hsame := s.target_withTarget_same t { s.target t with expired := (s.target t).expired + late }
    generalize hu : s.withTarget t { s.target t with expired := (s.target t).expired + late } = u at hexec hsame
    have hst' : (u.target t).state = .online ∨ (u.target t).state = .degraded := by rw [hsame]; exact hst
    have hf' : (u.target t).faults < 2 := by rw [hsame]; exact hf
    have hc' : u.commit.current = some c := hu ▸ hc
    have he' : u.entry? c.segId = some e := hu ▸ he
    obtain ⟨⟨y, htarget⟩, hcurrent, hothers, hbuffers, hwork⟩ := State.writeFailure_keeps (x := x.extent) hst' hf' hc' he'
    rw [hsame] at htarget
    refine ⟨_, hexec, ?_, ?_, ?_, ?_, ?_, hcurrent, fun h => ?_, fun h => ?_, fun v hv => ?_, ?_, ?_⟩
    case refine_6 =>
      obtain ⟨hentry, hqueue, haudit⟩ := State.writeFailure_again (x := x.extent) hst' hf' hc' he' h
      exact ⟨hentry, hqueue.trans (hu ▸ rfl), haudit.trans (hu ▸ rfl)⟩
    case refine_7 =>
      obtain ⟨hentry, hqueue, haudit, hnotice⟩ := State.writeFailure_stranded (x := x.extent) hst' hf' hc' he' h
      exact ⟨hentry, hqueue.trans (hu ▸ rfl), haudit.trans (hu ▸ rfl), hnotice⟩
    case refine_8 =>
      rw [hothers v hv, ← hu]
      exact (s.target_withTarget t v _).trans (if_neg hv)
    case refine_9 => exact hbuffers.trans (hu ▸ rfl)
    case refine_10 =>
      have hset : s.LinkWork u := hu ▸ rfl
      exact hset.trans hwork
    all_goals rw [htarget]
  · have hexec := exec_beatFails hx hk hi
    have hsame := s.target_withTarget_same t { s.target t with expired := (s.target t).expired + late }
    generalize hu : s.withTarget t { s.target t with expired := (s.target t).expired + late } = u at hexec hsame
    have hlost : u.writeLost t x.extent c.segId = State.faultOn { s.withTarget t { s.target t with
            map := (s.target t).map.map fun m => m.set x.extent .bad
            xfer := none, expired := (s.target t).expired + late
            writeFails := min ((s.target t).writeFails + 1) 4294967295 } with
          dir := s.dir.map fun y => if y.id = c.segId then { y with place := none } else y } t := by
      unfold State.writeLost
      rw [hsame, ← hu, State.withTarget_withTarget]
      rfl
    have hcommit : (u.writeLost t x.extent c.segId).commit = s.commit := by
      rw [hlost]
      exact State.faultOn_commit ((congrArg Target.waitWrite (s.target_withTarget_same t _)).trans hw)
    have hc' : u.commit.current = some c := hu ▸ hc
    have he' : u.entry? c.segId = some e := hu ▸ he
    have hattempts := State.writeLost_attempts? (t := t) (x := x.extent) he'
    have hclock : (u.writeLost t x.extent c.segId).clock = s.clock := State.writeLost_clock.trans (hu ▸ rfl)
    rw [State.writeFailure_eq hc'] at hexec
    refine ⟨fun h => hexec.trans (congrArg Host.Outcome.next ?_), fun h => hexec.trans (congrArg Host.Outcome.next ?_)⟩
    · rw [State.countAttempt_again hattempts h (by rw [hcommit, hc]), hlost]
      rfl
    · rw [State.countAttempt_stranded hattempts h]
      dsimp only
      unfold State.strandedOn
      rw [show (State.attempted (u.writeLost t x.extent c.segId) c.segId (e.attempts + 1) .stranded).clock = s.clock
        from hclock, hlost]
      rfl

end Sys2Proof.Machine
end

section
/-! STRANDED segments return (R101), LOAD TARGET and SET TARGET (R85, R90). -/

namespace Sys2Proof.Machine

/-! ### Targets that go ONLINE and OFFLINE beside the directive in hand -/

theorem State.setCurrent_enterOnline (s : State) (t : TargetNo) (c : Option Directive) :
    (s.setCurrent c).enterOnline t = (s.enterOnline t).setCurrent c := by
  rw [State.enterOnline_eq, State.enterOnline_eq]
  dsimp only
  rw [show (s.setCurrent c).target t = s.target t from rfl]
  split <;> rfl

theorem State.setCurrent_wentOffline (s : State) (t : TargetNo) (c : Option Directive) :
    (s.setCurrent c).wentOffline t = (s.wentOffline t).setCurrent c :=
  s.aside_wentOffline t (fun _ => c) id

theorem ofNat_target (t : TargetNo) : (Fin.ofNat 4 t.val : TargetNo) = t := Fin.ext (Nat.mod_eq_of_lt t.isLt)

/-! ### RETRY COMMITS and SET TARGET -/

section
variable {s : State} {tag : Tag} {payload : List Byte} {rest : List Directive}

theorem retryCommits_of_takes (h : s.Takes 0x17 tag [] rest) :
    retryCommits s = (s.took rest).strandedReturned.replied tag .done false (be 4 s.strandedIds.length) := by
  unfold retryCommits
  rw [State.directive_of_takes h readNothing_nil, State.returnStranded_eq]
  exact State.took_of_takes h .done false _ State.strandedReturned (fun _ _ => rfl)

/-- R90: what SET TARGET does of a target of each state. -/
def State.targetSet (s : State) (rest : List Directive) (tag : Tag) (t : TargetNo) (online : Bool) : State :=
  match (s.target t).state, online with
  | .absent, _ => s.turnedDown rest tag .refusedState
  | .scanning, _ => s.turnedDown rest tag .refusedState
  | .online, true => ((s.took rest).withTarget t { s.target t with faults := 0 }).replied tag .done false []
  | .degraded, true => ((s.took rest).enterOnline t).replied tag .done false []
  | .offline, true => ((s.took rest).enterOnline t).replied tag .done false []
  | .offline, false => (s.took rest).replied tag .done false []
  | .online, false => ((s.took rest).wentOffline t).replied tag .done false []
  | .degraded, false => ((s.took rest).wentOffline t).replied tag .done false []

theorem State.targetSet_online {t : TargetNo} {online : Bool} (hst : (s.target t).state = .online) (ho : online = true) :
    s.targetSet rest tag t online = ((s.took rest).withTarget t { s.target t with faults := 0 }).replied tag .done false [] := by
  unfold State.targetSet
  split <;> simp_all

theorem State.applySetTarget_of_takes (h : s.Takes 0x07 tag payload rest) (t : TargetNo) (online : Bool) :
    ((s.takeDirective { code := 0x07, tag := tag, payload := payload }).applySetTarget tag t online).setCurrent none
      = s.targetSet rest tag t online := by
  have honline := State.took_of_takes h .done false [] (State.enterOnline · t) fun u d => u.setCurrent_enterOnline t d
  have hoffline := State.took_of_takes h .done false [] (State.wentOffline · t) fun u d => u.setCurrent_wentOffline t d
  unfold State.applySetTarget State.targetSet
  rw [show (s.takeDirective _).target t = s.target t from rfl]
  cases (s.target t).state with
  | absent => exact State.refuse_of_takes h _
  | scanning => exact State.refuse_of_takes h _
  | online =>
    cases online with
    | true => exact State.took_of_takes h .done false [] (State.onTarget · t fun k => { k with faults := 0 }) fun _ _ => rfl
    | false =>
      rw [State.goOffline_eq]
      exact hoffline
  | degraded =>
    cases online with
    | true => exact honline
    | false =>
      rw [State.goOffline_eq]
      exact hoffline
  | offline =>
    cases online with
    | true => exact honline
    | false => exact State.answer_of_takes h .done []

theorem setTarget_of_takes (h : s.Takes 0x07 tag payload rest) {p : Nat × Bool} (hread : readSetTarget payload = some p) :
    setTarget s = if p.1 ≤ 3 then s.targetSet rest tag (Fin.ofNat 4 p.1) p.2 else s.turnedDown rest tag .refusedRange := by
  unfold setTarget
  rw [State.directive_of_takes h hread]
  split
  · exact State.applySetTarget_of_takes h _ _
  · exact State.refuse_of_takes h _

theorem setTarget_of_target (h : s.Takes 0x07 tag payload rest) {t : TargetNo} {online : Bool}
    (hread : readSetTarget payload = some (t.val, online)) : setTarget s = s.targetSet rest tag t online := by
  rw [setTarget_of_takes h hread, if_pos (show t.val ≤ 3 by omega), ofNat_target]

end


/-- Settles O33. -/
theorem strandedSegmentsReturn : Obligations.StrandedSegmentsReturn := by
  unfold Obligations.StrandedSegmentsReturn
  intro s tag rest ids queue dir
  have hqueue : s.commit.queue ++ (s.dir.filter (·.state = .stranded)).map (fun e =>
      ({ segId := e.id, strandedBefore := true } : CommitEntry)) = queue := by
    rw [show queue = s.commit.queue ++ ids.map _ from rfl, show ids = List.map SegEntry.id _ from rfl, List.map_map]
    rfl
  refine ⟨fun h => ?_, fun t payload h hread hst => ?_⟩
  · refine congrArg Host.Outcome.next ((retryCommits_of_takes h).trans ?_)
    rw [show s.strandedIds.length = ids.length from rfl, ← hqueue]
    rfl
  · refine ⟨(s.took rest).enterOnline t, congrArg Host.Outcome.next ((setTarget_of_target h hread).trans ?_), ?_⟩
    · unfold State.targetSet
      rcases hst with hst | hst <;> rw [hst]
    · rw [State.enterOnline_eq]
      dsimp only
      rw [show (s.took rest).target t = s.target t from rfl, ← hqueue]
      split
      next hoff => exact ⟨rfl, rfl, rfl, fun _ => by
        exact congrArg NoticeSource.flag (vget_vset_same s.notices.sources _ _), rfl⟩
      next hoff => exact ⟨rfl, rfl, rfl, fun hs => absurd (Or.inr hs) hoff, rfl⟩

/-! ### LOAD TARGET -/

theorem TargetLoad.sound_iff (p : TargetLoad) : p.sound = true
    ↔ p.target ≤ 3 ∧ (p.unitSize = 4096 ∨ p.unitSize = 16384 ∨ p.unitSize = 65536)
      ∧ 16 ≤ p.extents ∧ p.extents ≤ 1048576 := by
  simp only [TargetLoad.sound, Bool.and_eq_true, Bool.or_eq_true, decide_eq_true_eq, or_assoc, and_assoc]

theorem TargetLoad.rounded_eq (p : TargetLoad) : p.rounded = p.extents - p.extents % 16 := by
  unfold TargetLoad.rounded
  omega

section
variable {s : State} {tag : Tag} {payload : List Byte} {rest : List Directive}

/-- R85: what an accepted LOAD TARGET does, by engine and target state. -/
def State.targetLoaded (s : State) (rest : List Directive) (tag : Tag) (p : TargetLoad) (t : TargetNo) : State :=
  match s.engine, (s.target t).state with
  | .rebuilding, _ => s.turnedDown rest tag .refusedState
  | .unconfigured, _ => ((s.took rest).onTarget t p.configure).replied tag .done p.clamped p.figures
  | .running, .absent => (s.took rest).loadAndScan tag p t
  | .running, .scanning => s.turnedDown rest tag .refusedState
  | .running, _ =>
    if (s.target t).extents = some p.rounded then ((s.took rest).onTarget t p.adjust).replied tag .done p.clamped p.figures
    else s.turnedDown rest tag .refusedState

theorem State.targetLoaded_used {p : TargetLoad} {t : TargetNo} (he : s.engine = .running)
    (habsent : (s.target t).state ≠ .absent) (hscanning : (s.target t).state ≠ .scanning) :
    s.targetLoaded rest tag p t = if (s.target t).extents = some p.rounded then
        ((s.took rest).onTarget t p.adjust).replied tag .done p.clamped p.figures
      else s.turnedDown rest tag .refusedState := by
  unfold State.targetLoaded
  rw [he]
  cases hst : (s.target t).state with
  | absent => exact absurd hst habsent
  | scanning => exact absurd hst hscanning
  | online | degraded | offline => rfl

theorem State.applyTarget_of_takes (h : s.Takes 0x06 tag payload rest) (p : TargetLoad) (t : TargetNo) :
    ((s.takeDirective { code := 0x06, tag := tag, payload := payload }).applyTarget tag p t).setCurrent none
      = s.targetLoaded rest tag p t := by
  have hrefused := State.refuse_of_takes h .refusedState
  have hadjust : (if (s.target t).extents = some p.rounded then
        ((s.takeDirective { code := 0x06, tag := tag, payload := payload }).onTarget t p.adjust).loadedNow tag p
      else (s.takeDirective { code := 0x06, tag := tag, payload := payload }).refuse tag .refusedState).setCurrent none
      = if (s.target t).extents = some p.rounded then
          ((s.took rest).onTarget t p.adjust).replied tag .done p.clamped p.figures
        else s.turnedDown rest tag .refusedState := by
    split
    · exact State.took_of_takes h .done p.clamped p.figures (State.onTarget · t p.adjust) fun _ _ => rfl
    · exact hrefused
  unfold State.applyTarget State.targetLoaded
  rw [show (s.takeDirective _).engine = s.engine from rfl, show (s.takeDirective _).target t = s.target t from rfl]
  cases s.engine with
  | rebuilding => exact hrefused
  | unconfigured => exact State.took_of_takes h .done p.clamped p.figures (State.onTarget · t p.configure) fun _ _ => rfl
  | running =>
    cases (s.target t).state with
    | absent =>
      rw [← State.takeDirective_none h]
      rfl
    | scanning => exact hrefused
    | online | degraded | offline => exact hadjust

theorem loadTarget_of_takes (h : s.Takes 0x06 tag payload rest) {p : TargetLoad} (hread : readLoadTarget payload = some p) :
    loadTarget s = if p.sound then s.targetLoaded rest tag p (Fin.ofNat 4 p.target) else s.turnedDown rest tag .refusedRange := by
  unfold loadTarget
  rw [State.directive_of_takes h hread]
  split
  · exact State.applyTarget_of_takes h _ _
  · exact State.refuse_of_takes h _

theorem readLoadTarget_eq {l : List Byte} (h : l.length = 18) : readLoadTarget l = if 1 < octetAt l 9 then none else some
    { target := octetAt l 0, extents := fieldAt l 1 4, unitSize := fieldAt l 5 4
      gather := decide (octetAt l 9 = 1), ackMs := fieldAt l 10 4, eraseSecs := fieldAt l 14 4 } := by
  unfold readLoadTarget
  rw [if_pos h, flagAt_eq]
  split <;> rfl

theorem readSetTarget_eq {l : List Byte} (h : l.length = 2) : readSetTarget l
    = if octetAt l 1 ≠ 3 ∧ octetAt l 1 ≠ 5 then none else some (octetAt l 0, decide (octetAt l 1 = 3)) := by
  unfold readSetTarget
  rw [if_pos h]
  by_cases h3 : octetAt l 1 = 3
  · simp [h3]
  · by_cases h5 : octetAt l 1 = 5 <;> simp [h3, h5]

end

/-- Settles O46. -/
theorem targetsAreLoadedAndSet : Obligations.TargetsAreLoadedAndSet := by
  unfold Obligations.TargetsAreLoadedAndSet
  intro s tag payload rest t k
  refine ⟨fun p h hread => ?_, fun number online h hread => ⟨fun hbig => ?_, fun hn => ?_⟩,
    fun hlen => ⟨fun hbad h => ?_, readLoadTarget_eq hlen⟩, fun hlen => ⟨fun hbad h => ?_, readSetTarget_eq hlen⟩⟩
  · have hexec := loadTarget_of_takes h hread
    refine ⟨fun hs => congrArg Host.Outcome.next (hexec.trans (if_neg (mt p.sound_iff.mp hs))), fun hs ht => ?_⟩
    rw [if_pos (p.sound_iff.mpr hs), ht, ofNat_target] at hexec
    rw [← p.rounded_eq]
    refine ⟨fun he => ?_, fun he => ?_, fun he hst => ?_, fun he hst => ?_, fun he habsent hscanning => ?_⟩
    all_goals refine congrArg Host.Outcome.next (hexec.trans ?_)
    · unfold State.targetLoaded
      rw [he]
    · unfold State.targetLoaded
      rw [he] <;> rfl
    · unfold State.targetLoaded
      rw [he, show (s.target t).state = .absent from hst]
      dsimp only
      unfold State.loadAndScan
      rw [State.onTarget_eq, Target.startScan_eq]
      rfl
    · unfold State.targetLoaded
      rw [he, show (s.target t).state = .scanning from hst]
    · exact State.targetLoaded_used he habsent hscanning
  · exact congrArg Host.Outcome.next ((setTarget_of_takes h hread).trans (if_neg (Nat.not_le.mpr hbig)))
  · subst hn
    have hexec := setTarget_of_target h hread
    unfold State.targetSet at hexec
    refine ⟨fun hst => ?_, fun hst ho => ?_, fun hst ho => ?_, fun hst ho hw hr => ?_, fun hst ho => ?_⟩
    all_goals refine congrArg Host.Outcome.next (hexec.trans ?_)
    · rcases hst with hst | hst <;> rw [show (s.target t).state = _ from hst]
    · exact State.targetSet_online hst ho
    · rw [show (s.target t).state = _ from hst, ho]
    · have hoff : (s.took rest).wentOffline t = ((s.took rest).withTarget t { k with
          state := .offline
          erase := k.erase.map fun y => if y.state = .suspended then { y with state := .resumeRequested } else y
          xfer := k.xfer.map fun x => if x.kind = .read then { x with cut := true } else x }).pended 3
            (be 1 t.val ++ named 5) := by
        have hw : (s.target t).waitWrite = false := hw
        have hr : (s.target t).waitRead = none := hr
        unfold State.wentOffline
        dsimp only
        rw [show (s.took rest).target t = s.target t from rfl, hw, hr]
        exact (if_pos rfl).trans ((if_neg Bool.false_ne_true).trans (by rw [← hw, ← hr]))
      rw [← hoff, ho]
      rcases hst with hst | hst <;> rw [show (s.target t).state = _ from hst]
    · rw [ho]
      rcases hst with hst | hst <;> rw [show (s.target t).state = _ from hst]
  · exact congrArg Host.Outcome.next (State.directive_unreadable h ((readLoadTarget_eq hlen).trans (if_pos hbad)) _)
  · exact congrArg Host.Outcome.next (State.directive_unreadable h ((readSetTarget_eq hlen).trans (if_pos hbad)) _)

end Sys2Proof.Machine
end

section
/-! The Hold Store: rescue from the Erase Queues (R134 to R136), the change directives (R131 to R140) and the end of a
program (R132). -/

namespace Sys2Proof.Machine

/-! ### One un-issued erase entry under a rescue -/

/-- R134, R135: what takes the place of an un-issued erase entry beside `others` other entries. -/
def EraseEntry.replaced (covered : Nat → Bool) (others : Nat) (e : EraseEntry) : List EraseEntry :=
  if e.segments.any covered then
    ((e.members.filter fun m => !covered m.2).take (64 - others)).map fun m => .single m.1 m.2
  else [e]

theorem replacements_cons (covered : Nat → Bool) (before : Nat) (e : EraseEntry) (q : List EraseEntry) :
    replacements covered before (e :: q) = (e, e.replaced covered (before + q.length))
      :: replacements covered (before + (e.replaced covered (before + q.length)).length) q := rfl

theorem EraseEntry.replaced_kept {covered : Nat → Bool} {e : EraseEntry} (h : ¬ e.segments.any covered = true) (others : Nat) :
    e.replaced covered others = [e] := if_neg h

theorem EraseEntry.replaced_ne_self {covered : Nat → Bool} {e : EraseEntry} (h : e.segments.any covered = true)
    (others : Nat) : e.replaced covered others ≠ [e] := by
  unfold EraseEntry.replaced
  rw [if_pos h]
  cases e with
  | single x id =>
    have hid : covered id = true := by simpa [EraseEntry.segments, EraseEntry.members] using h
    simp [EraseEntry.members, hid]
  | group g ms fs =>
    intro he
    have hmem : EraseEntry.group g ms fs ∈ (((EraseEntry.group g ms fs).members.filter fun m => !covered m.2).take
        (64 - others)).map fun m => EraseEntry.single m.1 m.2 := by
      rw [he]
      exact List.mem_singleton_self _
    obtain ⟨m, -, hm⟩ := List.mem_map.mp hmem
    exact nomatch hm

theorem EraseEntry.segments_filter (covered : Nat → Bool) (e : EraseEntry) :
    (e.members.filter fun m => covered m.2).map Prod.snd = e.segments.filter covered := by
  unfold EraseEntry.segments
  rw [List.filter_map]
  rfl

theorem drop_take_length {α : Type} (l : List α) (n : Nat) : l.drop (l.take n).length = l.drop n := by
  rw [List.length_take]
  rcases Nat.le_total n l.length with hle | hle
  · rw [Nat.min_eq_left hle]
  · rw [Nat.min_eq_right hle, List.drop_length, List.drop_eq_nil_of_le hle]

/-- A rescue of one entry, in the words of the statements. -/
theorem EraseEntry.rescue_eq (covered : Nat → Bool) (others : Nat) (e : EraseEntry) : e.rescue covered others
    = if e.segments.any covered then
        { queue := e.replaced covered others, rescued := e.segments.filter covered
          deferred := (e.segments.filter fun id => !covered id).drop (e.replaced covered others).length
          fillers := e.fillers }
      else { queue := [e], rescued := [], deferred := [], fillers := [] } := by
  cases e with
  | single x id =>
    unfold EraseEntry.rescue EraseEntry.replaced
    cases hid : covered id <;> simp [EraseEntry.segments, EraseEntry.members, EraseEntry.fillers, hid]
  | group g ms fs =>
    have hany : (EraseEntry.group g ms fs).segments.any covered = ms.any fun m => covered m.2 := List.any_map
    unfold EraseEntry.rescue
    by_cases hcovered : (ms.any fun m => covered m.2) = true
    · dsimp only
      rw [hany, if_pos hcovered, if_pos hcovered]
      unfold EraseEntry.replaced
      rw [hany, if_pos hcovered, ← EraseEntry.segments_filter, ← EraseEntry.segments_filter, List.length_map,
        ← List.map_drop]
      show Rescue.mk _ _ _ _ = Rescue.mk _ _ (((ms.filter _).drop ((ms.filter _).take _).length).map _) _
      rw [drop_take_length]
      rfl
    · dsimp only
      rw [hany, if_neg hcovered, if_neg hcovered]

theorem returnedOf_kept {covered : Nat → Bool} {e : EraseEntry} (h : ¬ e.segments.any covered = true) (others : Nat) :
    returnedOf covered (e, e.replaced covered others) = [] := if_pos (EraseEntry.replaced_kept h others)

theorem returnedOf_replaced {covered : Nat → Bool} {e : EraseEntry} (h : e.segments.any covered = true) (others : Nat) :
    returnedOf covered (e, e.replaced covered others) = e.segments.filter covered
      ++ (e.segments.filter fun id => !covered id).drop (e.replaced covered others).length :=
  if_neg (EraseEntry.replaced_ne_self h others)

/-! ### The walk of a queue -/

theorem EraseEntry.rescue_queue (covered : Nat → Bool) (others : Nat) (e : EraseEntry) :
    (e.rescue covered others).queue = e.replaced covered others := by
  rw [EraseEntry.rescue_eq]
  split
  · rfl
  next h => exact (EraseEntry.replaced_kept h _).symm

theorem rescueWalk_cons (covered : Nat → Bool) (n : Nat) (e : EraseEntry) (q : List EraseEntry) :
    rescueWalk covered n (e :: q)
      = (let r := e.rescue covered (n + q.length)
         let w := rescueWalk covered (n + (e.replaced covered (n + q.length)).length) q
         { queue := e.replaced covered (n + q.length) ++ w.queue, rescued := r.rescued ++ w.rescued
           deferred := r.deferred ++ w.deferred, fillers := r.fillers ++ w.fillers }) := by
  rw [← EraseEntry.rescue_queue]
  rfl

theorem rescueWalk_queue (covered : Nat → Bool) (n : Nat) (q : List EraseEntry) :
    (rescueWalk covered n q).queue = (replacements covered n q).flatMap Prod.snd := by
  induction q generalizing n with
  | nil => rfl
  | cons e q ih => rw [replacements_cons, List.flatMap_cons, ← ih, rescueWalk_cons]

theorem rescueWalk_fillers (covered : Nat → Bool) (n : Nat) (q : List EraseEntry) : (rescueWalk covered n q).fillers
    = (replacements covered n q).flatMap fun p => if p.2 = [p.1] then [] else p.1.fillers := by
  induction q generalizing n with
  | nil => rfl
  | cons e q ih =>
    rw [replacements_cons, List.flatMap_cons, ← ih, rescueWalk_cons]
    dsimp only
    rw [EraseEntry.rescue_eq]
    split
    next h => rw [if_neg (EraseEntry.replaced_ne_self h _)]
    next h => rw [if_pos (EraseEntry.replaced_kept h _)]

theorem mem_rescueWalk_returned (covered : Nat → Bool) (n : Nat) (q : List EraseEntry) (id : Nat) :
    id ∈ (rescueWalk covered n q).rescued ++ (rescueWalk covered n q).deferred
      ↔ id ∈ (replacements covered n q).flatMap (returnedOf covered) := by
  induction q generalizing n with
  | nil => exact Iff.rfl
  | cons e q ih =>
    rw [replacements_cons, List.flatMap_cons, List.mem_append (t := List.flatMap _ _), ← ih, rescueWalk_cons]
    dsimp only
    rw [EraseEntry.rescue_eq]
    split
    next h =>
      rw [returnedOf_replaced h]
      simp only [List.mem_append]
      tauto
    next h =>
      rw [returnedOf_kept h]
      simp

/-- A rescue counts the covered segments, and those not covered that it leaves without an entry. -/
theorem rescueWalk_counts (covered : Nat → Bool) (n : Nat) (q : List EraseEntry) :
    (rescueWalk covered n q).rescued.length = (q.flatMap EraseEntry.segments).countP covered
    ∧ (rescueWalk covered n q).deferred.length
        + (((replacements covered n q).flatMap Prod.snd).flatMap EraseEntry.segments).length
      = (q.flatMap EraseEntry.segments).countP fun id => !covered id := by
  induction q generalizing n with
  | nil => exact ⟨rfl, rfl⟩
  | cons e q ih =>
    obtain ⟨ihr, ihd⟩ := ih (n + (e.replaced covered (n + q.length)).length)
    rw [rescueWalk_cons, replacements_cons]
    dsimp only
    rw [List.length_append, List.length_append, List.flatMap_cons, List.countP_append, List.countP_append, ihr, ← ihd,
      List.flatMap_cons, List.flatMap_append, List.length_append, EraseEntry.rescue_eq]
    split
    next h =>
      have hlen : ((e.replaced covered (n + q.length)).flatMap EraseEntry.segments).length
          = (e.replaced covered (n + q.length)).length := by
        unfold EraseEntry.replaced
        rw [if_pos h, List.flatMap_map, List.length_flatMap]
        simp [EraseEntry.segments, EraseEntry.members]
      have hroom : (e.replaced covered (n + q.length)).length ≤ (e.segments.filter fun id => !covered id).length := by
        unfold EraseEntry.replaced
        rw [if_pos h, List.length_map, List.length_take, ← EraseEntry.segments_filter (fun id => !covered id), List.length_map]
        exact Nat.min_le_right _ _
      refine ⟨by rw [List.countP_eq_length_filter (l := e.segments)], ?_⟩
      rw [List.length_drop, hlen, List.countP_eq_length_filter (l := e.segments)]
      omega
    next h =>
      have hnone : ∀ id ∈ e.segments, covered id = false := by simpa using h
      have hzero : e.segments.countP covered = 0 := List.countP_eq_zero.mpr fun id hid => by simp [hnone id hid]
      have hall : e.segments.countP (fun id => !covered id) = e.segments.length :=
        List.countP_eq_length.mpr fun id hid => by simp [hnone id hid]
      rw [EraseEntry.replaced_kept h, hzero, hall, List.flatMap_singleton]
      exact ⟨rfl, by rw [List.length_nil]; omega⟩

theorem replacements_length_le (covered : Nat → Bool) (n : Nat) (q : List EraseEntry) (h : n + q.length ≤ 64) :
    n + ((replacements covered n q).flatMap Prod.snd).length ≤ 64 := by
  induction q generalizing n with
  | nil => exact h
  | cons e q ih =>
    have hone : (e.replaced covered (n + q.length)).length ≤ 64 - (n + q.length) := by
      unfold EraseEntry.replaced
      rw [List.length_cons] at h
      split
      · rw [List.length_map]
        exact List.length_take_le _ _
      · rw [List.length_singleton]
        omega
    rw [List.length_cons] at h
    rw [replacements_cons, List.flatMap_cons, List.length_append, ← Nat.add_assoc]
    exact ih _ (show n + (e.replaced covered (n + q.length)).length + q.length ≤ 64 by omega)

theorem replacements_uncovered (covered : Nat → Bool) (n : Nat) (q : List EraseEntry) :
    ∀ e ∈ (replacements covered n q).flatMap Prod.snd, ∀ id ∈ e.segments, covered id = false := by
  induction q generalizing n with
  | nil => exact fun e he => nomatch he
  | cons x q ih =>
    rw [replacements_cons, List.flatMap_cons]
    intro e he id hid
    rcases List.mem_append.mp he with hnow | hlater
    · unfold EraseEntry.replaced at hnow
      split at hnow
      next h =>
        obtain ⟨m, hm, rfl⟩ := List.mem_map.mp hnow
        have hcovered := (List.mem_filter.mp (List.mem_of_mem_take hm)).2
        rw [show id = m.2 by simpa [EraseEntry.segments, EraseEntry.members] using hid]
        simpa using hcovered
      next h =>
        rw [List.mem_singleton.mp hnow] at hid
        simpa using fun hc => h (List.any_eq_true.mpr ⟨id, hid, hc⟩)
    · exact ih _ e hlater id hid

end Sys2Proof.Machine
end

section
namespace Sys2Proof.Machine

/-! ### Rescue over the Erase Queues of all targets -/

theorem State.onTarget_onTarget (s : State) (t : TargetNo) (f g : Target → Target) :
    (s.onTarget t f).onTarget t g = s.withTarget t (g (f (s.target t))) := s.onTarget_withTarget t _ g

/-- What a change covers does not turn on the segment's state. -/
def StateFree (covers : SegEntry → Bool) : Prop := ∀ (e : SegEntry) (st : SegState), covers { e with state := st } = covers e

/-- The issued erase entry at the head of a target's queue, if any. -/
def State.issuedAhead (s : State) (t : TargetNo) : List EraseEntry :=
  if (s.target t).erase = none then [] else (s.target t).queue.take 1

/-- R134 on one target of `x`, whose Erase Queue stands as in `s`. -/
def State.rescuedFrom (s : State) (covers : SegEntry → Bool) (x : State) (t : TargetNo) : State :=
  x.walkedOver t (s.covering covers) (s.issuedAhead t) (s.target t).unissued []

section
variable {covers : SegEntry → Bool} (s x : State)

theorem State.coveredBy_eq : s.coveredBy covers = s.covering covers := by
  funext id
  unfold State.coveredBy State.covering
  refine congrArg (Option.any · (s.entry? id)) (funext fun e => ?_)
  rw [Bool.and_comm]
  rfl

theorem State.target_walkedOver_same (t : TargetNo) (c : Nat → Bool) (a q b : List EraseEntry) :
    (x.walkedOver t c a q b).target t = { (x.target t).withExtents
        ((replacements c (a.length + b.length) q).flatMap fun p => if p.2 = [p.1] then [] else p.1.fillers) .free with
      queue := a ++ (replacements c (a.length + b.length) q).flatMap Prod.snd ++ b } :=
  vget_vset_same _ _ _

theorem State.target_walkedOver_of_ne {t u : TargetNo} (h : u ≠ t) (c : Nat → Bool) (a q b : List EraseEntry) :
    (x.walkedOver t c a q b).target u = x.target u :=
  (x.target_withTarget t u _).trans (if_neg h)

theorem State.walkedOver_covering (hcovers : StateFree covers) (t : TargetNo) (c : Nat → Bool) (a q b : List EraseEntry) :
    (x.walkedOver t c a q b).covering covers = x.covering covers := by
  funext id
  unfold State.covering
  have hfind : (x.walkedOver t c a q b).entry? id = (x.entry? id).map fun e =>
      if ((replacements c (a.length + b.length) q).flatMap (returnedOf c)).contains e.id then { e with state := .stored } else e :=
    find?_map_of_keeps (p := fun e : SegEntry => e.id = id) (fun e => by split <;> rfl) x.dir
  rw [hfind, Option.any_map]
  refine congrArg (Option.any · (x.entry? id)) (funext fun e => ?_)
  split
  · rw [hcovers]
  · rfl

theorem State.issuedAhead_length (t : TargetNo) :
    (s.issuedAhead t).length + (s.target t).unissued.length = (s.target t).queue.length := by
  unfold State.issuedAhead Target.unissued
  cases (s.target t).erase with
  | none => simp
  | some y => cases (s.target t).queue <;> simp [Nat.add_comm]

theorem State.rescueTarget_fst (t : TargetNo) :
    (State.rescueTarget covers s t).1 = s.rescuedFrom covers s t := by
  have hissued : (if (s.target t).erase.isSome then (s.target t).queue.take 1 else []) = s.issuedAhead t := by
    unfold State.issuedAhead
    cases (s.target t).erase <;> rfl
  unfold State.rescueTarget State.rescuedFrom State.walkedOver State.applyRescue
  dsimp only
  rw [hissued, State.coveredBy_eq, rescueWalk_queue, rescueWalk_fillers, State.onTarget_onTarget,
    Target.setExtents_withExtents, List.append_nil]
  have hback : ∀ e : SegEntry, ((rescueWalk (s.covering covers) (s.issuedAhead t).length (s.target t).unissued).rescued
        ++ (rescueWalk (s.covering covers) (s.issuedAhead t).length (s.target t).unissued).deferred).contains e.id
      = ((replacements (s.covering covers) (s.issuedAhead t).length (s.target t).unissued).flatMap
          (returnedOf (s.covering covers))).contains e.id := fun e => by
    rw [Bool.eq_iff_iff, List.contains_iff_mem, List.contains_iff_mem, mem_rescueWalk_returned]
  simp only [hback]
  rfl

/-- R136: the figures of one target. -/
theorem State.rescueTarget_snd (t : TargetNo) : (State.rescueTarget covers s t).2
    = { rescued := ((s.target t).unissued.flatMap EraseEntry.segments).countP (s.covering covers)
        lost := (if (s.target t).erase = none then [] else (s.target t).queue.head?.toList.flatMap EraseEntry.segments).countP
          (s.covering covers)
        deferred := (rescueWalk (s.covering covers) (s.issuedAhead t).length (s.target t).unissued).deferred.length } := by
  have hissued : (if (s.target t).erase.isSome then (s.target t).queue.take 1 else []) = s.issuedAhead t := by
    unfold State.issuedAhead
    cases (s.target t).erase <;> rfl
  have hlost : (s.target t).lostMembers (s.covering covers) = (if (s.target t).erase = none then []
      else (s.target t).queue.head?.toList.flatMap EraseEntry.segments).countP (s.covering covers) := by
    unfold Target.lostMembers
    cases (s.target t).erase with
    | none => rfl
    | some y => cases (s.target t).queue <;> simp [List.countP_eq_length_filter]
  unfold State.rescueTarget
  dsimp only
  rw [hissued, State.coveredBy_eq, hlost, (rescueWalk_counts _ _ _).1]

/-- R134 to R136 over targets in turn: each is walked over as it stood at the acceptance. -/
theorem State.rescue_foldl (hcovers : StateFree covers) (l : List TargetNo) (hl : l.Nodup) (a : Figures)
    (htargets : ∀ v ∈ l, x.target v = s.target v) (hcovering : x.covering covers = s.covering covers) :
    l.foldl (fun a t => ((State.rescueTarget covers a.1 t).1, a.2.plus (State.rescueTarget covers a.1 t).2)) (x, a)
      = (l.foldl (s.rescuedFrom covers) x, l.foldl (fun a t => a.plus (State.rescueTarget covers s t).2) a) := by
  induction l generalizing x a with
  | nil => rfl
  | cons t l ih =>
    obtain ⟨hnotin, hrest⟩ := List.nodup_cons.mp hl
    have ht : x.target t = s.target t := htargets t (List.mem_cons_self ..)
    have hahead : x.issuedAhead t = s.issuedAhead t := by
      unfold State.issuedAhead
      rw [ht]
    have hfst : (State.rescueTarget covers x t).1 = s.rescuedFrom covers x t := by
      rw [State.rescueTarget_fst]
      unfold State.rescuedFrom
      rw [hahead, ht, hcovering]
    have hsnd : (State.rescueTarget covers x t).2 = (State.rescueTarget covers s t).2 := by
      rw [State.rescueTarget_snd, State.rescueTarget_snd, hahead, ht, hcovering]
    rw [List.foldl_cons, List.foldl_cons, List.foldl_cons, hfst, hsnd]
    refine ih _ hrest _ (fun v hv => ?_) ?_
    · exact (State.target_walkedOver_of_ne x (by rintro rfl; exact hnotin hv) _ _ _ _).trans (htargets v (List.mem_cons_of_mem _ hv))
    · exact (State.walkedOver_covering x hcovers _ _ _ _ _).trans hcovering

theorem State.rescue_eq (hcovers : StateFree covers) : s.rescue covers
    = (allTargets.foldl (s.rescuedFrom covers) s, allTargets.foldl (fun a t => a.plus (State.rescueTarget covers s t).2) {}) :=
  State.rescue_foldl s s hcovers allTargets (by decide) {} (fun _ _ => rfl) rfl

theorem State.foldl_rescuedFrom_covering (hcovers : StateFree covers) (l : List TargetNo) :
    (l.foldl (s.rescuedFrom covers) x).covering covers = x.covering covers := by
  induction l generalizing x with
  | nil => rfl
  | cons t l ih =>
    rw [List.foldl_cons, ih]
    exact State.walkedOver_covering x hcovers _ _ _ _ _

theorem State.foldl_rescuedFrom_target {l : List TargetNo} (hl : l.Nodup) (t : TargetNo) :
    (l.foldl (s.rescuedFrom covers) x).target t
      = if t ∈ l then { (x.target t).withExtents ((replacements (s.covering covers) (s.issuedAhead t).length
            (s.target t).unissued).flatMap fun p => if p.2 = [p.1] then [] else p.1.fillers) .free with
          queue := s.issuedAhead t
            ++ (replacements (s.covering covers) (s.issuedAhead t).length (s.target t).unissued).flatMap Prod.snd }
        else x.target t := by
  induction l generalizing x with
  | nil => rfl
  | cons u l ih =>
    obtain ⟨hnotin, hrest⟩ := List.nodup_cons.mp hl
    rw [List.foldl_cons, ih _ hrest]
    by_cases htu : t = u
    · subst htu
      rw [if_neg hnotin, if_pos (List.mem_cons_self ..)]
      refine (State.target_walkedOver_same x t _ _ _ _).trans ?_
      rw [List.append_nil]
      rfl
    · have hsame : (s.rescuedFrom covers x u).target t = x.target t := State.target_walkedOver_of_ne x htu _ _ _ _
      rw [hsame]
      simp only [List.mem_cons, htu, false_or]

/-- The un-issued erase entries of a target after a rescue. -/
theorem State.unissued_rescued {t : TargetNo} {k : Target} (herase : k.erase = (s.target t).erase)
    (hqueue : k.queue = s.issuedAhead t
      ++ (replacements (s.covering covers) (s.issuedAhead t).length (s.target t).unissued).flatMap Prod.snd) :
    k.unissued = (replacements (s.covering covers) (s.issuedAhead t).length (s.target t).unissued).flatMap Prod.snd := by
  unfold Target.unissued State.issuedAhead at *
  rw [herase, hqueue]
  cases (s.target t).erase with
  | none => rfl
  | some y =>
    cases (s.target t).queue with
    | nil => rfl
    | cons e q => rfl

end

end Sys2Proof.Machine
end

section
/-! The change directives of the Hold Store (R130 to R140) and the end of a program (R132). -/

namespace Sys2Proof.Machine

/-! ### The rescue of an acceptance -/

/-- The Hold Store and the directive in hand changed. -/
def State.withHold (s : State) (c : Option Directive) (h : HoldStore) : State := { s with current := c, hold := h }

section
variable {covers : SegEntry → Bool} (s : State)

theorem State.withHold_rescuedFrom (x : State) (c : Option Directive) (h : HoldStore) (t : TargetNo) :
    (s.withHold c h).rescuedFrom covers (x.withHold c h) t = (s.rescuedFrom covers x t).withHold c h := rfl

theorem State.foldl_withHold (l : List TargetNo) (x : State) (c : Option Directive) (h : HoldStore) :
    l.foldl ((s.withHold c h).rescuedFrom covers) (x.withHold c h) = (l.foldl (s.rescuedFrom covers) x).withHold c h := by
  induction l generalizing x with
  | nil => rfl
  | cons t l ih => rw [List.foldl_cons, List.foldl_cons, State.withHold_rescuedFrom, ih]

theorem State.withHold_rescue (hcovers : StateFree covers) (c : Option Directive) (h : HoldStore) :
    (s.withHold c h).rescue covers = ((s.rescue covers).1.withHold c h, (s.rescue covers).2) := by
  have hfigures : ∀ t, (State.rescueTarget covers (s.withHold c h) t).2 = (State.rescueTarget covers s t).2 := fun t => by
    rw [State.rescueTarget_snd, State.rescueTarget_snd]
    rfl
  rw [State.rescue_eq _ hcovers, State.rescue_eq _ hcovers, State.foldl_withHold]
  simp only [hfigures]

theorem State.rescue_target (hcovers : StateFree covers) (t : TargetNo) : ((s.rescue covers).1).target t
    = { (s.target t).withExtents ((replacements (s.covering covers) (s.issuedAhead t).length
          (s.target t).unissued).flatMap fun p => if p.2 = [p.1] then [] else p.1.fillers) .free with
        queue := s.issuedAhead t
          ++ (replacements (s.covering covers) (s.issuedAhead t).length (s.target t).unissued).flatMap Prod.snd } := by
  rw [State.rescue_eq _ hcovers, State.foldl_rescuedFrom_target s s (by decide) t, if_pos (by revert t; decide)]

theorem State.rescue_unissued (hcovers : StateFree covers) (t : TargetNo) : (((s.rescue covers).1).target t).unissued
    = (replacements (s.covering covers) (s.issuedAhead t).length (s.target t).unissued).flatMap Prod.snd := by
  rw [s.rescue_target hcovers t]
  exact s.unissued_rescued rfl rfl

theorem State.rescue_noneQueued (hcovers : StateFree covers) : (s.rescue covers).1.NoneQueued covers := by
  intro t q hq id hid e he
  rw [s.rescue_unissued hcovers t] at hq
  have huncovered := replacements_uncovered _ _ _ q hq id hid
  have hcovering : (s.rescue covers).1.covering covers = s.covering covers := by
    rw [State.rescue_eq _ hcovers]
    exact s.foldl_rescuedFrom_covering s hcovers allTargets
  rw [← hcovering] at huncovered
  unfold State.covering at huncovered
  rw [he, Option.any_some] at huncovered
  rintro ⟨hc, r, hr, hfirm⟩
  rw [hc, Bool.true_and, List.any_eq_false] at huncovered
  exact huncovered r hr (decide_eq_true hfirm)

theorem State.rescue_queueBound (hcovers : StateFree covers) (t : TargetNo) (h : (s.target t).queue.length ≤ 64) :
    (((s.rescue covers).1).target t).queue.length ≤ 64 := by
  rw [s.rescue_target hcovers t]
  have hlen := s.issuedAhead_length t
  have hbound := replacements_length_le (s.covering covers) (s.issuedAhead t).length (s.target t).unissued (by omega)
  rw [← List.length_append] at hbound
  exact hbound

/-- The Hold Store has no part in a rescue. -/
theorem State.rescuedTo_of_fold {s u : State} (hfold : u = allTargets.foldl (s.rescuedFrom covers) s)
    (hnone : u.NoneQueued covers) (hbound : ∀ t, (s.target t).queue.length ≤ 64 → (u.target t).queue.length ≤ 64)
    (h : HoldStore) : s.RescuedTo covers { u with hold := h } :=
  ⟨congrArg (fun x : State => { x with hold := h }) hfold, hnone, hbound⟩

theorem State.rescue_fst (hcovers : StateFree covers) :
    (s.rescue covers).1 = allTargets.foldl (s.rescuedFrom covers) s := by
  rw [s.rescue_eq hcovers]

/-- R134, R135, with the Hold Store as the acceptance leaves it. -/
theorem State.rescue_rescuedTo (hcovers : StateFree covers) (h : HoldStore) :
    s.RescuedTo covers { (s.rescue covers).1 with hold := h } := by
  have hfold := s.rescue_fst hcovers
  have hnone := s.rescue_noneQueued hcovers
  have hbound := s.rescue_queueBound hcovers
  exact State.rescuedTo_of_fold hfold hnone hbound h

/-- R136. -/
theorem State.rescue_figures (hcovers : StateFree covers) (h : HoldStore) :
    s.RescueFigures covers { (s.rescue covers).1 with hold := h } (s.rescue covers).2 := by
  have hunissued : ∀ t : TargetNo, (((s.rescue covers).1).target t).unissued
      = (replacements (s.covering covers) (s.issuedAhead t).length (s.target t).unissued).flatMap Prod.snd :=
    s.rescue_unissued hcovers
  have hcount : ∀ t : TargetNo, (State.rescueTarget covers s t).2.deferred
      + ((((s.rescue covers).1).target t).unissued.flatMap EraseEntry.segments).length
      = ((s.target t).unissued.flatMap EraseEntry.segments).countP fun id => !s.covering covers id := fun t => by
    rw [hunissued, State.rescueTarget_snd]
    exact (rescueWalk_counts _ _ _).2
  have hsnd : (s.rescue covers).2 = ((((({} : Figures).plus (State.rescueTarget covers s 0).2).plus
      (State.rescueTarget covers s 1).2).plus (State.rescueTarget covers s 2).2).plus (State.rescueTarget covers s 3).2) := by
    rw [State.rescue_eq _ hcovers]
    rfl
  have hafter : ∀ u : State, ({ u with hold := h } : State).unissuedSegments = u.unissuedSegments := fun _ => rfl
  refine ⟨?_, ?_, ?_⟩
  · rw [hsnd]
    show _ = s.unissuedSegments.countP (s.covering covers)
    unfold State.unissuedSegments
    simp only [List.flatMap_cons, List.flatMap_nil, List.countP_append, Figures.plus, State.rescueTarget_snd, List.countP_nil]
    omega
  · rw [hsnd]
    show _ = List.countP (s.covering covers) _
    simp only [List.flatMap_cons, List.flatMap_nil, List.countP_append, Figures.plus, State.rescueTarget_snd, List.countP_nil]
    omega
  · rw [hsnd, hafter]
    show _ = s.unissuedSegments.countP fun id => !s.covering covers id
    unfold State.unissuedSegments
    have h0 := hcount 0
    have h1 := hcount 1
    have h2 := hcount 2
    have h3 := hcount 3
    simp only [List.flatMap_cons, List.flatMap_nil, List.countP_append, List.length_append, Figures.plus, List.countP_nil,
      List.length_nil]
    omega

end

/-- R133, R140: an acceptance with its rescue, the directive taken. -/
theorem State.rescue_of_takes {s : State} {code : Nat} {tag : Tag} {payload : List Byte} {rest : List Directive}
    (h : s.Takes code tag payload rest) {covers : SegEntry → Bool} (hcovers : StateFree covers) (f : HoldStore → HoldStore)
    (op : Figures → HoldOp) :
    let d : Directive := { code := code, tag := tag, payload := payload }
    let r := (((s.takeDirective d).reserve tag).onHold f).rescue covers
    (r.1.onHold fun h => { h with unit := some (op r.2) }).setCurrent none
      = { ((s.tookLong rest tag).rescue covers).1 with
          hold := { f s.hold with unit := some (op ((s.tookLong rest tag).rescue covers).2) } } := by
  intro d
  have hstart : ((s.takeDirective d).reserve tag).onHold f
      = (s.tookLong rest tag).withHold (s.takeDirective d).current (f s.hold) := by
    have htook : s.takeDirective d = (s.took rest).setCurrent (s.takeDirective d).current := by
      rw [← State.takeDirective_none h]
      rfl
    rw [htook]
    rfl
  have hcurrent : ((s.tookLong rest tag).rescue covers).1.current = none := by
    rw [State.rescue_eq _ hcovers]
    exact (State.foldl_keeps State.current (f := (s.tookLong rest tag).rescuedFrom covers) (fun _ _ => rfl) _ _).trans h.1
  dsimp only
  rw [hstart, State.withHold_rescue _ hcovers]
  generalize (s.tookLong rest tag).rescue covers = r at hcurrent
  show ({ r.1 with current := none, hold := _ } : State) = _
  rw [← hcurrent]
  rfl

/-! ### Protection and the program unit -/

theorem HoldStore.forbids_iff (h : HoldStore) :
    h.forbids = true ↔ h.mode = .pinned ∨ (h.mode = .line ∧ h.line = h.level) := by
  unfold HoldStore.forbids HoldStore.lineActive
  cases h.mode <;> simp

theorem HoldStore.busy_iff (h : HoldStore) : h.busy = true ↔ h.unit ≠ none ∨ h.lapsePending ≠ [] := by
  unfold HoldStore.busy
  cases h.unit <;> cases h.lapsePending <;> simp

theorem HoldStore.blocked_eq (h : HoldStore) : h.blocked
    = if h.forbids then some .refusedProtect else if h.busy then some .busy else none := by
  unfold HoldStore.blocked
  simp only [h.forbids_iff, h.busy_iff]

end Sys2Proof.Machine
end

section
namespace Sys2Proof.Machine

/-! ### Reading the change directives -/

theorem optAt_eq (l : List Byte) (off w : Nat) : optAt l off w = if 1 < octetAt l off then none
    else some (if octetAt l off = 1 then none else some (fieldAt l (off + 1) w)) := by
  unfold optAt
  split
  next h => simp [h]
  split
  next h => simp [h]
  next h0 h1 => exact (if_pos (by omega)).symm

theorem anchorOf_eq (n : Nat) : anchorOf n = if n ≠ 1 ∧ n ≠ 2 then none
    else some (if n = 1 then .newest else .oldest) := by
  unfold anchorOf
  split
  · rfl
  · rfl
  next h1 h2 => exact (if_pos ⟨h1, h2⟩).symm

theorem holdKindOf_eq (n : Nat) : holdKindOf n = if n ≠ 1 ∧ n ≠ 2 then none
    else some (if n = 1 then .revocable else .irrevocable) := by
  unfold holdKindOf
  split
  · rfl
  · rfl
  next h1 h2 => exact (if_pos ⟨h1, h2⟩).symm

theorem protectModeOf_eq (n : Nat) : protectModeOf n = if n ≠ 1 ∧ n ≠ 2 ∧ n ≠ 3 then none
    else some (if n = 1 then .opened else if n = 2 then .line else .pinned) := by
  unfold protectModeOf
  split
  · rfl
  · rfl
  · rfl
  next h1 h2 h3 => exact (if_pos ⟨h1, h2, h3⟩).symm

theorem levelOf_eq (n : Nat) : levelOf n = if n ≠ 1 ∧ n ≠ 2 then none
    else some (if n = 1 then .high else .low) := by
  unfold levelOf
  split
  · rfl
  · rfl
  next h1 h2 => exact (if_pos ⟨h1, h2⟩).symm

theorem readSetGuard_eq {l : List Byte} (h : l.length = 6) : readSetGuard l
    = if (octetAt l 0 ≠ 1 ∧ octetAt l 0 ≠ 2) ∨ 4095 < fieldAt l 1 4 ∨ 1 < octetAt l 5 then none else some
        { anchor := if octetAt l 0 = 1 then .newest else .oldest, span := fieldAt l 1 4
          complement := decide (octetAt l 5 = 1) } := by
  unfold readSetGuard
  rw [if_pos h, anchorOf_eq, flagAt_eq]
  by_cases hanchor : octetAt l 0 ≠ 1 ∧ octetAt l 0 ≠ 2
  · rw [if_pos hanchor, if_pos (Or.inl hanchor)]
  by_cases hflag : 1 < octetAt l 5
  · rw [if_neg hanchor, if_pos hflag, if_pos (Or.inr (Or.inr hflag))]
  by_cases hspan : 4095 < fieldAt l 1 4
  · rw [if_neg hanchor, if_neg hflag, if_pos (Or.inr (Or.inl hspan))]
    exact if_neg (by omega)
  · have hgood : ¬ ((octetAt l 0 ≠ 1 ∧ octetAt l 0 ≠ 2) ∨ 4095 < fieldAt l 1 4 ∨ 1 < octetAt l 5) := by tauto
    rw [if_neg hanchor, if_neg hflag, if_neg hgood]
    exact if_pos (by omega)

theorem readSetProtectMode_eq {l : List Byte} (h : l.length = 2) : readSetProtectMode l
    = if (octetAt l 0 ≠ 1 ∧ octetAt l 0 ≠ 2 ∧ octetAt l 0 ≠ 3) ∨ (octetAt l 1 ≠ 1 ∧ octetAt l 1 ≠ 2) then none else some
        (if octetAt l 0 = 1 then .opened else if octetAt l 0 = 2 then .line else .pinned,
          if octetAt l 1 = 1 then .high else .low) := by
  unfold readSetProtectMode
  rw [if_pos h, protectModeOf_eq, levelOf_eq]
  by_cases hmode : octetAt l 0 ≠ 1 ∧ octetAt l 0 ≠ 2 ∧ octetAt l 0 ≠ 3
  · rw [if_pos hmode, if_pos (Or.inl hmode)]
  by_cases hlevel : octetAt l 1 ≠ 1 ∧ octetAt l 1 ≠ 2
  · rw [if_neg hmode, if_pos hlevel, if_pos (Or.inr hlevel)]
  · rw [if_neg hmode, if_neg hlevel, if_neg (not_or.mpr ⟨hmode, hlevel⟩)]

/-- What makes the parameters of a hold unsound, in the words of R133. -/
theorem Hold.sound_iff (x : Hold) : x.sound = true ↔ x.id ≠ 0 ∧ x.id ≤ 65535 ∧ x.firstDay ≤ x.lastDay
    ∧ (x.kind = .revocable ∨ ∃ d, x.release = some d ∧ x.lastDay ≤ d) := by
  simp [Hold.sound, Option.any_eq_true, and_assoc]

/-- The octets hold no request that ADD HOLD can take (R133). -/
abbrev AddHoldBad (l : List Byte) : Prop :=
  fieldAt l 0 4 = 0 ∨ 65535 < fieldAt l 0 4 ∨ fieldAt l 6 2 < fieldAt l 4 2 ∨ (octetAt l 10 ≠ 1 ∧ octetAt l 10 ≠ 2)
    ∨ 1 < octetAt l 11 ∨ (octetAt l 10 = 2 ∧ (octetAt l 11 = 1 ∨ fieldAt l 12 2 < fieldAt l 6 2))

/-- The hold that the octets spell. -/
def addHoldAt (l : List Byte) : Hold :=
  { id := fieldAt l 0 4, firstDay := fieldAt l 4 2, lastDay := fieldAt l 6 2
    classMask := BitVec.ofNat 16 (fieldAt l 8 2)
    kind := if octetAt l 10 = 1 then .revocable else .irrevocable
    release := if octetAt l 10 = 1 then none else some (fieldAt l 12 2), marked := false }

theorem readAddHold_of_named {l : List Byte} (h : l.length = 14) (hkind : octetAt l 10 = 1 ∨ octetAt l 10 = 2)
    (hmark : octetAt l 11 ≤ 1) : readAddHold l
      = (let release := if octetAt l 10 = 1 ∨ octetAt l 11 = 1 then none else some (fieldAt l 12 2)
         let x := { addHoldAt l with release := release }
         if x.sound then some x else none) := by
  unfold readAddHold addHoldAt
  rw [if_pos h, holdKindOf_eq, optAt_eq, if_neg (show ¬ 1 < octetAt l 11 by omega),
    if_neg (show ¬ (octetAt l 10 ≠ 1 ∧ octetAt l 10 ≠ 2) by omega)]
  rcases hkind with hk | hk
  · simp only [hk, if_true, true_or, reduceCtorEq, if_false]
  · simp only [hk, Nat.reduceEqDiff, false_or, if_false, if_true]

theorem readAddHold_bad {l : List Byte} (h : l.length = 14) (hbad : AddHoldBad l) : readAddHold l = none := by
  by_cases hkind : octetAt l 10 = 1 ∨ octetAt l 10 = 2
  case neg =>
    unfold readAddHold
    rw [if_pos h, holdKindOf_eq, if_pos (show octetAt l 10 ≠ 1 ∧ octetAt l 10 ≠ 2 by omega)]
  by_cases hmark : octetAt l 11 ≤ 1
  case neg =>
    unfold readAddHold
    rw [if_pos h, optAt_eq, if_pos (show 1 < octetAt l 11 by omega)]
    split
    next hnone => cases hnone
    next => rfl
  rw [readAddHold_of_named h hkind hmark]
  refine if_neg fun hsound => ?_
  obtain ⟨hid, hmax, hdays, hrevocable | ⟨d, hd, hle⟩⟩ := (Hold.sound_iff _).mp hsound
  · have hone : octetAt l 10 = 1 := by
      by_contra hne
      rw [show (addHoldAt l).kind = .irrevocable from if_neg hne] at hrevocable
      cases hrevocable
    rcases hbad with hb | hb | hb | hb | hb | hb
    · exact hid hb
    · exact absurd hmax (Nat.not_le.mpr hb)
    · exact absurd hdays (Nat.not_le.mpr hb)
    all_goals omega
  · dsimp only at hd
    split at hd
    · cases hd
    · cases hd
      rcases hbad with hb | hb | hb | hb | hb | hb
      · exact hid hb
      · exact absurd hmax (Nat.not_le.mpr hb)
      · exact absurd hdays (Nat.not_le.mpr hb)
      · omega
      · omega
      · have : fieldAt l 6 2 ≤ fieldAt l 12 2 := hle
        omega

theorem readAddHold_good {l : List Byte} (h : l.length = 14) (hgood : ¬ AddHoldBad l) :
    readAddHold l = some (addHoldAt l) := by
  have hkind : octetAt l 10 = 1 ∨ octetAt l 10 = 2 := by omega
  rw [readAddHold_of_named h hkind (by omega)]
  dsimp only
  have hrelease : (if octetAt l 10 = 1 ∨ octetAt l 11 = 1 then none else some (fieldAt l 12 2)) = (addHoldAt l).release := by
    unfold addHoldAt
    rcases hkind with hk | hk
    · simp [hk]
    · have hmark : octetAt l 11 ≠ 1 := by omega
      simp [hk, hmark]
  rw [hrelease]
  refine if_pos ((Hold.sound_iff _).mpr ⟨?_, ?_, ?_, ?_⟩)
  · exact fun hid => hgood (Or.inl hid)
  · exact Nat.not_lt.mp fun hbig => hgood (Or.inr (Or.inl hbig))
  · exact Nat.not_lt.mp fun hlt => hgood (Or.inr (Or.inr (Or.inl hlt)))
  · rcases hkind with hk | hk
    · exact Or.inl (if_pos hk)
    · exact Or.inr ⟨fieldAt l 12 2, if_neg (by omega), show fieldAt l 6 2 ≤ fieldAt l 12 2 by omega⟩

end Sys2Proof.Machine
end

section
namespace Sys2Proof.Machine

/-! ### The change directives, taken -/

section
variable {s : State} {tag : Tag} {payload : List Byte} {rest : List Directive}

theorem setGuard_of_takes (h : s.Takes 0x0B tag payload rest) {g : Guard} (hread : readSetGuard payload = some g) :
    setGuard s = match s.hold.blocked with
      | some r => s.turnedDown rest tag r
      | none =>
        let covers : SegEntry → Bool := fun e => g.covers s.now.day (oldestDay s.dir) e.day
        let r := (s.tookLong rest tag).rescue covers
        { r.1 with hold := { s.hold with guard := g, unit := some (.guard tag s.hold.guard r.2) } } := by
  unfold setGuard
  rw [State.directive_of_takes h hread, HoldStore.blocked_eq, show (s.takeDirective _).hold = s.hold from rfl]
  split
  · exact State.refuse_of_takes h _
  split
  · exact State.refuse_of_takes h _
  · exact State.rescue_of_takes h (covers := fun e => g.covers s.now.day (oldestDay s.dir) e.day) (fun _ _ => rfl)
      (fun u => { u with guard := g }) (fun figs => .guard tag s.hold.guard figs)

theorem addHold_of_takes (h : s.Takes 0x0C tag payload rest) {x : Hold} (hread : readAddHold payload = some x) :
    addHold s = if s.hold.holds.any (·.id = x.id) then s.turnedDown rest tag .refusedRange
      else if s.holdMisplaced x then s.turnedDown rest tag .refusedState
      else match s.hold.blocked with
        | some r => s.turnedDown rest tag r
        | none =>
          let covers : SegEntry → Bool := fun e => x.covers e.day e.cls
          let r := (s.tookLong rest tag).rescue covers
          { r.1 with hold := { s.hold with holds := insertHold x s.hold.holds, unit := some (.add tag x r.2) } } := by
  unfold addHold
  rw [State.directive_of_takes h hread, HoldStore.blocked_eq, show (s.takeDirective _).hold = s.hold from rfl,
    show (s.takeDirective _).holdMisplaced x = s.holdMisplaced x from rfl]
  split
  · exact State.refuse_of_takes h _
  split
  · exact State.refuse_of_takes h _
  split
  · exact State.refuse_of_takes h _
  split
  · exact State.refuse_of_takes h _
  · exact State.rescue_of_takes h (covers := fun e => x.covers e.day e.cls) (fun _ _ => rfl)
      (fun u => { u with holds := insertHold x u.holds }) (fun figs => .add tag x figs)

theorem State.holdChange_of_takes {code : Nat} (h : s.Takes code tag payload rest) (f : HoldStore → HoldStore) :
    (((s.takeDirective { code := code, tag := tag, payload := payload }).reserve tag).onHold f).setCurrent none
      = { s.tookLong rest tag with hold := f s.hold } := by
  have htook := congrArg (fun u : State => (u.reserve tag).onHold f) (State.takeDirective_none h)
  exact htook

theorem dropHold_of_takes (h : s.Takes 0x0D tag payload rest) {id : Nat} (hread : readNumber 4 payload = some id) :
    dropHold s = if id = 0 ∨ 65535 < id then s.turnedDown rest tag .refusedRange
      else match s.hold.holds.find? (·.id = id) with
        | none => s.turnedDown rest tag .notFound
        | some x =>
          if s.hold.forbids ∨ s.mustStand x then s.turnedDown rest tag .refusedProtect
          else if s.hold.busy then s.turnedDown rest tag .busy
          else { s.tookLong rest tag with hold := { s.hold with
              holds := s.hold.holds.map fun z => if z.id = id then { z with marked := true } else z
              unit := some (.drop tag id) } } := by
  unfold dropHold
  rw [State.directive_of_takes h hread, show (s.takeDirective _).hold = s.hold from rfl]
  split
  · exact State.refuse_of_takes h _
  cases s.hold.holds.find? (·.id = id) with
  | none => exact State.refuse_of_takes h _
  | some x =>
    dsimp only
    rw [show (s.takeDirective _).mustStand x = s.mustStand x from rfl]
    split
    · exact State.refuse_of_takes h _
    split
    · exact State.refuse_of_takes h _
    · exact State.holdChange_of_takes h _

theorem setProtectMode_of_takes (h : s.Takes 0x0E tag payload rest) {p : ProtectMode × Level}
    (hread : readSetProtectMode payload = some p) :
    setProtectMode s = if p.1 = s.hold.mode ∧ p.2 = s.hold.level then (s.took rest).replied tag .done false []
      else if ¬ s.hold.raises p.1 p.2 ∧ s.hold.forbids then s.turnedDown rest tag .refusedProtect
      else if s.hold.busy then s.turnedDown rest tag .busy
      else { s.tookLong rest tag with hold := { s.hold with
          mode := p.1, level := p.2, unit := some (.mode tag s.hold.mode s.hold.level) } } := by
  unfold setProtectMode
  rw [State.directive_of_takes h hread, show (s.takeDirective _).hold = s.hold from rfl]
  split
  · exact State.answer_of_takes h _ _
  split
  · exact State.refuse_of_takes h _
  split
  · exact State.refuse_of_takes h _
  · exact State.holdChange_of_takes h _

end

/-! ### The checks, in the words of the statements -/

theorem State.holdMisplaced_iff (s : State) (x : Hold) : s.holdMisplaced x = true
    ↔ 32 ≤ s.hold.holds.length ∨ (x.kind = .irrevocable
      ∧ (s.clock.mode = .notSet ∨ ∃ d, x.release = some d ∧ d < s.now.day)) := by
  have htoday : ∀ d : Nat, decide (d < s.today) = decide (d < s.now.day) := fun _ => rfl
  simp only [State.holdMisplaced, Config.holdCap, htoday, Option.any_eq_true, Bool.or_eq_true, Bool.and_eq_true,
    decide_eq_true_eq]

theorem State.mustStand_iff (s : State) (x : Hold) : s.mustStand x = true
    ↔ x.kind = .irrevocable ∧ (s.clock.mode = .notSet ∨ ∃ d, x.release = some d ∧ s.now.day ≤ d) := by
  have htoday : ∀ d : Nat, decide (s.today ≤ d) = decide (s.now.day ≤ d) := fun _ => rfl
  simp only [State.mustStand, htoday, Option.any_eq_true, Bool.or_eq_true, Bool.and_eq_true, decide_eq_true_eq]

theorem HoldStore.raises_iff (h : HoldStore) (m : ProtectMode) (l : Level) : h.raises m l = true
    ↔ l = h.level ∧ (m = .pinned ∨ m = .line ∧ h.mode = .opened) := by
  simp [HoldStore.raises]

theorem HoldStore.blocked_protect_iff (h : HoldStore) : h.blocked = some .refusedProtect ↔ h.forbids = true := by
  rw [HoldStore.blocked_eq]
  cases h.forbids <;> cases h.busy <;> simp

/-- What the statements say of an acceptance (R133 to R136, R140). -/
theorem State.acceptance_meets {s : State} {rest : List Directive} {tag : Tag} {covers : SegEntry → Bool}
    (hcovers : StateFree covers) (g : Figures → HoldStore) {x : Host.Outcome State Fault Refusal}
    (hx : x = .next { ((s.tookLong rest tag).rescue covers).1 with
      hold := g ((s.tookLong rest tag).rescue covers).2 }) :
    ∃ t figs, x = .next t ∧ (s.tookLong rest tag).RescuedTo covers t ∧ s.RescueFigures covers t figs ∧ t.hold = g figs := by
  have hrescued := (s.tookLong rest tag).rescue_rescuedTo hcovers (g ((s.tookLong rest tag).rescue covers).2)
  have hfigures := (s.tookLong rest tag).rescue_figures hcovers (g ((s.tookLong rest tag).rescue covers).2)
  generalize (s.tookLong rest tag).rescue covers = r at hx hrescued hfigures
  exact ⟨_, _, hx, hrescued, hfigures, rfl⟩

/-- Settles O43. -/
theorem holdChanges : Obligations.HoldChanges := by
  unfold Obligations.HoldChanges
  intro s tag payload rest
  refine ⟨fun x h hread => ?_, fun hlen => ⟨fun hbad h => ?_, ?_⟩, fun hlen => ⟨fun hbad h => ?_, readSetGuard_eq hlen⟩,
    fun hlen => ⟨fun hbad h => ?_, readSetProtectMode_eq hlen⟩, fun g h hread => ?_, fun id h hread => ?_,
    fun m l h hread => ?_⟩
  · have hexec := addHold_of_takes h hread
    simp only [List.any_eq_true, decide_eq_true_eq, State.holdMisplaced_iff] at hexec
    intro refusal
    have hcovers : StateFree fun e => x.covers e.day e.cls := fun _ _ => rfl
    by_cases hid : ∃ y ∈ s.hold.holds, y.id = x.id
    · have hrefusal : refusal = some .refusedRange := if_pos hid
      rw [if_pos hid] at hexec
      exact ⟨fun r hr => congrArg Host.Outcome.next (hexec.trans (by cases hrefusal.symm.trans hr; rfl)),
        fun hr => nomatch hrefusal.symm.trans hr⟩
    rw [if_neg hid] at hexec
    by_cases hstate : 32 ≤ s.hold.holds.length ∨ (x.kind = .irrevocable
        ∧ (s.clock.mode = .notSet ∨ ∃ d, x.release = some d ∧ d < s.now.day))
    · have hrefusal : refusal = some .refusedState := (if_neg hid).trans (if_pos hstate)
      rw [if_pos hstate] at hexec
      exact ⟨fun r hr => congrArg Host.Outcome.next (hexec.trans (by cases hrefusal.symm.trans hr; rfl)),
        fun hr => nomatch hrefusal.symm.trans hr⟩
    have hrefusal : refusal = s.hold.blocked := (if_neg hid).trans (if_neg hstate)
    rw [if_neg hstate] at hexec
    rw [hrefusal]
    refine ⟨fun r hr => ?_, fun hr => ?_⟩
    all_goals rw [hr] at hexec
    · exact congrArg Host.Outcome.next hexec
    · exact State.acceptance_meets hcovers (fun figs => { s.hold with
        holds := insertHold x s.hold.holds, unit := some (.add tag x figs) }) (congrArg Host.Outcome.next hexec)
  · exact congrArg Host.Outcome.next (State.directive_unreadable h (readAddHold_bad hlen hbad) _)
  · by_cases hbad : AddHoldBad payload
    · exact (readAddHold_bad hlen hbad).trans (if_pos hbad).symm
    · exact (readAddHold_good hlen hbad).trans (if_neg hbad).symm
  · exact congrArg Host.Outcome.next (State.directive_unreadable h ((readSetGuard_eq hlen).trans (if_pos hbad)) _)
  · exact congrArg Host.Outcome.next (State.directive_unreadable h ((readSetProtectMode_eq hlen).trans (if_pos hbad)) _)
  · have hexec := setGuard_of_takes h hread
    have hcovers : StateFree fun e => g.covers s.now.day (oldestDay s.dir) e.day := fun _ _ => rfl
    refine ⟨fun r hr => ?_, fun hr => ?_⟩
    all_goals rw [hr] at hexec
    · exact congrArg Host.Outcome.next hexec
    · exact State.acceptance_meets hcovers (fun figs => { s.hold with
        guard := g, unit := some (.guard tag s.hold.guard figs) }) (congrArg Host.Outcome.next hexec)
  · have hexec := dropHold_of_takes h hread
    refine ⟨fun hid => congrArg Host.Outcome.next (hexec.trans (if_pos hid)), fun h0 hmax hnone => ?_, fun y h0 hmax hy => ?_⟩
    all_goals rw [if_neg (show ¬ (id = 0 ∨ 65535 < id) by omega)] at hexec
    · rw [List.find?_eq_none.mpr (by simpa using hnone)] at hexec
      exact congrArg Host.Outcome.next hexec
    · rw [hy] at hexec
      refine congrArg Host.Outcome.next (hexec.trans ?_)
      dsimp only
      rw [HoldStore.blocked_eq]
      by_cases hstand : y.kind = .irrevocable ∧ (s.clock.mode = .notSet ∨ ∃ d, y.release = some d ∧ s.now.day ≤ d)
      · rw [if_pos hstand, if_pos (Or.inr ((s.mustStand_iff y).mpr hstand))]
      · have hfree : ¬ s.mustStand y = true := mt (s.mustStand_iff y).mp hstand
        rw [if_neg hstand]
        cases hf : s.hold.forbids
        · rw [if_neg (by simp [hfree])]
          cases s.hold.busy <;> rfl
        · rw [if_pos (Or.inl rfl)]
          rfl
  · have hexec := setProtectMode_of_takes h hread
    refine ⟨fun hsame => congrArg Host.Outcome.next (hexec.trans (if_pos hsame)), fun hdiff => ?_⟩
    refine congrArg Host.Outcome.next ((hexec.trans (if_neg hdiff)).trans ?_)
    simp only [HoldStore.blocked_protect_iff, HoldStore.raises_iff, HoldStore.busy_iff, and_comm]

/-! ### The end of a program -/

theorem HoldStore.complete_unit (h : HoldStore) (op : HoldOp) :
    ({ h.complete op with unit := none } : HoldStore).lapsePending = h.lapsePending := by
  cases op <;> rfl

theorem HoldStore.fail_unit (h : HoldStore) (op : HoldOp) :
    ({ h.fail op with unit := none } : HoldStore).lapsePending = h.lapsePending := by
  cases op <;> rfl

/-- R132, R139: what the end of a program leaves of the Hold Store. -/
def HoldStore.ended (h : HoldStore) (op : HoldOp) (ok : Bool) : HoldStore :=
  { (if ok then h.complete op else h.fail op) with
    unit := h.lapsePending.head?.map HoldOp.lapse, lapsePending := h.lapsePending.tail }

theorem State.holdReport_hold (s : State) (op : HoldOp) (ok : Bool) (h : HoldStore) (hlen : h.holds = s.hold.holds) :
    ({ s.holdReport op ok with hold := h } : State) = ({ s with hold := h } : State).holdReport op ok := by
  unfold State.holdReport
  cases op with
  | lapse ids =>
    show _ = State.notify _ noticeHold (lapseSnapshot _ h.holds.length)
    rw [hlen]
    rfl
  | add | drop | guard | mode => rfl

theorem State.holdReport_keeps (s : State) (op : HoldOp) (ok : Bool) : (s.holdReport op ok).hold = s.hold := by
  unfold State.holdReport
  cases op <;> rfl

theorem holdProgramEnd_of_running {s : State} {op : HoldOp} (h : s.hold.unit = some op) (ok : Bool) :
    holdProgramEnd ok s = ({ s with hold := s.hold.ended op ok } : State).holdReport op ok := by
  unfold holdProgramEnd
  rw [h]
  dsimp only
  generalize hu : (s.onHold fun h => { (if ok then h.complete op else h.fail op) with unit := none }) = u
  have hhold : u.hold = { (if ok then s.hold.complete op else s.hold.fail op) with unit := none } := by
    rw [← hu]
    rfl
  have hpending : u.hold.lapsePending = s.hold.lapsePending := by
    rw [hhold]
    cases ok
    · exact s.hold.fail_unit op
    · exact s.hold.complete_unit op
  have hunit : u.hold.unit = none := by rw [hhold]
  have hbegin : (u.holdReport op ok).hold.beginLapse = s.hold.ended op ok := by
    rw [State.holdReport_keeps, HoldStore.beginLapse_idle hunit, hpending, hhold]
    rfl
  show ({ u.holdReport op ok with hold := (u.holdReport op ok).hold.beginLapse } : State) = _
  rw [hbegin, State.holdReport_hold u op ok _ (by rw [hhold]; rfl), ← hu]
  rfl

theorem removeHolds_singleton (id : Nat) (l : List Hold) : removeHolds [id] l = l.filter fun y => y.id ≠ id := by
  unfold removeHolds
  refine List.filter_congr fun y _ => ?_
  by_cases hy : y.id = id <;> simp [hy]

/-- Settles O44. -/
theorem holdProgramEnds : Obligations.HoldProgramEnds := by
  unfold Obligations.HoldProgramEnds
  intro s h ended written
  refine ⟨fun hu ok => ?_, fun ids more op ok hu hpending => ?_, fun tag x figs hu => ⟨?_, ?_⟩, fun tag id hu => ⟨?_, ?_⟩,
    fun tag old figs hu => ⟨?_, ?_⟩, fun tag m l hu => ⟨?_, ?_⟩, fun ids hu => ⟨?_, ?_⟩⟩
  · refine congrArg Host.Outcome.next ?_
    unfold holdProgramEnd
    rw [show s.hold.unit = none from hu]
  · have hpending : s.hold.lapsePending = ids :: more := hpending
    refine ⟨_, congrArg Host.Outcome.next (holdProgramEnd_of_running hu ok), ?_, ?_⟩
    all_goals
      rw [State.holdReport_keeps]
      unfold HoldStore.ended
      rw [hpending]
      rfl
  all_goals refine congrArg Host.Outcome.next ((holdProgramEnd_of_running hu _).trans ?_)
  · simp only [← removeHolds_singleton, List.append_assoc]
    rfl
  · simp only [← removeHolds_singleton, List.append_assoc]
    rfl
  · simp only [← removeHolds_singleton]
    rfl
  · rfl
  · simp only [List.append_assoc]
    rfl
  · simp only [List.append_assoc]
    rfl
  · rfl
  · rfl
  · rfl
  · rfl

end Sys2Proof.Machine
end

section
/-! The Decode Queue (R147, R148) and the outcome of a verification (R150 to R155). -/

namespace Sys2Proof.Machine

/-! ### VERIFY and RETRIEVE are queued -/

/-- R146: a directive's request joins the Decode Queue, with one reply place reserved. -/
def State.requestQueued (s : State) (rest : List Directive) (tag : Tag) (kind : RequestKind) (id : Nat)
    (filter : Option Nat) : State :=
  { s.tookLong rest tag with
    audit := { s.audit with requests := s.audit.requests ++
      [{ kind := kind, segId := id, origin := some tag, filter := filter }] }
    dir := s.dir.map fun y => if y.id = id then { y with pins := y.pins + 1 } else y }

theorem State.notReadable_iff (s : State) (e : SegEntry) : s.notReadable e = true
    ↔ e.state ≠ .stored ∨ e.place.any (fun p => (s.target p.1).state = .scanning) := by
  simp only [State.notReadable, Bool.or_eq_true, decide_eq_true_eq]

section
variable {s : State} {tag : Tag} {payload : List Byte} {rest : List Directive}

theorem State.request_of_takes {code : Nat} (h : s.Takes code tag payload rest) (kind : RequestKind) (id : Nat)
    (filter : Option Nat) :
    ((s.takeDirective { code := code, tag := tag, payload := payload }).request tag kind id filter).setCurrent none
      = match s.requestRefusal id filter with
        | some r => s.turnedDown rest tag r
        | none => s.requestQueued rest tag kind id filter := by
  have hrefuse := State.refuse_of_takes h
  unfold State.request State.requestRefusal
  rw [show (s.takeDirective _).engine = s.engine from rfl, show (s.takeDirective _).entry? id = s.entry? id from rfl,
    show (s.takeDirective _).audit = s.audit from rfl]
  split
  · exact hrefuse _
  split
  · exact hrefuse _
  cases s.entry? id with
  | none => exact hrefuse _
  | some e =>
    dsimp only
    rw [show (s.takeDirective _).notReadable e = s.notReadable e from rfl]
    simp only [s.notReadable_iff]
    split
    · exact hrefuse _
    split
    · exact hrefuse _
    by_cases hfull : 8 ≤ s.audit.requests.length
    · rw [if_pos (show Config.decodeCap ≤ s.audit.requests.length from hfull), if_pos hfull]
      exact hrefuse _
    · rw [if_neg (show ¬ Config.decodeCap ≤ s.audit.requests.length from hfull), if_neg hfull]
      exact congrArg (fun u : State => (u.reserve tag).queueRequest
        { kind := kind, segId := id, origin := some tag, filter := filter }) (State.takeDirective_none h)

end

/-! ### The head request is activated or ends -/

theorem decodeActivate_head {s : State} {r : Request} {rs : List Request} (hactive : s.audit.active = none)
    (hr : s.audit.requests = r :: rs) : decodeActivate s = match s.entry? r.segId with
      | none => s.finishRequest .notFound
      | some e =>
        if e.state = .expiring then s.finishRequest .tooLate
        else match e.place with
          | none => s
          | some (t, x) =>
            if (s.target t).state = .offline then s.finishRequest (.readFail .offline)
            else if ¬ (s.target t).usable then s
            else ((s.onAudit fun a => { a with active := some (.reading t) }).onTarget t fun k =>
              { k with waitRead := some { extent := x, payloadLen := e.payloadLen } }).pokeErase t := by
  unfold decodeActivate
  rw [hactive, hr] <;> rfl

/-- Settles O39. -/
theorem decodeRequests : Obligations.DecodeRequests := by
  unfold Obligations.DecodeRequests
  intro s tag payload rest queued
  refine ⟨fun id h hread => ?_, fun id filter h hread => ?_, fun hidle => ?_, fun r rs hactive hr => ?_,
    fun u r rs result figures => ⟨fun ho => ?_, fun ho => ?_⟩⟩
  · exact congrArg Host.Outcome.next ((State.directive_of_takes h hread _).trans (State.request_of_takes h .verify id none))
  · exact congrArg Host.Outcome.next ((State.directive_of_takes h hread _).trans (State.request_of_takes h .retrieve id filter))
  · refine congrArg Host.Outcome.next ?_
    unfold decodeActivate
    split
    next r rs ha hr =>
      rcases hidle with hi | hi
      · exact absurd ha hi
      · exact nomatch hi.symm.trans hr
    next => rfl
  · have hexec := decodeActivate_head hactive hr
    refine ⟨fun he => ?_, fun e he hst => ?_, fun e t x he hst hp => ⟨fun hoff => ?_, fun hon => ?_, fun hscan => ?_⟩⟩
    all_goals
      refine congrArg Host.Outcome.next (hexec.trans ?_)
      rw [he]
      dsimp only
    · exact State.finishRequest_undecoded (k := .notFound) trivial hr
    · rw [if_pos hst]
      exact State.finishRequest_undecoded (k := .tooLate) trivial hr
    · rw [if_neg hst, hp]
      dsimp only
      rw [if_pos hoff]
      exact State.finishRequest_undecoded (k := .readFail .offline) trivial hr
    · have husable : (s.target t).usable = true := (Target.usable_iff _).mpr hon
      have hoff : (s.target t).state ≠ .offline := by rcases hon with hon | hon <;> rw [hon] <;> decide
      rw [if_neg hst, hp]
      dsimp only
      rw [if_neg hoff, if_neg (by simp [husable]), State.pokeErase, State.onTarget_onTarget, Target.pokeErase_waiting]
      · rfl
      · exact Or.inr (by simp)
      · exact hoff
    · have husable : ¬ (s.target t).usable = true := fun hu => by
        rcases (Target.usable_iff _).mp hu with hst' | hst' <;> exact nomatch hscan.symm.trans hst'
      rw [if_neg hst, hp]
      dsimp only
      rw [if_neg (by rw [hscan]; decide), if_pos husable]
  · unfold State.requestEnds
    rw [ho]
  · unfold State.requestEnds
    rw [ho] <;> rfl

end Sys2Proof.Machine
end

section
namespace Sys2Proof.Machine

/-! ### The comparison of runs (R150) -/

/-- Run `i` of the entry has a decoded run that agrees with its record. -/
def RunSameAt (rs : List RunRec) (ds : List DecRun) (i : Nat) : Prop :=
  ∃ r d, rs[i]? = some r ∧ ds[i]? = some d ∧ runAgrees r d = true

/-- The recomputed values of decoded run `i` agree with its header. -/
def RunSoundAt (ds : List DecRun) (i : Nat) : Prop := ∃ d, ds[i]? = some d ∧ digestAgrees d = true

theorem compareRuns_none {rs : List RunRec} {ds : List DecRun} (hlen : ds.length = rs.length) (n : Nat)
    (h : ∀ i, i < rs.length → RunSameAt rs ds i ∧ RunSoundAt ds i) : compareRuns n rs ds = none := by
  induction rs generalizing ds n with
  | nil => unfold compareRuns; rfl
  | cons r rs ih =>
    match ds, hlen with
    | d :: ds, hlen =>
      obtain ⟨⟨r', d', hr, hd, hsame⟩, d'', hd', hsound⟩ := h 0 (Nat.zero_lt_succ _)
      cases hr
      cases hd
      cases hd'
      unfold compareRuns
      rw [if_neg (by simp [hsame]), if_neg (by simp [hsound])]
      exact ih (Nat.succ.inj hlen) (n + 1) fun i hi => h (i + 1) (Nat.succ_lt_succ hi)

/-- The runs before run `i` are the same and sound. -/
def RunsBefore (rs : List RunRec) (ds : List DecRun) (i : Nat) : Prop :=
  i < rs.length ∧ ∀ j, j < i → RunSameAt rs ds j ∧ RunSoundAt ds j

theorem compareRuns_first {rs : List RunRec} {ds : List DecRun} (hlen : ds.length = rs.length) (n : Nat) {i : Nat}
    (h : RunsBefore rs ds i) :
    (¬ RunSameAt rs ds i → compareRuns n rs ds = some (.run (some (n + i))))
    ∧ (RunSameAt rs ds i → ¬ RunSoundAt ds i → compareRuns n rs ds = some (.digest (some (n + i)))) := by
  obtain ⟨hi, hbefore⟩ := h
  induction rs generalizing ds n i with
  | nil => exact absurd hi (Nat.not_lt_zero _)
  | cons r rs ih =>
    match ds, hlen with
    | d :: ds, hlen =>
      unfold compareRuns
      cases i with
      | zero =>
        refine ⟨fun hdiff => if_pos fun hsame => hdiff ⟨r, d, rfl, rfl, hsame⟩, fun ⟨r', d', hr, hd, hsame⟩ hdiff => ?_⟩
        cases hr
        cases hd
        rw [if_neg (by simp [hsame])]
        exact if_pos fun hsound => hdiff ⟨d, rfl, hsound⟩
      | succ i =>
        obtain ⟨⟨r', d', hr, hd, hsame⟩, d'', hd', hsound⟩ := hbefore 0 (Nat.zero_lt_succ _)
        cases hr
        cases hd
        cases hd'
        rw [if_neg (by simp [hsame]), if_neg (by simp [hsound]), show n + (i + 1) = n + 1 + i by omega]
        exact ih (Nat.succ.inj hlen) (n + 1) (Nat.lt_of_succ_lt_succ hi) fun j hj => hbefore (j + 1) (Nat.succ_lt_succ hj)

/-! ### The walk of an image -/

theorem decodeRuns_length {dict : List (List Nat)} {left i : Nat} {l : List Byte} {rs : List DecRun} {rest : List Byte}
    (h : decodeRuns dict left i l = .ok (rs, rest)) : rs.length = left := by
  induction left generalizing i l rs rest with
  | zero =>
    cases h
    rfl
  | succ left ih =>
    unfold decodeRuns at h
    dsimp only at h
    split at h
    · cases h
    split at h
    · cases h
    split at h
    · cases h
    next rs' rest' hmore =>
      cases h
      rw [List.length_cons, ih hmore]

theorem decodeImage_length {img : List Byte} {ds : List DecRun} (h : decodeImage img = .ok ds) :
    ds.length = (readHeader img).runCount := by
  unfold decodeImage at h
  dsimp only at h
  split at h
  · cases h
  split at h
  · cases h
  next rs rest hruns =>
    split at h
    · cases h
      exact decodeRuns_length hruns
    · cases h

/-! ### The outcome of a VERIFY -/

section
variable {e : SegEntry} {img : List Byte}

theorem verifyImage_header (h : ¬ headerAgrees e (readHeader img) = true) : verifyImage e img = .mismatch .header := if_pos h

theorem verifyImage_malformed (h : headerAgrees e (readHeader img) = true) {f : Finding}
    (hf : decodeImage img = .error f) : verifyImage e img = .malformed f := by
  unfold verifyImage
  rw [if_neg (by simp [h]), hf]

theorem verifyImage_decoded (h : headerAgrees e (readHeader img) = true) {ds : List DecRun} (hd : decodeImage img = .ok ds) :
    verifyImage e img = match compareRuns 0 e.runs ds with
      | some d => .mismatch d
      | none =>
        if (segmentDigest (ds.map DecRun.recomputed)).toNat ≠ digestNat e.segDigest then .mismatch (.digest none)
        else if firmCount ds ≠ e.recordCount then .mismatch (.run none)
        else .matched := by
  unfold verifyImage
  rw [if_neg (by simp [h]), hd] <;> rfl

end

theorem headerAgrees_iff (e : SegEntry) (h : Header) : headerAgrees e h = true
    ↔ h.segId = e.id ∧ h.cls = e.cls.val ∧ h.day = e.day ∧ h.group = e.group
      ∧ h.generation = e.generation ∧ h.payloadLen = e.payloadLen ∧ h.runCount = e.runs.length
      ∧ h.digest = digestNat e.segDigest ∧ h.reason = (e.sealReason.map sealCode).getD 0 := by
  simp only [headerAgrees, Bool.and_eq_true, decide_eq_true_eq, and_assoc]

theorem runAgrees_iff (r : RunRec) (d : DecRun) : runAgrees r d = true
    ↔ d.source = r.source ∧ d.slot = r.slot ∧ d.statusOctet = runStatusOctet r ∧ d.count = r.count
      ∧ d.digest = digestNat r.digest ∧ d.firstSeq = r.firstSeq := by
  simp only [runAgrees, Bool.and_eq_true, decide_eq_true_eq, and_assoc]

theorem digestAgrees_iff (d : DecRun) : digestAgrees d = true
    ↔ d.recomputed.toNat = d.digest ∧ ∃ c, d.records.head? = some c ∧ c.seq = d.firstSeq := by
  simp only [digestAgrees, Bool.and_eq_true, decide_eq_true_eq, Option.map_eq_some_iff]

/-! ### What an ending changes -/

section
variable {s : State} {r : Request} {rs : List Request} {e : SegEntry}

/-- An INTEGRITY event of a segment, in the words of the statements. -/
def integrityTold (s : State) (st : EventState) (e : SegEntry) (cause : Cause) (run : Option Nat) : AuditEvent :=
  { code := .integrity, state := st, cause := some cause, source := none, day := some e.day, slot := none,
    segId := some e.id, target := none, figure := run, time := s.clock.reading }

/-- The entry of one segment changed. -/
def State.marked (s : State) (id : Nat) (f : SegEntry → SegEntry) : State :=
  { s with dir := s.dir.map fun y => if y.id = id then f y else y }

/-- What the statements say of a MATCH. -/
def State.cleaned (s : State) (e : SegEntry) (id : Nat) : State :=
  let u := s.marked id fun y => { y with
    verifyCount := min (y.verifyCount + 1) 65535, lastVerified := some s.now.day, suspect := false }
  if e.suspect then u.recorded (integrityTold s .closed e .reverified none) else u

/-- What the statements say of a difference or a malformed image. -/
def State.doubted (s : State) (e : SegEntry) (id : Nat) (cause : Cause) (run : Option Nat) : State :=
  if e.suspect then s
  else (s.marked id fun y => { y with suspect := true }).recorded (integrityTold s .opened e cause run)

theorem State.applyMatch_eq (s : State) (e : SegEntry) : s.applyMatch e = s.cleaned e e.id := by
  unfold State.applyMatch State.cleaned
  dsimp only
  split
  · rw [State.raise_eq]
    rfl
  · rfl

theorem State.applyMismatch_eq (s : State) (e : SegEntry) (cause : Cause) (run : Option Nat) :
    s.applyMismatch e cause run = s.doubted e e.id cause run := by
  unfold State.applyMismatch State.doubted
  split
  · rfl
  · rw [State.raise_eq]
    rfl

/-- The audit events of a verification are beside its requests and counters. -/
theorem State.cleaned_audit (s : State) (e : SegEntry) (id : Nat) : (s.cleaned e id).audit = { s.audit with
    events := (s.cleaned e id).audit.events, lost := (s.cleaned e id).audit.lost, gaps := (s.cleaned e id).audit.gaps } := by
  unfold State.cleaned
  dsimp only
  split <;> rfl

theorem State.doubted_audit (s : State) (e : SegEntry) (id : Nat) (cause : Cause) (run : Option Nat) :
    (s.doubted e id cause run).audit = { s.audit with
      events := (s.doubted e id cause run).audit.events, lost := (s.doubted e id cause run).audit.lost
      gaps := (s.doubted e id cause run).audit.gaps } := by
  unfold State.doubted
  split <;> rfl

/-- The head request, a VERIFY whose entry stands, ends. -/
theorem State.finishRequest_verify (hr : s.audit.requests = r :: rs) (hk : r.kind = .verify) (he : s.entry? r.segId = some e)
    (k : Machine.Ending) (hrequests : (s.applyVerify e k).audit.requests = s.audit.requests) :
    s.finishRequest k = ((s.applyVerify e k).requestDone r rs).replyRequest r k (verifyReply e k) := by
  unfold State.finishRequest State.applyEnding requestReply
  rw [hr]
  dsimp only
  rw [hk, he]
  dsimp only
  rw [State.dequeueRequest_eq (hrequests.trans hr)]

end

theorem decodeComplete_request {s : State} {cs : List CoderJob} (h : s.coder = .request :: cs) :
    decodeComplete s = State.decodeResult { s with coder := cs } := by
  unfold decodeComplete
  rw [h] <;> rfl

section
variable {s : State} {r : Request} {rs : List Request} {e : SegEntry}

theorem State.decodeResult_gone (hr : s.audit.requests = r :: rs) (he : s.entry? r.segId = none) :
    s.decodeResult = s.requestEnds r rs .notFound [] := by
  unfold State.decodeResult
  rw [hr]
  dsimp only
  rw [he]
  exact State.finishRequest_undecoded (k := .notFound) trivial hr

theorem State.decodeResult_expiring (hr : s.audit.requests = r :: rs) (he : s.entry? r.segId = some e)
    (hst : e.state = .expiring) : s.decodeResult = s.requestEnds r rs .tooLate [] := by
  unfold State.decodeResult
  rw [hr]
  dsimp only
  rw [he]
  exact (if_pos hst).trans (State.finishRequest_undecoded (k := .tooLate) trivial hr)

theorem State.decodeResult_verify (hr : s.audit.requests = r :: rs) (he : s.entry? r.segId = some e)
    (hst : e.state ≠ .expiring) (hk : r.kind = .verify) :
    s.decodeResult = s.finishRequest (verifyImage e s.audit.readBuffer) := by
  unfold State.decodeResult State.applyDecode
  rw [hr]
  dsimp only
  rw [he]
  dsimp only
  rw [if_neg hst, hk]

/-- A VERIFY that matches ends. -/
theorem State.finishRequest_matched (hr : s.audit.requests = r :: rs) (hk : r.kind = .verify)
    (he : s.entry? r.segId = some e) : s.finishRequest .matched
      = ((s.cleaned e r.segId).requestDone r rs).replyRequest r .matched (verifyReply e .matched) := by
  have hid : e.id = r.segId := by simpa using List.find?_some he
  have hmatch : s.applyVerify e .matched = s.cleaned e r.segId := (State.applyMatch_eq s e).trans (by rw [hid])
  rw [State.finishRequest_verify hr hk he .matched, hmatch]
  rw [hmatch, State.cleaned_audit]

/-- A VERIFY that finds a difference ends. -/
theorem State.finishRequest_mismatch (hr : s.audit.requests = r :: rs) (hk : r.kind = .verify)
    (he : s.entry? r.segId = some e) (d : Difference) : s.finishRequest (.mismatch d)
      = ((s.doubted e r.segId d.cause d.index).requestDone r rs).replyRequest r (.mismatch d)
          (verifyReply e (.mismatch d)) := by
  have hid : e.id = r.segId := by simpa using List.find?_some he
  have hdoubt : s.applyVerify e (.mismatch d) = s.doubted e r.segId d.cause d.index :=
    (State.applyMismatch_eq s e d.cause d.index).trans (by rw [hid])
  rw [State.finishRequest_verify hr hk he (.mismatch d), hdoubt]
  rw [hdoubt, State.doubted_audit]

/-- A VERIFY of a malformed image ends. -/
theorem State.finishRequest_malformed (hr : s.audit.requests = r :: rs) (hk : r.kind = .verify)
    (he : s.entry? r.segId = some e) (f : Finding) : s.finishRequest (.malformed f)
      = ((s.doubted e r.segId .malformed f.run).requestDone r rs).replyRequest r (.malformed f)
          (verifyReply e (.malformed f)) := by
  have hid : e.id = r.segId := by simpa using List.find?_some he
  have hdoubt : s.applyVerify e (.malformed f) = s.doubted e r.segId .malformed f.run :=
    (State.applyMismatch_eq s e .malformed f.run).trans (by rw [hid])
  rw [State.finishRequest_verify hr hk he (.malformed f), hdoubt]
  rw [hdoubt, State.doubted_audit]

theorem State.replyRequest_directive {u : State} {tag : Tag} (ho : r.origin = some tag) (k : Machine.Ending)
    (reply : Result × List Byte) : u.replyRequest r k reply = u.settledWith tag reply.1 false reply.2 := by
  unfold State.replyRequest
  rw [ho]
  exact State.completeWith_eq _ _ _ _

theorem State.replyRequest_scrub {u : State} (ho : r.origin = none) (k : Machine.Ending)
    (reply : Result × List Byte) : u.replyRequest r k reply = { u with audit := u.audit.countScrub k } := by
  unfold State.replyRequest
  rw [ho] <;> rfl

end

/-- The comparisons of R150, in the words of the statements. -/
theorem verifyImage_cases (e : SegEntry) (img : List Byte) (ds : List DecRun)
    (h : headerAgrees e (readHeader img) = true) (hd : decodeImage img = .ok ds) :
    ds.length = e.runs.length
    ∧ (∀ i, RunsBefore e.runs ds i → ¬ RunSameAt e.runs ds i → verifyImage e img = .mismatch (.run (some i)))
    ∧ (∀ i, RunsBefore e.runs ds i → RunSameAt e.runs ds i → ¬ RunSoundAt ds i →
        verifyImage e img = .mismatch (.digest (some i)))
    ∧ ((∀ i, i < e.runs.length → RunSameAt e.runs ds i ∧ RunSoundAt ds i) →
        verifyImage e img = if (segmentDigest (ds.map DecRun.recomputed)).toNat ≠ digestNat e.segDigest then
          .mismatch (.digest none)
        else if firmCount ds ≠ e.recordCount then .mismatch (.run none) else .matched) := by
  have hlen : ds.length = e.runs.length := (decodeImage_length hd).trans ((headerAgrees_iff e _).mp h).2.2.2.2.2.2.1
  have hverify := verifyImage_decoded h hd
  refine ⟨hlen, fun i hi hdiff => ?_, fun i hi hsame hdiff => ?_, fun hall => ?_⟩
  · rw [hverify, (compareRuns_first hlen 0 hi).1 hdiff, Nat.zero_add]
  · rw [hverify, (compareRuns_first hlen 0 hi).2 hsame hdiff, Nat.zero_add]
  · rw [hverify, compareRuns_none hlen 0 hall]

/-- Settles O40. -/
theorem verificationOutcome : Obligations.VerificationOutcome := by
  unfold Obligations.VerificationOutcome
  refine ⟨fun s cs r rs tag hc hr hk ho => ?_, fun s cs r rs hc hr hk ho => ?_, fun e img => ?_⟩
  · intro s1
    have hexec := decodeComplete_request hc
    have hr : s1.audit.requests = r :: rs := hr
    refine ⟨fun he => ?_, fun e he hst => ?_, fun e he hst => ⟨fun hv => ?_, fun d hv => ?_, fun f hv => ?_⟩⟩
    all_goals refine congrArg Host.Outcome.next (hexec.trans ?_)
    · refine (State.decodeResult_gone hr he).trans ?_
      unfold State.requestEnds
      rw [ho]
    · refine (State.decodeResult_expiring hr he hst).trans ?_
      unfold State.requestEnds
      rw [ho]
    all_goals refine (State.decodeResult_verify hr he hst hk).trans ?_
    · rw [show verifyImage e s1.audit.readBuffer = .matched from hv, State.finishRequest_matched hr hk he,
        State.replyRequest_directive ho]
      rfl
    · rw [show verifyImage e s1.audit.readBuffer = .mismatch d from hv, State.finishRequest_mismatch hr hk he,
        State.replyRequest_directive ho]
      rfl
    · rw [show verifyImage e s1.audit.readBuffer = .malformed f from hv, State.finishRequest_malformed hr hk he,
        State.replyRequest_directive ho]
      rfl
  · intro s1 up unread
    have hexec := decodeComplete_request hc
    have hr : s1.audit.requests = r :: rs := hr
    refine ⟨fun he => ?_, fun e he hst => ?_, fun e he hst => ?_⟩
    · refine congrArg Host.Outcome.next (hexec.trans ((State.decodeResult_gone hr he).trans ?_))
      unfold State.requestEnds
      rw [ho] <;> rfl
    · refine congrArg Host.Outcome.next (hexec.trans ((State.decodeResult_expiring hr he hst).trans ?_))
      unfold State.requestEnds
      rw [ho] <;> rfl
    intro told marked clean doubted
    refine ⟨fun hv => ?_, fun d hv => ?_, fun f hv => ?_⟩
    all_goals refine congrArg Host.Outcome.next (hexec.trans ((State.decodeResult_verify hr he hst hk).trans ?_))
    · rw [show verifyImage e s1.audit.readBuffer = .matched from hv, State.finishRequest_matched hr hk he,
        State.replyRequest_scrub ho]
      have hcount : ((s1.cleaned e r.segId).requestDone r rs).audit.scrubMatch = s.audit.scrubMatch :=
        (congrArg Audit.scrubMatch (s1.cleaned_audit e r.segId) :)
      exact congrArg (fun n => ({ clean with audit := { clean.audit with scrubMatch := up n } } : State)) hcount
    · rw [show verifyImage e s1.audit.readBuffer = .mismatch d from hv, State.finishRequest_mismatch hr hk he,
        State.replyRequest_scrub ho]
      have hcount : ((s1.doubted e r.segId d.cause d.index).requestDone r rs).audit.scrubMismatch = s.audit.scrubMismatch :=
        (congrArg Audit.scrubMismatch (s1.doubted_audit e r.segId d.cause d.index) :)
      exact congrArg (fun n => ({ doubted d.cause d.index with
        audit := { (doubted d.cause d.index).audit with scrubMismatch := up n } } : State)) hcount
    · rw [show verifyImage e s1.audit.readBuffer = .malformed f from hv, State.finishRequest_malformed hr hk he,
        State.replyRequest_scrub ho]
      have hcount : ((s1.doubted e r.segId .malformed f.run).requestDone r rs).audit.scrubMalformed = s.audit.scrubMalformed :=
        (congrArg Audit.scrubMalformed (s1.doubted_audit e r.segId .malformed f.run) :)
      exact congrArg (fun n => ({ doubted .malformed f.run with
        audit := { (doubted .malformed f.run).audit with scrubMalformed := up n } } : State)) hcount
  · intro h agree
    have hagree : agree ↔ headerAgrees e (readHeader img) = true := by
      rw [headerAgrees_iff]
      have hreason : ∀ x : Option SealReason, (match x with
          | some .full => 1
          | some .runs => 2
          | some .crowded => 3
          | some .dayClosed => 4
          | some .dictionary => 5
          | some .flush => 6
          | none => 0) = (x.map sealCode).getD 0 := fun x => by
        cases x with
        | none => rfl
        | some reason => cases reason <;> rfl
      rw [← hreason]
      rfl
    refine ⟨fun hdiff => verifyImage_header (mt hagree.mpr hdiff), fun f ha hf => verifyImage_malformed (hagree.mp ha) hf,
      fun ds ha hd => ?_⟩
    intro runSame runSound first all digest firm
    obtain ⟨hlen, hrun, hdigest, hend⟩ := verifyImage_cases e img ds (hagree.mp ha) hd
    have hsame : ∀ i, runSame i ↔ RunSameAt e.runs ds i := fun i => by
      refine exists_congr fun r => exists_congr fun d => and_congr_right fun _ => and_congr_right fun _ => ?_
      rw [runAgrees_iff]
      rfl
    have hsound : ∀ i, runSound i ↔ RunSoundAt ds i := fun i => by
      simp only [runSound, RunSoundAt, digestAgrees_iff, exists_and_left]
    have hfirst : ∀ i, first i → RunsBefore e.runs ds i := fun i hi =>
      ⟨hi.1, fun j hj => ⟨(hsame j).mp (hi.2 j hj).1, (hsound j).mp (hi.2 j hj).2⟩⟩
    have hfirm : firm = firmCount ds := by
      simp only [firm, firmCount, DecRun.firm, decide_eq_true_eq]
    refine ⟨hlen, fun i hi hdiff => hrun i (hfirst i hi) (mt (hsame i).mpr hdiff),
      fun i hi hs hdiff => hdigest i (hfirst i hi) ((hsame i).mp hs) (mt (hsound i).mpr hdiff), fun hall => ?_, fun hall => ?_,
      fun hall => ?_⟩
    all_goals
      rw [hend fun i hi => ⟨(hsame i).mp (hall i hi).1, (hsound i).mp (hall i hi).2⟩]
    · exact fun hdiff => if_pos hdiff
    · exact fun hs hdiff => (if_neg (not_not.mpr hs)).trans (if_pos (by rw [← hfirm]; exact hdiff))
    · exact fun hs hcount => (if_neg (not_not.mpr hs)).trans (if_neg (by rw [← hfirm]; exact not_not.mpr hcount))

end Sys2Proof.Machine
end

section
/-! A sweep's examination of an entry (R117 to R123). -/

namespace Sys2Proof.Machine

/-! ### The walk -/

theorem Pass.startsWrapped_iff (p : Pass) (cursor : Nat) :
    p.startsWrapped cursor = true ↔ p.counts.examined = 0 ∧ p.startId < cursor := by
  simp [Pass.startsWrapped]

/-- The walk stands past the highest entry, and has not begun there. -/
def State.wrapsNow (s : State) (p : Pass) : Bool :=
  p.wrapped || decide ((s.dir.find? fun y => s.expiry.cursor ≤ y.id) = none
    ∧ ¬ (p.counts.examined = 0 ∧ p.startId < s.expiry.cursor))

/-- R116, R117: the walk, in the words of the statements. -/
theorem State.walkNext_eq (s : State) (p : Pass) : s.walkNext p = match s.walkStops p with
    | some c => .stop c
    | none => match (s.dir.find? fun y => s.expiry.cursor ≤ y.id).or s.dir.head? with
      | some e => .entry e (s.wrapsNow p)
      | none => .stop .empty := by
  unfold State.walkNext State.walkStops State.wrapsNow State.atCursor
  cases hdir : s.dir with
  | nil => rfl
  | cons low more =>
    rw [List.head?_cons]
    cases hfind : (low :: more).find? (fun y => s.expiry.cursor ≤ y.id) with
    | some e =>
      dsimp only [Option.or_some]
      unfold Pass.meet
      split
      · rfl
      · simp
    | none =>
      dsimp only
      cases hw : p.wrapped with
      | true => rfl
      | false =>
        unfold Pass.meet
        cases hs : p.startsWrapped s.expiry.cursor with
        | true =>
          have hstarts := (p.startsWrapped_iff _).mp hs
          simp [hstarts]
        | false =>
          have hstarts : ¬ (p.counts.examined = 0 ∧ p.startId < s.expiry.cursor) := fun hc => by
            rw [(p.startsWrapped_iff _).mpr hc] at hs
            cases hs
          by_cases hround : p.startId ≤ low.id <;> simp [hstarts, hround]

theorem State.walkNext_stop {s : State} {p : Pass} {c : StopCause} (h : s.walkStops p = some c) :
    s.walkNext p = .stop c := by
  rw [State.walkNext_eq, h]

theorem State.walkNext_entry {s : State} {p : Pass} {e : SegEntry} (h : s.walkStops p = none)
    (he : (s.dir.find? fun y => s.expiry.cursor ≤ y.id).or s.dir.head? = some e) :
    s.walkNext p = .entry e (s.wrapsNow p) := by
  rw [State.walkNext_eq, h, he]

theorem State.walkStops_empty {s : State} {p : Pass} (h : s.walkStops p = none) :
    ∃ e, (s.dir.find? fun y => s.expiry.cursor ≤ y.id).or s.dir.head? = some e := by
  unfold State.walkStops at h
  cases hdir : s.dir with
  | nil =>
    rw [hdir] at h
    cases h
  | cons low more =>
    cases (low :: more).find? (fun y => s.expiry.cursor ≤ y.id) with
    | none => exact ⟨low, rfl⟩
    | some e => exact ⟨e, rfl⟩

/-- R117: the pass goes on, or ends where the walk stops or its batch is done. -/
def State.passGoesOn (s : State) (p : Pass) : State :=
  match s.walkStops p with
  | some stop => s.passEnded p stop none
  | none => if p.batch ≤ p.counts.examined then s.passEnded p .batch none else s

theorem State.passGoesOn_eq (s : State) (p : Pass) : (match s.walkNext p with
      | .stop k => s.endPass p (some k) none 0
      | .entry _ _ => if p.batch ≤ p.counts.examined then s.endPass p (some .batch) none 0 else s) = s.passGoesOn p := by
  unfold State.passGoesOn
  rw [State.walkNext_eq]
  cases hstop : s.walkStops p with
  | some stop => exact State.endPass_eq s p stop none
  | none =>
    obtain ⟨e, he⟩ := State.walkStops_empty hstop
    rw [he]
    dsimp only
    split
    · exact State.endPass_eq s p .batch none
    · rfl

/-- R117: the pass and the cursor after a counted examination. -/
def Pass.examined (p : Pass) (id : Nat) (wrapped : Bool) (c : PassCounts) : Pass :=
  { p with wrapped := wrapped || Config.maxSegId ≤ id, counts := { c with examined := c.examined + 1 } }

theorem State.afterExamination_goesOn (s : State) (p : Pass) (id : Nat) (wrapped : Bool) (c : PassCounts) :
    s.afterExamination p id wrapped c
      = (s.onExpiry fun x => { x with cursor := cursorAfter id, pass := some (p.examined id wrapped c) }).passGoesOn
          (p.examined id wrapped c) := State.passGoesOn_eq _ _

/-- R117: what follows a counted examination. -/
theorem State.afterExamination_eq (s : State) (p : Pass) (e : SegEntry) (c : PassCounts) :
    s.afterExamination p e.id (s.wrapsNow p) c = s.examinedAs p e c := State.passGoesOn_eq _ _

/-- A walk meets ids alone. -/
theorem State.walkStops_congr {s u : State} {f : SegEntry → SegEntry} (hf : ∀ e, (f e).id = e.id) (hdir : u.dir = s.dir.map f)
    (hcursor : u.expiry.cursor = s.expiry.cursor) (p : Pass) : u.walkStops p = s.walkStops p := by
  have hfind : u.dir.find? (fun y => u.expiry.cursor ≤ y.id) = (s.dir.find? fun y => s.expiry.cursor ≤ y.id).map f := by
    rw [hdir, hcursor]
    exact find?_map_of_keeps (p := fun y : SegEntry => s.expiry.cursor ≤ y.id) (fun e => by rw [hf]) s.dir
  unfold State.walkStops
  rw [hfind, hdir, List.head?_map, hcursor]
  cases s.dir.find? (fun y => s.expiry.cursor ≤ y.id) <;> cases s.dir.head? <;> simp only [Option.map_none, Option.map_some, hf]

/-- The Directory and the targets changed. -/
def State.withDirTargets (s : State) (dir : List SegEntry) (targets : Vector Target 4) : State :=
  { s with dir := dir, targets := targets }

theorem State.passGoesOn_withDirTargets (s : State) {f : SegEntry → SegEntry} (hf : ∀ e, (f e).id = e.id)
    (targets : Vector Target 4) (p : Pass) : (s.withDirTargets (s.dir.map f) targets).passGoesOn p
      = (s.passGoesOn p).withDirTargets (s.dir.map f) targets := by
  unfold State.passGoesOn
  have hstops : (s.withDirTargets (s.dir.map f) targets).walkStops p = s.walkStops p :=
    State.walkStops_congr (u := s.withDirTargets (s.dir.map f) targets) hf rfl rfl p
  rw [hstops]
  cases s.walkStops p with
  | some stop => rfl
  | none =>
    dsimp only
    split <;> rfl

theorem State.examinedAs_withDirTargets (s : State) {f : SegEntry → SegEntry} (hf : ∀ e, (f e).id = e.id)
    (targets : Vector Target 4) (p : Pass) (e : SegEntry) (c : PassCounts) :
    (s.withDirTargets (s.dir.map f) targets).afterExamination p e.id (s.wrapsNow p) c
      = (s.examinedAs p e c).withDirTargets (s.dir.map f) targets := by
  rw [← State.afterExamination_eq, State.afterExamination_goesOn, State.afterExamination_goesOn]
  exact State.passGoesOn_withDirTargets
    (s.onExpiry fun x => { x with cursor := cursorAfter e.id, pass := some (p.examined e.id (s.wrapsNow p) c) }) hf targets _

theorem State.passGoesOn_rest (s : State) (p : Pass) :
    s.passGoesOn p = { s with expiry := (s.passGoesOn p).expiry, notices := (s.passGoesOn p).notices } := by
  unfold State.passGoesOn
  cases s.walkStops p with
  | some stop => rfl
  | none =>
    dsimp only
    split <;> rfl

theorem State.examinedAs_rest (s : State) (p : Pass) (e : SegEntry) (c : PassCounts) :
    s.examinedAs p e c = { s with expiry := (s.examinedAs p e c).expiry, notices := (s.examinedAs p e c).notices } := by
  rw [← State.afterExamination_eq, State.afterExamination_goesOn]
  exact State.passGoesOn_rest _ _

end Sys2Proof.Machine
end

section
namespace Sys2Proof.Machine

/-! ### Coalescing (R123) -/

/-- The extent and segment of a SINGLE entry. -/
def EraseEntry.single? (q : EraseEntry) : Option (Nat × Nat) := match q with
  | .single y id => some (y, id)
  | .group _ _ _ => none

theorem EraseEntry.single?_eq_some {q : EraseEntry} {m : Nat × Nat} : q.single? = some m ↔ q = .single m.1 m.2 := by
  cases q with
  | single y id =>
    refine ⟨fun h => ?_, fun h => ?_⟩
    · cases h
      rfl
    · cases m
      cases h
      rfl
  | group g ms fs => exact ⟨(nomatch ·), (nomatch ·)⟩

theorem EraseEntry.inGroup_eq (g : Nat) (q : EraseEntry) : q.inGroup g = q.single?.any fun m => m.1 / 16 = g := by
  cases q <;> rfl

theorem singleNames_iff (q : List EraseEntry) (y : Nat) : singleNames q y = true ↔ ∃ id, EraseEntry.single y id ∈ q := by
  unfold singleNames
  rw [List.any_eq_true]
  refine ⟨fun ⟨e, he, hy⟩ => ?_, fun ⟨id, hid⟩ => ⟨_, hid, by simp⟩⟩
  cases e with
  | single x id =>
    have hxy : x = y := of_decide_eq_true hy
    exact ⟨id, hxy ▸ he⟩
  | group g ms fs => exact absurd hy Bool.false_ne_true

theorem mem_groupExtents {g y : Nat} : y ∈ groupExtents g ↔ y / 16 = g := by
  unfold groupExtents
  rw [List.mem_map]
  refine ⟨fun ⟨i, hi, hy⟩ => ?_, fun hy => ⟨y % 16, List.mem_range.mpr (by omega), by omega⟩⟩
  have := List.mem_range.mp hi
  omega

theorem groupExtents_sorted (g : Nat) : (groupExtents g).Pairwise (· < ·) := by
  unfold groupExtents
  exact List.Pairwise.map _ (fun a b hab => by omega) List.pairwise_lt_range

/-- The first SINGLE entry that names an extent. -/
theorem find?_singleNames (q : List EraseEntry) (y : Nat) :
    ((q.find? fun e => singleNames [e] y).bind fun e => e.members.head?)
      = (q.filterMap EraseEntry.single?).find? fun m => m.1 = y := by
  induction q with
  | nil => rfl
  | cons e q ih =>
    cases e with
    | group g ms fs =>
      rw [List.filterMap_cons_none rfl, List.find?_cons_of_neg (by simp [singleNames]), ih]
    | single x id =>
      rw [List.filterMap_cons_some (f := EraseEntry.single?) (b := (x, id)) rfl]
      by_cases hx : x = y
      · rw [List.find?_cons_of_pos (by simpa [singleNames] using hx), List.find?_cons_of_pos (by simpa using hx)]
        rfl
      · rw [List.find?_cons_of_neg (by simpa [singleNames] using hx), List.find?_cons_of_neg (by simpa using hx), ih]

theorem groupMembers_eq (g : Nat) (q : List EraseEntry) : groupMembers g q
    = (groupExtents g).filterMap fun y => (q.filterMap EraseEntry.single?).find? fun m => m.1 = y := by
  unfold groupMembers
  exact List.filterMap_congr fun y _ => find?_singleNames q y

theorem map_filterMap_of_key {α β : Type} {f : α → Option β} {key : β → α} (h : ∀ a b, f a = some b → key b = a) (l : List α) :
    (l.filterMap f).map key = l.filter fun a => (f a).isSome := by
  induction l with
  | nil => rfl
  | cons a l ih =>
    cases hf : f a with
    | none =>
      rw [List.filterMap_cons_none hf, List.filter_cons_of_neg (by simp [hf]), ih]
    | some b =>
      rw [List.filterMap_cons_some hf, List.filter_cons_of_pos (by simp [hf]), List.map_cons, ih, h a b hf]

theorem groupMembers_extents (g : Nat) (q : List EraseEntry) :
    (groupMembers g q).map Prod.fst = (groupExtents g).filter (singleNames q) := by
  have hkey : ∀ (y : Nat) (m : Nat × Nat), (q.filterMap EraseEntry.single?).find? (fun m => m.1 = y) = some m → m.1 = y :=
    fun y m hm => by simpa using List.find?_some hm
  rw [groupMembers_eq, map_filterMap_of_key hkey]
  refine List.filter_congr fun y _ => ?_
  rw [Bool.eq_iff_iff, singleNames_iff, List.find?_isSome]
  refine ⟨fun ⟨m, hm, hy⟩ => ?_, fun ⟨id, hid⟩ => ⟨(y, id), List.mem_filterMap.mpr ⟨_, hid, rfl⟩, by simp⟩⟩
  obtain ⟨e, he, hem⟩ := List.mem_filterMap.mp hm
  rw [EraseEntry.single?_eq_some] at hem
  have hy : m.1 = y := of_decide_eq_true hy
  exact ⟨m.2, hy ▸ hem ▸ he⟩

theorem mem_groupMembers {g : Nat} {q : List EraseEntry} {y : Nat} :
    y ∈ (groupMembers g q).map Prod.fst ↔ y / 16 = g ∧ ∃ id, EraseEntry.single y id ∈ q := by
  rw [groupMembers_extents, List.mem_filter, mem_groupExtents, singleNames_iff]

theorem groupMembers_sorted (g : Nat) (q : List EraseEntry) : ((groupMembers g q).map Prod.fst).Pairwise (· < ·) := by
  rw [groupMembers_extents]
  exact (groupExtents_sorted g).filter _

theorem replaceGroup_eq {g : Nat} {q : List EraseEntry} (h : q.any (EraseEntry.inGroup g) = true) (entry : EraseEntry) :
    replaceGroup g entry q = q.takeWhile (fun x => !x.inGroup g) ++ [entry]
      ++ (q.dropWhile fun x => !x.inGroup g).filter fun x => !x.inGroup g := by
  induction q with
  | nil => exact absurd h Bool.false_ne_true
  | cons e q ih =>
    unfold replaceGroup
    by_cases he : e.inGroup g = true
    · rw [if_pos he, List.takeWhile_cons_of_neg (by simp [he]), List.dropWhile_cons_of_neg (by simp [he]),
        List.filter_cons_of_neg (by simp [he])]
      rfl
    · have hmore : q.any (EraseEntry.inGroup g) = true := by simpa [he] using h
      rw [if_neg he, List.takeWhile_cons_of_pos (by simp [he]), List.dropWhile_cons_of_pos (by simp [he]), ih hmore]
      rfl

/-- R123: when the extents of a group coalesce after a SINGLE entry has joined the queue. -/
theorem Target.coalesces_iff {k : Target} {x id : Nat} {q : List EraseEntry} (hq : k.queue = q ++ [.single x id]) :
    k.coalesces (x / 16) = true ↔ (∃ i, EraseEntry.single x i ∈ k.unissued) ∧ ∀ y, y / 16 = x / 16 →
      k.extent? y = some .free ∨ ∃ i, EraseEntry.single y i ∈ k.unissued := by
  have hlast : k.unissued ≠ [] → EraseEntry.single x id ∈ k.unissued := by
    unfold Target.unissued
    rw [hq]
    split
    · intro hne
      cases q with
      | nil => exact absurd rfl hne
      | cons e q => exact List.mem_append_right _ (List.mem_singleton_self _)
    · exact fun _ => List.mem_append_right _ (List.mem_singleton_self _)
  unfold Target.coalesces
  rw [Bool.and_eq_true, List.all_eq_true]
  refine and_congr ⟨fun hany => ?_, fun ⟨i, hi⟩ => List.any_eq_true.mpr ⟨_, hi, by simp [EraseEntry.inGroup]⟩⟩ ?_
  · exact ⟨id, hlast fun hnil => by rw [hnil] at hany; exact absurd hany Bool.false_ne_true⟩
  · simp only [mem_groupExtents, Bool.or_eq_true, decide_eq_true_eq, singleNames_iff]

theorem Target.coalesces_any {k : Target} {g : Nat} (h : k.coalesces g = true) :
    k.unissued.any (EraseEntry.inGroup g) = true := (Bool.and_eq_true_iff.mp h).1

theorem Target.coalesce_eq {k : Target} {g : Nat} (h : k.coalesces g = true) : k.coalesce g
    = { k.withExtents ((groupExtents g).filter fun y => k.extent? y = some .free) .erasing with
        queue := (if k.erase = none then [] else k.queue.take 1)
          ++ k.unissued.takeWhile (fun x => !x.inGroup g)
          ++ [.group g (groupMembers g k.unissued) ((groupExtents g).filter fun y => k.extent? y = some .free)]
          ++ (k.unissued.dropWhile fun x => !x.inGroup g).filter fun x => !x.inGroup g } := by
  unfold Target.coalesce
  dsimp only
  rw [replaceGroup_eq (Target.coalesces_any h), Target.setExtents_withExtents]
  cases k.erase with
  | none => rfl
  | some y => simp only [Option.isSome_some, if_true, List.append_assoc, reduceCtorEq, if_false]

/-! ### The entry made EXPIRING (R122) -/

/-- The target of an entry made EXPIRING. -/
def Target.expiring (k : Target) (x id : Nat) : Target := { k with queue := k.queue ++ [.single x id] }

theorem State.expire_eq (s : State) (e : SegEntry) (t : TargetNo) (x : Nat) : s.expire e t x
    = (s.withDirTargets (s.dir.map fun y => if y.id = e.id then { y with state := .expiring } else y)
        (vset s.targets t (if ((s.target t).expiring x e.id).coalesces (x / 16) then
          ((s.target t).expiring x e.id).coalesce (x / 16) else (s.target t).expiring x e.id)),
      ((s.target t).expiring x e.id).coalesces (x / 16)) := by
  have hqueued : (s.onEntry e.id fun y => { y with state := .expiring }).onTarget t (fun k =>
        { k with queue := k.queue ++ [.single x e.id] })
      = (s.onEntry e.id fun y => { y with state := .expiring }).withTarget t ((s.target t).expiring x e.id) := rfl
  unfold State.expire
  dsimp only
  rw [hqueued, State.target_withTarget_same, State.onTarget_withTarget]
  split <;> simp only [*] <;> rfl

theorem SegEntry.hasFirm_iff (e : SegEntry) : e.hasFirm = true ↔ ∃ r ∈ e.runs, r.status = .firm := by
  simp [SegEntry.hasFirm]

theorem State.heldBy_iff (s : State) (day : Nat) (cls : ClassNo) :
    s.heldBy day cls = true ↔ ∃ h ∈ s.hold.holds, h.covers day cls = true := List.any_eq_true

/-! ### The windows and the holds -/

theorem Guard.covers_iff (g : Guard) (today : Nat) (oldest : Option Nat) (day : Nat) :
    g.covers today oldest day = true ↔ (g.inRange today oldest day = true ↔ g.complement = false) := by
  unfold Guard.covers
  cases g.inRange today oldest day <;> cases g.complement <;> decide

theorem Guard.covers_of_outOfRange {g : Guard} {today : Nat} {oldest : Option Nat} {day : Nat}
    (h : g.inRange today oldest day = false) : g.covers today oldest day = g.complement := by
  unfold Guard.covers
  rw [h, Bool.false_xor]

theorem Guard.inRange_newest {g : Guard} (hs : g.span ≠ 0) (ha : g.anchor = .newest) (today : Nat) (oldest : Option Nat)
    (day : Nat) : g.inRange today oldest day = true ↔ today ≤ day + (g.span - 1) ∧ day ≤ today := by
  unfold Guard.inRange
  rw [if_neg hs, ha]
  simp only [decide_eq_true_eq]
  omega

theorem Guard.inRange_oldest {g : Guard} (hs : g.span ≠ 0) (ha : g.anchor = .oldest) (today o day : Nat)
    (hday : day ≤ 65535) : g.inRange today (some o) day = true ↔ o ≤ day ∧ day ≤ o + g.span - 1 := by
  unfold Guard.inRange
  rw [if_neg hs, ha]
  simp only [decide_eq_true_eq]
  omega

/-! ### One examination -/

section
variable {s : State} {p : Pass} {e : SegEntry}

theorem State.examine_passedOver
    (h : e.state ≠ .stored ∨ ∃ t x, e.place = some (t, x) ∧ (s.target t).state = .scanning) :
    s.examine p e = .counted s p.counts := by
  unfold State.examine
  split
  next t x hst hp =>
    rcases h with h | ⟨t', x', hp', hscan⟩
    · exact absurd hst h
    · cases hp.symm.trans hp'
      exact if_pos hscan
  next => rfl

theorem State.examine_stored {t : TargetNo} {x : Nat} (hst : e.state = .stored) (hp : e.place = some (t, x))
    (hscan : (s.target t).state ≠ .scanning) : s.examine p e
      = match (if e.hasFirm then s.keepReason p.oldest e else none) with
        | some r => .counted s (p.counts.keep r)
        | none =>
          if 64 ≤ (s.target t).queue.length then .full t
          else .counted (s.expire e t x).1 (p.counts.expire e (s.expire e t x).2) := by
  unfold State.examine
  rw [hst, hp]
  exact if_neg hscan

theorem sweepExamination_entry (hp : s.expiry.pass = some p) (h : s.walkStops p = none)
    (he : (s.dir.find? fun y => s.expiry.cursor ≤ y.id).or s.dir.head? = some e) :
    sweepExamination s = match s.examine p e with
      | .full t => (s.onExpiry fun x => { x with cursor := e.id }).passEnded p .queueFull (some t)
      | .counted u c => u.afterExamination p e.id (s.wrapsNow p) c := by
  unfold sweepExamination
  rw [hp]
  dsimp only
  rw [State.walkNext_entry h he]
  rfl

end

theorem PassCounts.expire_eq (c : PassCounts) (e : SegEntry) (merged : Bool) : c.expire e merged = { c with
    expiring := c.expiring + 1
    allVoid := c.allVoid + if e.hasFirm then 0 else 1
    eligible := if e.hasFirm then vset c.eligible e.cls (vget c.eligible e.cls + 1) else c.eligible
    coalesced := c.coalesced + if merged then 1 else 0 } := by
  unfold PassCounts.expire
  cases e.hasFirm <;> cases merged <;> rfl

/-- Settles O26. -/
theorem sweepExaminesAnEntry : Obligations.SweepExaminesAnEntry := by
  unfold Obligations.SweepExaminesAnEntry
  refine ⟨fun s hp => congrArg Host.Outcome.next ?_, fun s p hp => ⟨fun stop hstop => congrArg Host.Outcome.next ?_,
    fun e hwalk he => ⟨fun hover => congrArg Host.Outcome.next ?_, fun t x hst hplace hscan => ?_⟩⟩,
    fun g today oldest day => ⟨fun hs => ?_, fun hs ha => ?_, fun hs ha ho => ?_, fun o hs ha ho hday => ?_⟩,
    fun h day cls => ?_⟩
  · unfold sweepExamination
    rw [hp]
  · unfold sweepExamination
    rw [hp]
    dsimp only
    rw [State.walkNext_stop hstop]
    rfl
  · rw [sweepExamination_entry hp hwalk he, State.examine_passedOver hover]
    exact State.afterExamination_eq s p e p.counts
  · have hexec := sweepExamination_entry hp hwalk he
    rw [State.examine_stored hst hplace hscan] at hexec
    intro retention firm why queue unissued single ofGroup members fillers merges counts
    have hfirm : firm ↔ e.hasFirm = true := e.hasFirm_iff.symm
    have hunissued : ((s.target t).expiring x e.id).unissued = unissued := by
      unfold Target.unissued Target.expiring
      cases herase : (s.target t).erase with
      | none => exact (if_pos herase).symm
      | some y => exact (if_neg (by rw [herase]; exact fun hc => nomatch hc)).symm
    have hwhy : (if e.hasFirm then s.keepReason p.oldest e else none) = why := by
      show _ = if ¬ firm then none else _
      by_cases hf : firm
      · rw [if_pos (hfirm.mp hf), if_neg (not_not.mpr hf)]
        unfold State.keepReason
        simp only [Bool.not_eq_true, State.heldBy_iff]
        rfl
      · rw [if_neg (mt hfirm.mpr hf), if_pos hf]
    rw [hwhy] at hexec
    refine ⟨fun r hr => ?_, fun hr hroom => ?_, fun hr hfull => ?_⟩
    all_goals rw [hr] at hexec
    · exact congrArg Host.Outcome.next (hexec.trans (State.afterExamination_eq s p e _))
    · dsimp only at hexec
      rw [if_neg (Nat.not_le.mpr hroom), State.expire_eq] at hexec
      have hmerges : ((s.target t).expiring x e.id).coalesces (x / 16) = true ↔ merges :=
        (Target.coalesces_iff (q := (s.target t).queue) rfl).trans (by rw [hunissued]; exact Iff.rfl)
      generalize hm : ((s.target t).expiring x e.id).coalesces (x / 16) = merged at hexec hmerges
      have hcounts : p.counts.expire e merged = counts merged := by
        rw [PassCounts.expire_eq]
        simp only [counts, hfirm]
      dsimp only at hexec
      rw [State.examinedAs_withDirTargets s (fun y => by split <;> rfl), hcounts] at hexec
      have hmembers : groupMembers (x / 16) ((s.target t).expiring x e.id).unissued = members := by
        rw [groupMembers_eq, hunissued]
        rfl
      have hextents : ∀ y, y ∈ members.map Prod.fst ↔ y / 16 = x / 16 ∧ ∃ id, EraseEntry.single y id ∈ unissued := fun y => by
        rw [← hmembers, ← hunissued]
        exact mem_groupMembers
      refine ⟨_, merged, congrArg Host.Outcome.next hexec, hmerges, rfl, rfl, rfl, fun v hv => ?_, fun hno => ?_,
        fun hyes => ⟨?_, (hextents x).mpr ⟨rfl, hyes.1⟩, ?_, hextents⟩, ?_⟩
      · exact (vget_vset _ _ _ _).trans (if_neg hv)
      · exact (vget_vset_same _ _ _).trans (if_neg (mt hmerges.mp hno))
      · refine (vget_vset_same _ _ _).trans ((if_pos (hmerges.mpr hyes)).trans ?_)
        have hofGroup : (fun q : EraseEntry => !q.inGroup (x / 16)) = fun q => !ofGroup q := by
          funext q
          rw [EraseEntry.inGroup_eq]
          rfl
        rw [Target.coalesce_eq (hm.trans (hmerges.mpr hyes)), hofGroup, hmembers, hunissued]
        rfl
      · rw [← hmembers]
        exact groupMembers_sorted ..
      · rw [State.examinedAs_rest]
        rfl
    · dsimp only at hexec
      rw [if_pos hfull] at hexec
      exact congrArg Host.Outcome.next hexec
  · exact Guard.covers_of_outOfRange (if_pos hs)
  · rw [Guard.covers_iff, Guard.inRange_newest hs ha]
  · refine Guard.covers_of_outOfRange ?_
    unfold Guard.inRange
    rw [if_neg hs, ha, ho]
  · rw [Guard.covers_iff, ho, Guard.inRange_oldest hs ha today o day hday]
  · simp only [Hold.covers, Bool.and_eq_true, decide_eq_true_eq, and_assoc]

end Sys2Proof.Machine
end

section
/-! The close of a file (R15, R30, R32 to R34) and the ends of its runs (R74). -/

namespace Sys2Proof.Machine

/-! ### The close outcome, in the words of the statements -/

/-- R30: the slot, the record's counts and the events of a clean close. -/
def State.slotFilled (s : State) (o : CloseFacts) : State :=
  let before := (s.slotOf o.file).getD { state := .missing, holder := none, prior := none, facts := none, gapOpen := false }
  let late : List AuditEvent := if before.prior = some .waived ∨ before.gapOpen = true then
    [s.about .gap .closed (some .late) o.file none] else []
  let defect : List AuditEvent := if o.defective then
    [s.about .defect .opened (some (if 0 < o.rejected then .rejected else .count)) o.file (some o.declared)] else []
  (late ++ defect).foldl State.recorded (s.withRecord o.file fun y => { y with
    slots := y.slots.modify o.file.slot fun _ =>
      { state := if o.defective then .defective else .received, holder := none, prior := none
        facts := some { digest := o.digest, seq := o.file.seq, arrival := o.arrival }, gapOpen := false }
    archived := y.archived + o.appended
    rejected := min (y.rejected + o.rejected) 281474976710655 })

/-- R15: what the close of a file leaves of the tracker, the audit trail and the notices. -/
def State.closedAs (s : State) (o : CloseFacts) (reason : Option Routing) : State :=
  match reason with
  | none => (s.slotFilled o).oneEnds o.file.day
  | some why => s.judged o.file o.digest why

/-- R30, R32 to R34: what becomes of the runs of a file that is closed. -/
def State.closedStatus (s : State) (o : CloseFacts) (reason : Option Routing) : RunStatus :=
  if (reason = some .occupied ∨ reason = some .inProgress) ∧ s.isDuplicate o.file o.digest = true then .void else .firm

section
variable (u s : State) (o : CloseFacts)

theorem State.withBooks_slotFilled : (u.withBooks s).slotFilled o = u.withBooks (s.slotFilled o) := by
  unfold State.slotFilled
  dsimp only
  rw [State.withBooks_withRecord, State.withBooks_foldl_recorded]
  rfl

theorem State.withBooks_closedAs (reason : Option Routing) :
    (u.withBooks s).closedAs o reason = u.withBooks (s.closedAs o reason) := by
  unfold State.closedAs
  cases reason with
  | none =>
    dsimp only
    rw [State.withBooks_slotFilled, State.withBooks_oneEnds]
  | some why => exact State.withBooks_judged u s o.file o.digest why

theorem State.onRecord_resolveRuns (source day : Nat) (g : ContRecord → ContRecord) (l : LaneNo) (st : RunStatus) :
    (s.onRecord source day g).resolveRuns l st
      = (s.resolveRuns l st).withBooks (s.onRecord source day g) := by
  have hbeside : Beside (State.onRecord · source day g) := Beside.onTracker fun _ => rfl
  rw [hbeside.resolveRuns]
  exact congrArg (fun v : State => v.onRecord source day g) (State.Sealing.resolveRuns s l st).withBooks

theorem State.closeEvents_eq {v : State} (hclock : v.clock = s.clock) (before : Slot) : v.closeEvents o before
    = (if before.prior = some .waived ∨ before.gapOpen = true then [s.about .gap .closed (some .late) o.file none] else [])
      ++ if o.defective then
          [s.about .defect .opened (some (if 0 < o.rejected then .rejected else .count)) o.file (some o.declared)] else [] := by
  unfold State.closeEvents State.slotEvent State.event State.about
  rw [hclock]

theorem State.closeNormal_eq : s.closeNormal o
    = (s.resolveRuns o.lane .firm).withBooks ((s.slotFilled o).oneEnds o.file.day) := by
  unfold State.closeNormal
  dsimp only
  rw [State.onRecord_resolveRuns, State.fileEnded_eq, State.raiseAll_eq, State.closeEvents_eq s o 
      (v := (s.resolveRuns o.lane .firm).withBooks (s.onRecord o.file.source o.file.day _)) rfl,
    State.withBooks_foldl_recorded, State.withBooks_oneEnds]
  rfl

theorem State.closeLate_eq : s.closeLate o
    = (s.resolveRuns o.lane .firm).withBooks (s.recorded (s.about .lateFile .point none o.file (some o.file.seq))) := by
  unfold State.closeLate
  dsimp only
  have hbooks := (State.Sealing.resolveRuns s o.lane .firm).withBooks
  generalize s.resolveRuns o.lane .firm = v at hbooks ⊢
  rw [hbooks, State.raise_eq]
  rfl

/-- R33, R34: the close outcome of a suspect file in a day that is not settled. -/
theorem State.closeSuspect_eq : s.closeSuspect o
    = (s.resolveRuns o.lane (if s.isDuplicate o.file o.digest = true then .void else .firm)).withBooks
        (s.judged o.file o.digest .occupied) := by
  unfold State.closeSuspect State.judged
  dsimp only
  rw [State.isDuplicate_eq, State.conflictCause_eq, if_neg (by decide : ¬ Routing.occupied = .settled)]
  split
  · unfold State.closeDuplicate
    have hbooks := (State.Sealing.resolveRuns s o.lane .void).withBooks
    generalize s.resolveRuns o.lane .void = v at hbooks ⊢
    rw [State.fileEnded_eq, ← State.withBooks_oneEnds, hbooks]
    rfl
  · unfold State.closeConflict
    have hbooks := (State.Sealing.resolveRuns s o.lane .firm).withBooks
    generalize s.resolveRuns o.lane .firm = v at hbooks ⊢
    dsimp only
    rw [State.fileEnded_eq, State.raise_eq, ← State.withBooks_oneEnds, hbooks]
    rfl

/-- R15: the close outcome, by the lane's routing. -/
theorem State.closeOutcome_eq (reason : Option Routing) : s.closeOutcome o reason
    = (s.resolveRuns o.lane (s.closedStatus o reason)).withBooks (s.closedAs o reason) := by
  unfold State.closeOutcome State.closedStatus
  cases reason with
  | none => exact State.closeNormal_eq s o
  | some why =>
    cases why with
    | settled => exact State.closeLate_eq s o
    | occupied =>
      dsimp only
      rw [State.closeSuspect_eq]
      simp only [true_or, true_and]
      rfl
    | inProgress =>
      dsimp only
      rw [State.closeSuspect_eq]
      simp only [or_true, true_and]
      rfl

theorem State.closedAs_clock (reason : Option Routing) : (s.closedAs o reason).clock = s.clock := by
  have hstill := (State.still_eq (State.closeOutcome_still s o reason)).2.2.1
  rw [State.closeOutcome_eq] at hstill
  exact hstill

end

end Sys2Proof.Machine
end

section
namespace Sys2Proof.Machine

/-! ### TAKE_FILE_CLOSE -/

/-- The facts of a close, as the frame and the lane have them. -/
def State.closing (s : State) (l : LaneNo) (f : FileInfo) (declared : Nat) (crc : Crc) (arrival : Option Time) : CloseFacts :=
  { lane := l, file := f, appended := (s.lane l).appended, rejected := (s.lane l).rejected, declared := declared,
    digest := crc, arrival := arrival }

/-- What the close of a file leaves of each block. -/
def State.ClosedTo (s : State) (rest : List FileFrame) (o : CloseFacts) (reason : Option Routing) (t : State) : Prop :=
  let u := s.closedAs o reason
  t.tracker = u.tracker ∧ t.audit = u.audit ∧ t.notices = u.notices
  ∧ t.asm = { (s.popped rest).asm with lanes := vset (s.popped rest).asm.lanes o.lane ({ (s.popped rest).lane o.lane with
      state := .idle, file := none, reason := none, appended := 0, rejected := 0, timer := none }) }
  ∧ (∀ e ∈ t.dir, ∀ y ∈ e.runs, y.lane ≠ some o.lane)
  ∧ (s.popped rest).RunsResolved o.lane (s.closedStatus o reason) t
  ∧ t = { s with port := t.port, asm := t.asm, tracker := t.tracker, builder := t.builder, dir := t.dir,
                 commit := t.commit, audit := t.audit, notices := t.notices }
  ∧ t.port.fifo = rest

section
variable {s : State} {l : LaneNo} {f : FileInfo} {declared : Nat} {crc : Crc} {arrival : Option Time} {rest : List FileFrame}

theorem State.closeFacts_popped (hcrc : crc = ~~~ (s.lane l).digest) :
    (s.popped rest).closeFacts l f declared arrival = s.closing l f declared crc arrival := by
  unfold State.closeFacts State.closing
  rw [State.lane_popped_appended, State.lane_popped_rejected, State.lane_popped_digest, ← hcrc]

theorem State.closeOutcome_closedTo (o : CloseFacts) (reason : Option Routing) :
    s.ClosedTo rest o reason
      (((s.popped rest).closeOutcome o reason).onLane o.lane (Lane.clear .idle)) := by
  have hseal := State.Sealing.resolveRuns (s.popped rest) o.lane (s.closedStatus o reason)
  have hnone := (s.popped rest).resolveRuns_noneLeft o.lane (s.closedStatus o reason)
  have hclock : (s.closedAs o reason).clock = (s.popped rest).clock := State.closedAs_clock s o reason
  have hasm : ((s.popped rest).resolveRuns o.lane (s.closedStatus o reason)).asm = (s.popped rest).asm := by
    rw [hseal.rest]
    rfl
  have houtcome : (s.popped rest).closeOutcome o reason
      = ((s.popped rest).resolveRuns o.lane (s.closedStatus o reason)).withBooks (s.closedAs o reason) := by
    rw [State.closeOutcome_eq, show (s.popped rest).closedStatus o reason = s.closedStatus o reason from rfl,
      show (s.popped rest).closedAs o reason = (s.popped rest).withBooks (s.closedAs o reason) from
        State.withBooks_closedAs (s.popped rest) s o reason]
    rfl
  rw [houtcome]
  refine ⟨rfl, rfl, rfl, ?_, hnone, State.resolveRuns_runsResolved rfl rfl rfl rfl, ?_, ?_⟩
  · simp only [State.onLane, State.onAsm, State.withBooks, hasm]
    rfl
  · rw [State.withStores_withBooks hseal.rest hclock]
    rfl
  · exact (congrArg Port.fifo hseal.port :)

theorem takeFileClose_closedTo (h : s.TakesFrame l (.closing declared crc) arrival rest)
    (hstate : (s.lane l).state = .receiving ∨ (s.lane l).state = .suspect) (hf : (s.lane l).file = some f)
    (hcrc : crc = ~~~ (s.lane l).digest) :
    ∃ t, exec .takeFileClose s = .next t ∧ s.ClosedTo rest (s.closing l f declared crc arrival) (s.lane l).reason t := by
  have hopen : ((s.popped rest).lane l).hasFile = true := by
    rw [State.lane_popped]
    exact (Lane.hasFile_iff _).mpr hstate
  have hfile : ((s.popped rest).lane l).file = some f := by
    rw [State.lane_popped]
    exact hf
  refine ⟨_, exec_takeFileClose_of_takes h, ?_⟩
  rw [State.closeFrame_open hopen hfile, if_pos (by rw [State.lane_popped_digest]; exact hcrc.symm),
    State.closeFacts_popped hcrc, State.lane_popped_reason]
  exact State.closeOutcome_closedTo (s.closing l f declared crc arrival) (s.lane l).reason

end

/-- R30 in an OPEN day: no test of the day follows. -/
theorem State.oneEnds_of_open {s : State} {day : Nat} {d : DayEntry} (hd : s.day? day = some d) (hst : d.state = .opened) :
    s.oneEnds day = s.withDay day fun d => { d with inProgress := d.inProgress - 1 } := by
  refine State.tested_of_open (d := { d with inProgress := d.inProgress - 1 }) ?_ hst
  have hday : d.day = day := by simpa using List.find?_some hd
  unfold State.day? State.withDay
  rw [find?_map_of_keeps (p := fun y : DayEntry => y.day = day) (fun y => by split <;> rfl)]
  rw [show s.tracker.days.find? (fun y => y.day = day) = some d from hd, Option.map_some, if_pos hday]

theorem State.foldl_recorded_withRecord (s : State) (f : FileInfo) (g : ContRecord → ContRecord) (es : List AuditEvent) :
    es.foldl State.recorded (s.withRecord f g) = (es.foldl State.recorded s).withRecord f g :=
  (State.onTracker_foldl_recorded s (fun k => { k with
    records := k.records.map fun r => if r.source = f.source ∧ r.day = f.day then g r else r }) es).symm

/-- Settles O17. -/
theorem fileClosed : Obligations.FileClosed := by
  unfold Obligations.FileClosed
  refine ⟨fun s l declared crc arrival rest f r x d h hstate hf hreason hcrc hr hx hd hopen => ?_,
    fun s l declared crc arrival rest f h hstate hf hcrc => ?_⟩
  · intro lane defective late defect
    obtain ⟨t, hexec, htracker, haudit, hnotices, hasm, hnone, hruns, hrest, hfifo⟩ :=
      takeFileClose_closedTo h (Or.inl hstate) hf hcrc
    have hslot : s.slotOf f = some x := by
      unfold State.slotOf
      rw [hr]
      exact hx
    have hfilled : s.slotFilled (s.closing l f declared crc arrival)
        = (late ++ defect).foldl State.recorded (s.withRecord f fun y => { y with
          slots := y.slots.modify f.slot fun _ =>
            { state := if defective then .defective else .received, holder := none, prior := none
              facts := some { digest := crc, seq := f.seq, arrival := arrival }, gapOpen := false }
          archived := y.archived + lane.appended
          rejected := min (y.rejected + lane.rejected) 281474976710655 }) := by
      unfold State.slotFilled
      dsimp only
      rw [show (s.closing l f declared crc arrival).file = f from rfl, hslot]
      rfl
    have hclosed : s.closedAs (s.closing l f declared crc arrival) (s.lane l).reason
        = ((late ++ defect).foldl State.recorded (s.withRecord f fun y => { y with
          slots := y.slots.modify f.slot fun _ =>
            { state := if defective then .defective else .received, holder := none, prior := none
              facts := some { digest := crc, seq := f.seq, arrival := arrival }, gapOpen := false }
          archived := y.archived + lane.appended
          rejected := min (y.rejected + lane.rejected) 281474976710655 })).withDay f.day fun d =>
            { d with inProgress := d.inProgress - 1 } := by
      rw [hreason, ← hfilled]
      refine State.oneEnds_of_open (d := d) ?_ hopen
      unfold State.day?
      rw [hfilled, State.foldl_recorded_tracker]
      exact hd
    rw [hclosed] at htracker haudit hnotices
    refine ⟨t, hexec, ?_, ?_, ?_, hasm, hnone, ?_, hrest, hfifo⟩
    · rw [htracker]
      unfold State.withDay
      rw [State.foldl_recorded_tracker]
      rfl
    · rw [haudit, State.foldl_recorded_withRecord]
      rfl
    · rw [hnotices, State.foldl_recorded_withRecord]
      rfl
    · rw [hreason] at hruns
      exact hruns
  · intro lane before defective late defect normal u
    obtain ⟨t, hexec, htracker, haudit, hnotices, hasm, hnone, hruns, hrest, hfifo⟩ :=
      takeFileClose_closedTo h hstate hf hcrc
    have hu : s.closedAs (s.closing l f declared crc arrival) (s.lane l).reason = u := by
      unfold State.closedAs
      show _ = match (s.lane l).reason with
        | none => normal
        | some why => s.judged f crc why
      cases (s.lane l).reason <;> rfl
    rw [hu] at htracker haudit hnotices
    exact ⟨t, hexec, htracker, haudit, hnotices, hasm, hnone, hruns, hrest, hfifo⟩

/-- Settles O18. -/
theorem endOfFileResolvesRuns : Obligations.EndOfFileResolvesRuns := by
  unfold Obligations.EndOfFileResolvesRuns
  refine ⟨fun s l f arrival rest hstate hf hreason => ⟨fun declared crc h hcrc => ?_, fun h => ?_⟩,
    fun s l f why arrival rest hstate hf hreason => ⟨fun declared crc h hcrc => ?_, fun h => ?_⟩⟩
  · obtain ⟨t, hexec, -, -, -, -, -, hruns, -⟩ := takeFileClose_closedTo h (Or.inl hstate) hf hcrc
    rw [hreason] at hruns
    exact ⟨t, hexec, hruns⟩
  · obtain ⟨t, hexec, -, hruns, -⟩ := (fileAborted s l f (Or.inl hstate) hf).1 arrival rest h
    exact ⟨t, hexec, hruns⟩
  · obtain ⟨t, hexec, -, -, -, -, -, hruns, -⟩ := takeFileClose_closedTo h (Or.inr hstate) hf hcrc
    refine ⟨t, hexec, ?_⟩
    rw [hreason] at hruns
    have hstatus : s.closedStatus (s.closing l f declared crc arrival) (some why)
        = if why ≠ .settled ∧ s.isDuplicate f crc = true then .void else .firm := by
      unfold State.closedStatus
      cases why <;> simp [State.closing]
    exact hstatus ▸ hruns
  · obtain ⟨t, hexec, -, hruns, -⟩ := (fileAborted s l f (Or.inr hstate) hf).1 arrival rest h
    exact ⟨t, hexec, hruns⟩

end Sys2Proof.Machine
end

section
/-! The open outcome of a file (R10, R25, R28, R29). -/

namespace Sys2Proof.Machine

/-! ### Records of the Continuity Table -/

theorem find?_insertRecord (r : ContRecord) (l : List ContRecord)
    (hnone : l.find? (fun y => decide (y.source = r.source ∧ y.day = r.day)) = none) (a b : Nat) :
    (insertRecord r l).find? (fun y => decide (y.source = a ∧ y.day = b))
      = if a = r.source ∧ b = r.day then some r else l.find? fun y => decide (y.source = a ∧ y.day = b) := by
  induction l with
  | nil =>
    by_cases hkey : a = r.source ∧ b = r.day
    · simp [insertRecord, hkey]
    · have hkey' : ¬ (r.source = a ∧ r.day = b) := fun h => hkey ⟨h.1.symm, h.2.symm⟩
      simp [insertRecord, hkey, hkey']
  | cons y t ih =>
    rw [List.find?_cons] at hnone
    split at hnone
    · cases hnone
    next hy =>
    have hy : ¬ (y.source = r.source ∧ y.day = r.day) := of_decide_eq_false hy
    unfold insertRecord
    split
    · rw [List.find?_cons]
      by_cases hkey : a = r.source ∧ b = r.day
      · rw [decide_eq_true (p := r.source = a ∧ r.day = b) ⟨hkey.1.symm, hkey.2.symm⟩, if_pos hkey]
      · rw [decide_eq_false (p := r.source = a ∧ r.day = b) fun h => hkey ⟨h.1.symm, h.2.symm⟩, if_neg hkey]
    · rw [List.find?_cons, List.find?_cons, ih hnone]
      by_cases hkey : a = r.source ∧ b = r.day
      · rw [if_pos hkey, if_pos hkey, hkey.1, hkey.2, decide_eq_false hy]
      · rw [if_neg hkey, if_neg hkey]

section
variable {s : State} {r : ContRecord}

theorem State.record?_addRecord (hnone : s.record? r.source r.day = none) (a b : Nat) :
    (s.addRecord r).record? a b = if a = r.source ∧ b = r.day then some r else s.record? a b :=
  find?_insertRecord r s.tracker.records hnone a b

theorem State.day?_addRecord (b : Nat) :
    (s.addRecord r).day? b = if b = r.day then (s.day? b).map (fun d => { d with live := d.live + 1 }) else s.day? b :=
  State.day?_onDay (s.onTracker fun k => { k with records := insertRecord r k.records }) r.day
    (f := fun d => { d with live := d.live + 1 }) (fun _ => rfl) b

end

theorem State.record?_onRecord (s : State) (source day : Nat) {g : ContRecord → ContRecord}
    (hg : ∀ r, (g r).source = r.source ∧ (g r).day = r.day) (a b : Nat) :
    (s.onRecord source day g).record? a b
      = if a = source ∧ b = day then (s.record? a b).map g else s.record? a b := by
  have hfind := s.record?_withRecord { source := source, day := day, slot := 0, seq := 0 } hg a b
  refine hfind.trans ?_
  cases hr : s.record? a b with
  | none => simp
  | some r =>
    have hkey : r.source = a ∧ r.day = b := by simpa using List.find?_some hr
    rw [Option.map_some, Option.map_some, hkey.1, hkey.2]
    dsimp only
    split <;> rfl

/-! ### Changes of the records and the days alone -/

/-- The records and the days of the tracker alone differ. -/
def State.TablesOf (w x : State) : Prop :=
  x = w.onTracker fun k => { k with records := x.tracker.records, days := x.tracker.days }

section
variable {w x y : State}

theorem State.TablesOf.refl (w : State) : w.TablesOf w := rfl

theorem State.TablesOf.trans (h : w.TablesOf x) (h' : x.TablesOf y) : w.TablesOf y := by
  unfold State.TablesOf at *
  rw [h] at h'
  exact h'

theorem State.TablesOf.onDay (h : w.TablesOf x) (day : Nat) (g : DayEntry → DayEntry) : w.TablesOf (x.onDay day g) :=
  h.trans rfl

theorem State.TablesOf.onRecord (h : w.TablesOf x) (source day : Nat) (g : ContRecord → ContRecord) :
    w.TablesOf (x.onRecord source day g) := h.trans rfl

theorem State.TablesOf.addRecord (h : w.TablesOf x) (r : ContRecord) : w.TablesOf (x.addRecord r) := h.trans rfl

theorem State.TablesOf.ensureDay (h : w.TablesOf x) (day : Nat) : w.TablesOf (x.ensureDay day) := by
  refine h.trans ?_
  unfold State.ensureDay
  split
  · exact .refl x
  · rfl

theorem State.TablesOf.foldl_recorded (h : w.TablesOf x) (es : List AuditEvent) :
    (es.foldl State.recorded w).TablesOf (es.foldl State.recorded x) := by
  unfold State.TablesOf at *
  rw [State.foldl_recorded_tracker, State.onTracker_foldl_recorded]
  exact congrArg (es.foldl State.recorded) h

/-- R25: how far a file's sequence is ahead of the one expected. -/
def State.seqAhead (s : State) (f : FileInfo) : Nat :=
  match (s.source f.source).expected with
  | none => 0
  | some e => (f.seq + 65536 - e) % 65536

theorem State.sequenced_eq (s : State) (f : FileInfo) : s.sequenced f
    = (let moved : State := s.onTracker fun k => { k with
        sources := vmod k.sources f.source fun x => { x with expected := some ((f.seq + 1) % 65536) } }
       if s.seqAhead f = 0 then moved
       else if s.seqAhead f ≤ 32767 then moved.recorded (s.about .sequenceJump .point none f (some (s.seqAhead f)))
       else s) := rfl

/-- The check of a file's sequence looks at the Source Table alone. -/
theorem State.TablesOf.sequenced (h : w.TablesOf x) (f : FileInfo) :
    (x.sequenced f).tracker = { (w.sequenced f).tracker with records := x.tracker.records, days := x.tracker.days }
    ∧ (x.sequenced f).audit = (w.sequenced f).audit ∧ (x.sequenced f).notices = (w.sequenced f).notices := by
  have hahead : x.seqAhead f = w.seqAhead f := by rw [h]; rfl
  rw [State.sequenced_eq, State.sequenced_eq, hahead]
  generalize w.seqAhead f = ahead
  dsimp only
  unfold State.TablesOf at h
  split
  · rw [h]
    exact ⟨rfl, rfl, rfl⟩
  split
  · rw [h]
    exact ⟨rfl, rfl, rfl⟩
  · rw [h]
    exact ⟨rfl, rfl, rfl⟩

end

/-- The sequence check changes neither records nor days. -/
theorem State.sequenced_tables (s : State) (f : FileInfo) : (s.sequenced f).tracker.records = s.tracker.records
    ∧ (s.sequenced f).tracker.days = s.tracker.days ∧ (s.sequenced f).tracker.settled = s.tracker.settled
    ∧ (s.sequenced f).tracker.policy = s.tracker.policy := by
  rw [State.sequenced_eq]
  dsimp only
  split
  · exact ⟨rfl, rfl, rfl, rfl⟩
  split
  · exact ⟨rfl, rfl, rfl, rfl⟩
  · exact ⟨rfl, rfl, rfl, rfl⟩

end Sys2Proof.Machine
end

section
namespace Sys2Proof.Machine

/-! ### The record made for a file -/

/-- The record made where there is none, its day's entry being `d` (R28, R29). -/
def State.recordMade (s : State) (f : FileInfo) (d : DayEntry) : ContRecord :=
  let blank : Slot := { state := .missing, holder := none, prior := none, facts := none, gapOpen := false }
  let n : Nat := (s.source f.source).filesPerDay
  let fresh : ContRecord :=
    { source := f.source, day := f.day, expected := n, slots := List.replicate n blank, state := .collecting
      archived := 0, rejected := 0, duplicates := 0, conflicts := 0, suspects := 0 }
  if d.state = .opened then fresh
  else match d.retired.find? (·.source = f.source) with
    | some i => { fresh with
        state := .reconciling, expected := i.expected, archived := i.archived, rejected := i.rejected
        duplicates := i.duplicates, conflicts := i.conflicts
        slots := List.replicate i.expected { blank with state := .received } }
    | none => { fresh with
        state := .reconciling
        slots := (List.range n).map fun i => { blank with gapOpen := decide (i ≠ f.slot) } }

/-- The gaps opened with it (R29). -/
def State.gapsMade (s : State) (f : FileInfo) (d : DayEntry) : List AuditEvent :=
  if d.state = .opened ∨ d.retired.find? (·.source = f.source) ≠ none then []
  else ((List.range (s.source f.source).filesPerDay).filter (· ≠ f.slot)).map fun i =>
    s.about .gap .opened none { f with slot := i } none

/-- Its day's entry. -/
def dayWithRecord (f : FileInfo) (d : DayEntry) : DayEntry :=
  { d with
    live := d.live + 1
    retired := if d.state = .opened then d.retired else d.retired.filter (·.source ≠ f.source) }

/-- The record restored leaves the retired list of its day (R29). -/
def retiresFor (f : FileInfo) (d y : DayEntry) : DayEntry :=
  { y with retired := if d.state = .opened ∨ d.retired.find? (·.source = f.source) = none then y.retired
                      else y.retired.filter (·.source ≠ f.source) }

theorem State.recordMade_key (s : State) (f : FileInfo) (d : DayEntry) :
    (s.recordMade f d).source = f.source ∧ (s.recordMade f d).day = f.day := by
  unfold State.recordMade
  dsimp only
  split
  · exact ⟨rfl, rfl⟩
  · split <;> exact ⟨rfl, rfl⟩

section
variable {s : State} {f : FileInfo} {d : DayEntry}

/-- R28 step 2, R29, by the state of the day and its retired list. -/
theorem State.ensureRecord_eq (hr : s.record? f.source f.day = none) (hd : s.day? f.day = some d) : s.ensureRecord f
    = ((s.gapsMade f d).foldl State.recorded (s.addRecord (s.recordMade f d))).onDay f.day
        (retiresFor f d) := by
  have hsame : ∀ u : State, (d.state = .opened ∨ d.retired.find? (·.source = f.source) = none) →
      u.onDay f.day (retiresFor f d) = u := fun u hkept => by
    have hretires : retiresFor f d = fun y => y := funext fun y => by
      unfold retiresFor
      rw [if_pos hkept]
    unfold State.onDay State.onTracker
    rw [hretires]
    simp only [ite_self, List.map_id']
  unfold State.ensureRecord State.recordMade State.gapsMade
  rw [hr, hd]
  dsimp only
  by_cases hopen : d.state = .opened
  · rw [if_pos hopen, if_pos hopen, if_pos (Or.inl hopen)]
    rw [hsame _ (Or.inl hopen), List.foldl_nil]
    congr 1
    simp [ContRecord.new, Slot.new]
  · rw [if_neg hopen, if_neg hopen]
    unfold DayEntry.retiredItem?
    cases hitem : d.retired.find? (·.source = f.source) with
    | some i =>
      have hretires : retiresFor f d = fun y => { y with retired := y.retired.filter (·.source ≠ f.source) } :=
        funext fun y => by
          unfold retiresFor
          rw [if_neg (by simp [hopen, hitem])]
      rw [if_pos (Or.inr (by simp)), hretires]
      have hrestored : s.restoreRecord f i = (s.addRecord {
          source := f.source, day := f.day, expected := i.expected
          slots := List.replicate i.expected
            { state := .received, holder := none, prior := none, facts := none, gapOpen := false }
          state := .reconciling, archived := i.archived, rejected := i.rejected, duplicates := i.duplicates
          conflicts := i.conflicts, suspects := 0 }).onDay f.day
          (fun y => { y with retired := y.retired.filter (·.source ≠ f.source) }) := by
        unfold State.restoreRecord ContRecord.new
        rw [List.length_replicate]
        rfl
      exact hrestored
    | none =>
      rw [if_neg (by simp [hopen]), hsame _ (Or.inr hitem)]
      unfold State.addLateRecord
      rw [State.raiseAll_eq]
      unfold ContRecord.new
      rw [List.length_map, List.length_range]
      rfl

theorem State.record?_ensureRecord (hr : s.record? f.source f.day = none) (hd : s.day? f.day = some d) (a b : Nat) :
    (s.ensureRecord f).record? a b = if a = f.source ∧ b = f.day then some (s.recordMade f d) else s.record? a b := by
  obtain ⟨hsource, hday⟩ := s.recordMade_key f d
  rw [State.ensureRecord_eq hr hd]
  have hrecords : ∀ (u : State) (es : List AuditEvent) (g), ((es.foldl State.recorded u).onDay f.day g).record? a b = u.record? a b :=
    fun u es g => by
      unfold State.record?
      rw [show ((es.foldl State.recorded u).onDay f.day g).tracker.records = (es.foldl State.recorded u).tracker.records from rfl,
        State.foldl_recorded_tracker]
  rw [hrecords, State.record?_addRecord (by rw [hsource, hday]; exact hr), hsource, hday]

theorem State.day?_ensureRecord (hr : s.record? f.source f.day = none) (hd : s.day? f.day = some d) (b : Nat) :
    (s.ensureRecord f).day? b = if b = f.day then some (dayWithRecord f d) else s.day? b := by
  rw [State.ensureRecord_eq hr hd, State.day?_onDay _ _ (f := retiresFor f d) (fun _ => rfl)]
  have hdays : ∀ (u : State) (es : List AuditEvent), (es.foldl State.recorded u).day? b = u.day? b := fun u es => by
    unfold State.day?
    rw [State.foldl_recorded_tracker]
  rw [hdays, State.day?_addRecord, (s.recordMade_key f d).2]
  by_cases hb : b = f.day
  · subst hb
    rw [if_pos rfl, if_pos rfl, if_pos rfl, hd]
    simp only [Option.map_some, dayWithRecord, retiresFor]
    by_cases hopen : d.state = .opened
    · simp [hopen]
    · cases hitem : d.retired.find? (·.source = f.source) with
      | some i => simp [hopen]
      | none =>
        have hall : d.retired.filter (·.source ≠ f.source) = d.retired :=
          List.filter_eq_self.mpr fun i hi => by simpa using List.find?_eq_none.mp hitem i hi
        simp only [or_true, if_true, hopen, if_false, hall]
  · rw [if_neg hb, if_neg hb, if_neg hb]

theorem State.ensureRecord_tablesOf (hr : s.record? f.source f.day = none) (hd : s.day? f.day = some d) :
    ((s.gapsMade f d).foldl State.recorded s).TablesOf (s.ensureRecord f) := by
  rw [State.ensureRecord_eq hr hd]
  exact (((State.TablesOf.refl s).addRecord _).foldl_recorded _).onDay _ _

end

/-! ### The open outcome -/

theorem State.newDay_eq (s : State) (day : Nat) : (s.day? day).getD (s.newDay day) = s.dayFor day := rfl

theorem State.withBooks_openOutcome (u s : State) (l : LaneNo) (f : FileInfo) (reason : Option Routing) :
    (u.withBooks s).openOutcome l f reason = u.withBooks (s.openOutcome l f reason) := by
  have hday : (u.withBooks s).ensureDay f.day = u.withBooks (s.ensureDay f.day) := by
    unfold State.ensureDay
    rw [show (u.withBooks s).day? f.day = s.day? f.day from rfl]
    cases s.day? f.day <;> rfl
  have hrecord : ∀ x : State, (u.withBooks x).ensureRecord f = u.withBooks (x.ensureRecord f) := fun x => by
    cases hr : x.record? f.source f.day with
    | some r =>
      have hkept : ∀ v : State, v.record? f.source f.day = some r → v.ensureRecord f = v := fun v hv => by
        unfold State.ensureRecord
        rw [hv]
      rw [hkept x hr, hkept (u.withBooks x) hr]
    | none =>
      cases hd : x.day? f.day with
      | none =>
        have hkept : ∀ v : State, v.record? f.source f.day = none → v.day? f.day = none → v.ensureRecord f = v := fun v hv hd => by
          unfold State.ensureRecord
          rw [hv, hd]
        rw [hkept x hr hd, hkept (u.withBooks x) hr hd]
      | some d =>
        rw [State.ensureRecord_eq hr hd, State.ensureRecord_eq (s := u.withBooks x) hr hd]
        exact congrArg (fun v : State => v.onDay f.day (retiresFor f d))
          (State.withBooks_foldl_recorded u (x.addRecord (x.recordMade f d)) (x.gapsMade f d))
  have henter : ∀ x : State, (u.withBooks x).enterFile l f reason = u.withBooks (x.enterFile l f reason) := fun x => by
    cases reason <;> rfl
  unfold State.openOutcome
  rw [show (u.withBooks s).isSettled f.day = s.isSettled f.day from rfl, State.checkSequence_eq, State.checkSequence_eq,
    State.checkSequence_eq, State.checkSequence_eq, hday, hrecord, henter]
  split
  · exact State.withBooks_sequenced u s f
  · exact State.withBooks_sequenced u ((((s.ensureDay f.day).ensureRecord f).enterFile l f reason).onDay f.day
      fun d => { d with inProgress := d.inProgress + 1 }) f

end Sys2Proof.Machine
end

section
namespace Sys2Proof.Machine

/-! ### The file accepted on its lane -/

/-- The lane of an accepted file, behind the open outcome `o` of its tracker. -/
def State.accepted (s1 o : State) (l : LaneNo) (f : FileInfo) (reason : Option Routing) : State :=
  (s1.withLane l { s1.lane l with
    state := if reason = none then .receiving else .suspect, file := some f, reason := reason
    digest := 0xFFFFFFFF#32, appended := 0, rejected := 0, timer := s1.timerAfter l }).withBooks o

/-- A day that is not settled takes the file. -/
theorem State.openOutcome_unsettled {s : State} {l : LaneNo} {f : FileInfo} {reason : Option Routing}
    (hday : s.isSettled f.day = false) : s.openOutcome l f reason
      = ((((s.ensureDay f.day).ensureRecord f).enterFile l f reason).onDay f.day
          fun d => { d with inProgress := d.inProgress + 1 }).sequenced f := by
  unfold State.openOutcome
  rw [if_neg (by rw [hday]; exact Bool.false_ne_true)]
  exact State.checkSequence_eq _ _

theorem State.openOutcome_eq_sequenced {s : State} {l : LaneNo} {f : FileInfo} {reason : Option Routing}
    (hday : s.isSettled f.day = true) : s.openOutcome l f reason = s.sequenced f := by
  unfold State.openOutcome
  rw [if_pos hday]
  exact State.checkSequence_eq _ _

theorem State.ensureRecord_of_some {s : State} {f : FileInfo} {r : ContRecord} (h : s.record? f.source f.day = some r) :
    s.ensureRecord f = s := by
  unfold State.ensureRecord
  rw [h]

theorem State.ensureDay_of_some {s : State} {day : Nat} {d : DayEntry} (h : s.day? day = some d) :
    s.ensureDay day = s := by
  unfold State.ensureDay
  rw [h]

theorem State.foldl_recorded_settings (es : List AuditEvent) {s x : State} (h : (es.foldl State.recorded s).TablesOf x) :
    x.tracker.settled = s.tracker.settled ∧ x.tracker.policy = s.tracker.policy := by
  unfold State.TablesOf at h
  rw [h]
  simp only [State.onTracker, State.foldl_recorded_tracker, and_self]

theorem State.ensureRecord_settings (s : State) (f : FileInfo) :
    (s.ensureRecord f).tracker.settled = s.tracker.settled ∧ (s.ensureRecord f).tracker.policy = s.tracker.policy := by
  cases hr : s.record? f.source f.day with
  | some r =>
    rw [State.ensureRecord_of_some hr]
    exact ⟨rfl, rfl⟩
  | none =>
    cases hd : s.day? f.day with
    | none =>
      unfold State.ensureRecord
      rw [hr, hd]
      exact ⟨rfl, rfl⟩
    | some d => exact State.foldl_recorded_settings _ (State.ensureRecord_tablesOf hr hd)

theorem State.openOutcome_settings (s : State) (l : LaneNo) (f : FileInfo) (reason : Option Routing) :
    (s.openOutcome l f reason).tracker.settled = s.tracker.settled
    ∧ (s.openOutcome l f reason).tracker.policy = s.tracker.policy := by
  cases hday : s.isSettled f.day with
  | true =>
    rw [State.openOutcome_eq_sequenced hday]
    exact (s.sequenced_tables f).2.2
  | false =>
    rw [State.openOutcome_unsettled hday]
    obtain ⟨-, -, hsettled, hpolicy⟩ := ((((s.ensureDay f.day).ensureRecord f).enterFile l f reason).onDay f.day
      fun d => { d with inProgress := d.inProgress + 1 }).sequenced_tables f
    obtain ⟨hmade, hmadePolicy⟩ := (s.ensureDay f.day).ensureRecord_settings f
    rw [hsettled, hpolicy]
    have henter : ∀ x : State, (x.enterFile l f reason).tracker.settled = x.tracker.settled
        ∧ (x.enterFile l f reason).tracker.policy = x.tracker.policy := fun x => by
      cases reason <;> exact ⟨rfl, rfl⟩
    have hensure : (s.ensureDay f.day).tracker.settled = s.tracker.settled
        ∧ (s.ensureDay f.day).tracker.policy = s.tracker.policy := by
      unfold State.ensureDay
      split <;> exact ⟨rfl, rfl⟩
    exact ⟨((henter _).1.trans hmade).trans hensure.1, ((henter _).2.trans hmadePolicy).trans hensure.2⟩

section
variable {s : State} {l : LaneNo} {f : FileInfo} {arrival : Option Time} {rest : List FileFrame}

theorem State.acceptFile_eq (s1 : State) (l : LaneNo) (f : FileInfo) :
    s1.acceptFile l f = s1.accepted (s1.openOutcome l f (s1.routing f)) l f (s1.routing f) := by
  generalize hreason : s1.routing f = reason
  have hopen : (s1.onLane l (Lane.accept f reason)).openOutcome l f reason
      = (s1.onLane l (Lane.accept f reason)).withBooks (s1.openOutcome l f reason) :=
    State.withBooks_openOutcome (s1.onLane l (Lane.accept f reason)) s1 l f reason
  unfold State.acceptFile
  rw [hreason]
  dsimp only
  rw [hopen]
  obtain ⟨-, -, hclock, -, -⟩ := State.still_eq (State.openOutcome_still s1 l f reason)
  have hpolicy := (s1.openOutcome_settings l f reason).2
  generalize s1.openOutcome l f reason = o at hclock hpolicy
  have hlane : ((s1.onLane l (Lane.accept f reason)).withBooks o).lane l = Lane.accept f reason (s1.lane l) := by
    exact State.lane_onLane_same s1 l _
  have hfile : (Lane.accept f reason (s1.lane l)).hasFile = true := by
    cases reason <;> rfl
  have hlater : (¬ s1.port.hasLane l ∧ (s1.lane l).overrun = none)
      ↔ (s1.port.fifo.all (fun x => x.lane ≠ l) && (s1.lane l).overrun.isNone) = true := by
    simp [Port.hasLane]
  unfold State.startTimer
  rw [hlane]
  have hcond : ((Lane.accept f reason (s1.lane l)).hasFile = true
        ∧ ¬ ((s1.onLane l (Lane.accept f reason)).withBooks o).port.hasLane l
        ∧ (Lane.accept f reason (s1.lane l)).overrun = none)
      ↔ (s1.port.fifo.all (fun x => x.lane ≠ l) && (s1.lane l).overrun.isNone) = true :=
    (and_iff_right hfile).trans hlater
  unfold State.accepted State.timerAfter
  by_cases hdue : (s1.port.fifo.all (fun x => x.lane ≠ l) && (s1.lane l).overrun.isNone) = true
  · rw [if_pos (hcond.mpr hdue), if_pos hdue]
    have htimer : ((s1.onLane l (Lane.accept f reason)).withBooks o).clock.reading.map
          (fun t => t.seconds + ((s1.onLane l (Lane.accept f reason)).withBooks o).tracker.policy.laneTimeout)
        = s1.clock.reading.map fun t => t.day * 86400 + t.second + s1.tracker.policy.laneTimeout := by
      show o.clock.reading.map (fun t => t.seconds + o.tracker.policy.laneTimeout) = _
      rw [hclock, hpolicy]
      rfl
    rw [htimer]
    have htwice : ∀ g : Lane → Lane, ((s1.onLane l (Lane.accept f reason)).withBooks o).onLane l g
        = ((s1.onLane l (Lane.accept f reason)).onLane l g).withBooks o := fun g => rfl
    rw [htwice, State.onLane_onLane]
    rfl
  · rw [if_neg (fun h => hdue (hcond.mp h)), if_neg hdue, State.onLane_eq]
    rfl

/-- The state after a FILE_OPEN that R8 accepts on a lane with no file. -/
theorem exec_takeFileOpen_accepted (h : s.TakesFrame l (.opening f.source f.day f.slot f.seq) arrival rest)
    (hstate : (s.lane l).state = .idle ∨ (s.lane l).state = .discarding) (haccept : s.refusal f = none) :
    exec .takeFileOpen s
      = .next ((s.popped rest).accepted (s.openOutcome l f (s.routing f)) l f (s.routing f)) := by
  have hshut : ((s.popped rest).lane l).hasFile = false :=
    Lane.hasFile_eq_false (by rw [State.lane_popped_state]; exact hstate)
  rw [exec_takeFileOpen_of_takes h, State.openFile]
  simp only [State.abortFile_of_not_hasFile hshut]
  rw [show (s.popped rest).refusal f = none from haccept]
  dsimp only
  rw [State.acceptFile_eq]
  have hbooks : (s.popped rest).openOutcome l f (s.routing f)
      = (s.popped rest).withBooks (s.openOutcome l f (s.routing f)) :=
    State.withBooks_openOutcome (s.popped rest) s l f (s.routing f)
  rw [show (s.popped rest).routing f = s.routing f from rfl, hbooks]
  rfl

end

/-! ### The slot taken -/

/-- A slot as a normally routed file takes it (R28 step 3). -/
theorem State.routing_unsettled {s : State} {f : FileInfo} (hday : s.isSettled f.day = false) :
    s.routing f = none ↔ (s.slotOf f).any (fun x => x.state = .received || x.state = .defective || x.state = .inProgress)
      = false := by
  unfold State.routing State.slotOf
  rw [if_neg (by rw [hday]; exact Bool.false_ne_true)]
  show (match (s.record? f.source f.day).bind (fun r => r.slots[f.slot]?) with
    | none => none
    | some x => if x.occupied then some Routing.occupied else if x.state = .inProgress then some .inProgress else none)
      = none ↔ _
  cases hslot : (s.record? f.source f.day).bind (fun r => r.slots[f.slot]?) with
  | none => simp
  | some x =>
    unfold Slot.occupied
    cases hx : x.state <;> simp [hx]

/-- R28 step 3, by the routing. -/
theorem State.enterFile_eq (s : State) (l : LaneNo) (f : FileInfo) (reason : Option Routing) (suspect : Bool)
    (h : reason = none ↔ suspect = false) : s.enterFile l f reason = s.withRecord f fun y =>
      if suspect then { y with suspects := y.suspects + 1 } else { y with slots := y.slots.modify f.slot (Slot.take l) } := by
  cases reason with
  | none =>
    rw [h.mp rfl]
    rfl
  | some why =>
    cases hsuspect : suspect with
    | false => exact absurd (h.mpr hsuspect) nofun
    | true => rfl

/-- The open outcome where the record exists. -/
theorem State.openOutcome_recorded {s : State} {l : LaneNo} {f : FileInfo} {r : ContRecord} {d : DayEntry}
    (hday : s.isSettled f.day = false) (hentry : s.day? f.day = some d) (hrecord : s.record? f.source f.day = some r) :
    s.openOutcome l f (s.routing f) = ((s.withRecord f fun y =>
        if (s.slotOf f).any (fun x => x.state = .received || x.state = .defective || x.state = .inProgress)
        then { y with suspects := y.suspects + 1 } else { y with slots := y.slots.modify f.slot (Slot.take l) }).withDay f.day
          fun y => { y with inProgress := y.inProgress + 1 }).sequenced f := by
  rw [State.openOutcome_unsettled hday, State.ensureDay_of_some hentry, State.ensureRecord_of_some hrecord,
    State.enterFile_eq s l f _ _ (State.routing_unsettled hday)]
  rfl

/-- R25: the sequence of a file is the one expected, or none is. -/
theorem State.seqAhead_eq_zero {s : State} {f : FileInfo}
    (h : (s.source f.source).expected = none ∨ (s.source f.source).expected = some f.seq ∧ f.seq < 65536) :
    s.seqAhead f = 0 := by
  unfold State.seqAhead
  rcases h with h | ⟨h, hseq⟩
  · rw [h]
  · rw [h]
    dsimp only
    omega

theorem State.sequenced_expected (s : State) {f : FileInfo}
    (h : (s.source f.source).expected = none ∨ (s.source f.source).expected = some f.seq ∧ f.seq < 65536) :
    s.sequenced f = s.onTracker fun k => { k with
      sources := vmod k.sources f.source fun x => { x with expected := some ((f.seq + 1) % 65536) } } := by
  rw [State.sequenced_eq]
  exact if_pos (State.seqAhead_eq_zero h)

/-! ### The record made -/

section
variable {s : State} {l : LaneNo} {f : FileInfo}

theorem State.record?_sequenced (x : State) (a b : Nat) : (x.sequenced f).record? a b = x.record? a b := by
  unfold State.record?
  rw [(x.sequenced_tables f).1]

theorem State.day?_sequenced (x : State) (b : Nat) : (x.sequenced f).day? b = x.day? b := by
  unfold State.day?
  rw [(x.sequenced_tables f).2.1]

/-- A record made takes the file's slot, and its day the file. -/
def State.entered (s : State) (l : LaneNo) (f : FileInfo) : State :=
  (((s.ensureDay f.day).ensureRecord f).onSlot f.source f.day f.slot (Slot.take l)).onDay f.day
    fun d => { d with inProgress := d.inProgress + 1 }

theorem State.routing_unrecorded (hday : s.isSettled f.day = false) (hr : s.record? f.source f.day = none) :
    s.routing f = none := by
  rw [State.routing_unsettled hday, State.slotOf, hr]
  rfl

theorem State.openOutcome_unrecorded (hday : s.isSettled f.day = false) (hr : s.record? f.source f.day = none) :
    s.openOutcome l f (s.routing f) = (s.entered l f).sequenced f := by
  rw [State.openOutcome_unsettled hday, State.routing_unrecorded hday hr]
  rfl

theorem State.day?_ensured (s : State) (day : Nat) : (s.ensureDay day).day? day = some (s.dayFor day) := by
  rw [State.day?_ensureDay, if_pos rfl]
  exact congrArg some (s.newDay_eq day)

theorem State.record?_ensureDay (s : State) (day a b : Nat) : (s.ensureDay day).record? a b = s.record? a b := by
  unfold State.ensureDay
  split <;> rfl

theorem State.recordMade_ensureDay (s : State) (f : FileInfo) (day : Nat) (d : DayEntry) :
    (s.ensureDay day).recordMade f d = s.recordMade f d := by
  unfold State.ensureDay
  split <;> rfl

theorem State.gapsMade_ensureDay (s : State) (f : FileInfo) (day : Nat) (d : DayEntry) :
    (s.ensureDay day).gapsMade f d = s.gapsMade f d := by
  unfold State.ensureDay
  split <;> rfl

theorem State.record?_entered (hr : s.record? f.source f.day = none) (a b : Nat) : (s.entered l f).record? a b
    = if a = f.source ∧ b = f.day then
        some { s.recordMade f (s.dayFor f.day) with
          slots := (s.recordMade f (s.dayFor f.day)).slots.modify f.slot (Slot.take l) }
      else s.record? a b := by
  have hnone : (s.ensureDay f.day).record? f.source f.day = none := by rw [State.record?_ensureDay, hr]
  have hslot := State.record?_onRecord ((s.ensureDay f.day).ensureRecord f) f.source f.day
    (g := fun r => r.onSlot f.slot (Slot.take l)) (fun r => ⟨rfl, rfl⟩) a b
  refine hslot.trans ?_
  rw [State.record?_ensureRecord hnone (s.day?_ensured f.day), State.recordMade_ensureDay, State.record?_ensureDay]
  split <;> rfl

theorem State.day?_entered (hr : s.record? f.source f.day = none) (b : Nat) : (s.entered l f).day? b
    = if b = f.day then
        some { dayWithRecord f (s.dayFor f.day) with inProgress := (s.dayFor f.day).inProgress + 1 }
      else s.day? b := by
  have hnone : (s.ensureDay f.day).record? f.source f.day = none := by rw [State.record?_ensureDay, hr]
  unfold State.entered
  rw [State.day?_onDay _ _ (f := fun d => { d with inProgress := d.inProgress + 1 }) (fun _ => rfl)]
  have hslot : ∀ x : State, (x.onSlot f.source f.day f.slot (Slot.take l)).day? b = x.day? b := fun _ => rfl
  rw [hslot, State.day?_ensureRecord hnone (s.day?_ensured f.day)]
  by_cases hb : b = f.day
  · rw [if_pos hb, if_pos hb, if_pos hb]
    rfl
  · rw [if_neg hb, if_neg hb, if_neg hb, State.day?_ensureDay, if_neg hb]

theorem State.entered_tablesOf (hr : s.record? f.source f.day = none) :
    ((s.gapsMade f (s.dayFor f.day)).foldl State.recorded s).TablesOf (s.entered l f) := by
  have hnone : (s.ensureDay f.day).record? f.source f.day = none := by rw [State.record?_ensureDay, hr]
  have hmade := State.ensureRecord_tablesOf hnone (s.day?_ensured f.day)
  rw [State.gapsMade_ensureDay] at hmade
  exact ((((State.TablesOf.refl s).ensureDay f.day).foldl_recorded _).trans hmade).trans rfl

end

/-- A missing or waived slot is not held by another file. -/
theorem State.slotOf_free {s : State} {f : FileInfo} {r : ContRecord} {x : Slot}
    (hr : s.record? f.source f.day = some r) (hx : r.slots[f.slot]? = some x)
    (hfree : x.state = .missing ∨ x.state = .waived) :
    (s.slotOf f).any (fun x => x.state = .received || x.state = .defective || x.state = .inProgress) = false := by
  rw [State.slotOf, hr, Option.bind_some, hx]
  rcases hfree with hfree | hfree <;> simp [hfree]

/-- Settles O12: the lane, then the open outcome by the day and its record. -/
theorem fileAccepted : Obligations.FileAccepted := by
  refine ⟨fun s l f arrival rest h hstate haccept => ?_,
    fun s l f arrival rest d r x h hstate haccept hday hentry hrecord hx hfree hseq => ?_,
    fun s l f arrival rest h hstate haccept => ⟨fun hday => ?_, fun r hday hentry hrecord => ?_, fun hday hr => ?_⟩⟩
  · intro reason s1
    have hrouting : reason = s.routing f := by
      unfold State.routing Slot.occupied ContRecord.slot?
      simp only [Bool.or_eq_true, decide_eq_true_eq]
      rfl
    clear_value reason
    subst hrouting
    refine ⟨_, exec_takeFileOpen_accepted h hstate haccept, ?_, ?_⟩
    · obtain ⟨-, -, hclock, -, -⟩ := State.still_eq (State.openOutcome_still s l f (s.routing f))
      unfold State.accepted State.withBooks
      rw [hclock]
      rfl
    · rfl
  · refine ⟨_, exec_takeFileOpen_accepted h hstate haccept, ?_⟩
    rw [State.openOutcome_recorded hday hentry hrecord, State.slotOf_free hrecord hx hfree]
    rw [State.sequenced_expected]
    · exact ⟨rfl, rfl, rfl⟩
    · exact hseq
  · refine ⟨_, exec_takeFileOpen_accepted h hstate haccept, ?_⟩
    rw [State.openOutcome_eq_sequenced hday]
    exact ⟨rfl, rfl, rfl⟩
  · obtain ⟨d, hd⟩ := Option.ne_none_iff_exists'.mp hentry
    refine ⟨_, exec_takeFileOpen_accepted h hstate haccept, ?_⟩
    rw [State.openOutcome_recorded hday hd hrecord]
    exact ⟨rfl, rfl, rfl⟩
  · refine ⟨_, exec_takeFileOpen_accepted h hstate haccept, ?_⟩
    rw [State.openOutcome_unrecorded hday hr]
    obtain ⟨htracker, haudit, hnotices⟩ := (State.entered_tablesOf (l := l) hr).sequenced f
    obtain ⟨hsettled, hpolicy⟩ := State.openOutcome_settings s l f (s.routing f)
    rw [State.openOutcome_unrecorded hday hr] at hsettled hpolicy
    have hrecord : ∀ a b, ((s.entered l f).sequenced f).record? a b = _ := fun a b =>
      ((s.entered l f).record?_sequenced a b).trans (State.record?_entered hr a b)
    have hentry : ∀ b, ((s.entered l f).sequenced f).day? b = _ := fun b =>
      ((s.entered l f).day?_sequenced b).trans (State.day?_entered hr b)
    refine ⟨(hrecord _ _).trans (if_pos ⟨rfl, rfl⟩), fun a b hab => (hrecord a b).trans (if_neg ?_),
      (hentry _).trans (if_pos rfl), fun b hb => (hentry b).trans (if_neg hb),
      (congrArg Tracker.sources htracker :), hsettled, hpolicy, haudit, hnotices⟩
    rintro ⟨rfl, rfl⟩
    exact hab.elim (absurd rfl) (absurd rfl)

end Sys2Proof.Machine
end

section
/-! Placing a record: appends, seals that make room, and openings (R64 to R69). -/

namespace Sys2Proof.Machine

/-! ### Entries and buffers by id -/

theorem find?_insertEntry (e : SegEntry) (d : List SegEntry) (hnone : d.find? (fun y => decide (y.id = e.id)) = none)
    (j : Nat) : (insertEntry e d).find? (fun y => decide (y.id = j))
      = if j = e.id then some e else d.find? fun y => decide (y.id = j) := by
  induction d with
  | nil =>
    by_cases hj : j = e.id
    · simp [insertEntry, hj]
    · simp [insertEntry, hj, Ne.symm hj]
  | cons y t ih =>
    rw [List.find?_cons] at hnone
    split at hnone
    · cases hnone
    next hy =>
    have hy : y.id ≠ e.id := of_decide_eq_false hy
    unfold insertEntry
    split
    · rw [List.find?_cons]
      by_cases hj : j = e.id
      · rw [decide_eq_true (p := e.id = j) hj.symm, if_pos hj]
      · rw [decide_eq_false (p := e.id = j) (Ne.symm hj), if_neg hj]
    · rw [List.find?_cons, List.find?_cons, ih hnone]
      by_cases hj : j = e.id
      · rw [if_pos hj, if_pos hj, hj, decide_eq_false hy]
      · rw [if_neg hj, if_neg hj]

section
variable {s : State} {id : Nat}

theorem State.buffer?_onBuffer {g : Buffer → Buffer} (hg : ∀ b, (g b).segId = b.segId) (j : Nat) :
    (s.onBuffer id g).buffer? j = (s.buffer? j).map fun b => if b.segId = id then g b else b :=
  find?_map_of_keeps (p := fun b : Buffer => decide (b.segId = j)) (fun b => by split <;> simp [hg]) s.builder.buffers

theorem State.entry?_id {e : SegEntry} (h : s.entry? id = some e) : e.id = id := by
  simpa using List.find?_some h

theorem State.buffer?_id {b : Buffer} (h : s.buffer? id = some b) : b.segId = id := by
  simpa using List.find?_some h

end

/-! ### Appends -/

/-- A record appended to the segment `id`: its entry and its buffer, the rest in place (R65, R45). -/
structure State.Appended (s : State) (id : Nat) (e : SegEntry) (b : Buffer) (t : State) : Prop where
  entry : t.entry? id = some e
  buffer : t.buffer? id = some b
  others : ∀ j, j ≠ id → t.entry? j = s.entry? j ∧ t.buffer? j = s.buffer? j
  builder : t.builder = { s.builder with buffers := t.builder.buffers, placement := s.builder.placement + 1 }
  inUse : t.builder.buffers.length = s.builder.buffers.length
  rest : t = { s with builder := t.builder, dir := t.dir }

section
variable {s : State} {o : Offer} {id : Nat} {e : SegEntry} {b : Buffer} {coded : List Byte}

/-- The entry a record joins. -/
def SegEntry.withRecord (e : SegEntry) (o : Offer) (begins continued : Bool) (coded : List Byte) : SegEntry :=
  { e with
    payloadLen := e.payloadLen + (if begins then 16 else 0) + coded.length
    runs := placeRun o (readRecord o.octets) continued e.runs }

/-- The buffer a record joins. -/
def Buffer.withRecord (b : Buffer) (o : Offer) (runs : List RunRec) (coded : List Byte) (n : Nat) : Buffer :=
  { b with runs := placeBuf o (readRecord o.octets) coded runs b.runs, lastPlacement := n }

theorem State.appendRecord_appended (he : s.entry? id = some e) (hb : s.buffer? id = some b) :
    s.Appended id (e.withRecord o (codingOf o.lane e b).2 (o.turnedAway || s.hasEarlierRun o.lane o.cls id) coded)
      (b.withRecord o e.runs coded (s.builder.placement + 1)) (s.appendRecord o e b coded) := by
  obtain rfl : e.id = id := State.entry?_id he
  have hentry : ∀ j, (s.appendRecord o e b coded).entry? j = (s.entry? j).map fun x => if x.id = e.id then
      x.withRecord o (codingOf o.lane e b).2 (o.turnedAway || s.hasEarlierRun o.lane o.cls e.id) coded else x :=
    fun j => State.entry?_onEntry s e.id j
      (f := fun x => x.withRecord o (codingOf o.lane e b).2 (o.turnedAway || s.hasEarlierRun o.lane o.cls e.id) coded)
      fun _ => rfl
  have hbuffer : ∀ j, (s.appendRecord o e b coded).buffer? j = (s.buffer? j).map fun x => if x.segId = e.id then
      x.withRecord o e.runs coded (s.builder.placement + 1) else x :=
    fun j => State.buffer?_onBuffer (s := s) (id := e.id)
      (g := fun x => x.withRecord o e.runs coded (s.builder.placement + 1)) (fun _ => rfl) j
  refine ⟨?_, ?_, fun j hj => ⟨?_, ?_⟩, rfl, List.length_map .., rfl⟩
  · rw [hentry, he, Option.map_some, if_pos rfl]
  · rw [hbuffer, hb, Option.map_some, if_pos (State.buffer?_id hb)]
  · rw [hentry]
    refine (Option.map_congr fun x hx => if_neg ?_).trans Option.map_id'
    rwa [State.entry?_id hx]
  · rw [hbuffer]
    refine (Option.map_congr fun x hx => if_neg ?_).trans Option.map_id'
    rwa [State.buffer?_id hx]

/-- The record is coded with its run's context, and the run begins where the file has none. -/
theorem State.tryAppend_of (he : s.entry? id = some e) (hb : s.buffer? id = some b) : s.tryAppend o id
    = if fits e (codingOf o.lane e b).2 (codeRecord (codingOf o.lane e b).1 b.dict (readRecord o.octets)).length then
        .inl (s.appendRecord o e b (codeRecord (codingOf o.lane e b).1 b.dict (readRecord o.octets)))
      else .inr (if (codingOf o.lane e b).2 && Config.runCap ≤ e.runs.length then .runs else .full) := by
  unfold State.tryAppend
  rw [he, hb]

/-- A file with no run in the segment begins one, with the context reset. -/
theorem codingOf_begins {l : LaneNo} {e : SegEntry} {b : Buffer} (h : runIndex l e.runs = none) :
    codingOf l e b = (Ctx.reset, true) := by
  unfold codingOf
  rw [h]

theorem codingOf_joins {l : LaneNo} {e : SegEntry} {b : Buffer} {i : Nat} (h : runIndex l e.runs = some i) :
    codingOf l e b = (((b.runs[i]?).bind BufRun.ctx).getD Ctx.reset, false) := by
  unfold codingOf
  rw [h]

theorem fits_iff (e : SegEntry) (begins : Bool) (n : Nat) : fits e begins n = true
    ↔ ¬ (begins = true ∧ 32 ≤ e.runs.length) ∧ e.payloadLen + (if begins then 16 else 0) + n ≤ 1048064 := by
  cases begins <;> simp [fits, Config.runCap, Config.payloadCap]

end

/-! ### Openings -/

theorem State.flowTested_port {s t : State} (hport : t.port = s.port) (hengine : t.engine = s.engine)
    (hbuffers : t.builder.buffers.length = s.builder.buffers.length) : t.flowTested.port = s.flowTested.port := by
  unfold State.flowTested
  rw [hport, hengine, hbuffers]
  dsimp only
  split
  all_goals
    split
    · rfl
    · exact hport

/-- What an opening leaves of the segment builder (R67). -/
structure State.Opened (s : State) (o : Offer) (id : Nat) (continued : Bool) (t : State) : Prop where
  entry : t.entry? id = some ((SegEntry.new id o.cls o.file.day (vget s.tables.classes o.cls).group.val
    (vget s.tables.dict (vget s.tables.classes o.cls).group).generation).withRecord o true continued
      (codeRecord Ctx.reset (vget s.tables.dict (vget s.tables.classes o.cls).group).prefixes (readRecord o.octets)))
  buffer : t.buffer? id = some
    { segId := id, dict := (vget s.tables.dict (vget s.tables.classes o.cls).group).prefixes
      lastPlacement := s.builder.placement + 1
      runs := [{
        coded := codeRecord Ctx.reset (vget s.tables.dict (vget s.tables.classes o.cls).group).prefixes (readRecord o.octets)
        ctx := some (Ctx.after (readRecord o.octets)), reg := some (crcTake 0xFFFFFFFF#32 o.octets) }] }
  others : ∀ j, j ≠ id → t.entry? j = s.entry? j ∧ t.buffer? j = s.buffer? j
  builder : t.builder = { s.builder with
    buffers := t.builder.buffers
    openIndex := s.builder.openIndex ++ [{ cls := o.cls, day := o.file.day, segId := id }]
    nextId := if 4294967295 ≤ id then none else some (id + 1)
    opened := s.builder.opened + 1, placement := s.builder.placement + 1 }
  port : t.port = ({ s with builder := t.builder } : State).flowTested.port
  rest : t = { s with port := t.port, builder := t.builder, dir := t.dir }

section
variable {s : State} {o : Offer} {id : Nat}

theorem State.openSegment_entry? (hnone : s.entry? id = none) (cls : ClassNo) (day j : Nat) :
    (s.openSegment cls day id).entry? j = if j = id then
        some (SegEntry.new id cls day (vget s.tables.classes cls).group.val
          (vget s.tables.dict (vget s.tables.classes cls).group).generation)
      else s.entry? j := by
  unfold State.openSegment
  rw [State.checkFlow_eq, State.flowTested_rest]
  exact find?_insertEntry (SegEntry.new id cls day _ _) s.dir hnone j

theorem State.openSegment_buffer? (hnone : s.buffer? id = none) (cls : ClassNo) (day j : Nat) :
    (s.openSegment cls day id).buffer? j = if j = id then
        some { segId := id, dict := (vget s.tables.dict (vget s.tables.classes cls).group).prefixes, runs := []
               lastPlacement := s.builder.placement }
      else s.buffer? j := by
  unfold State.openSegment
  rw [State.checkFlow_eq, State.flowTested_rest]
  refine List.find?_append.trans ?_
  by_cases hj : j = id
  · rw [if_pos hj, hj]
    show (s.buffer? id).or _ = _
    rw [hnone]
    simp
  · rw [if_neg hj]
    simp [Ne.symm hj, State.buffer?]

theorem State.openSegment_eq (cls : ClassNo) (day : Nat) : ∃ u : State, s.openSegment cls day id = u.flowTested
    ∧ u.builder = { s.builder with
        buffers := u.builder.buffers
        openIndex := s.builder.openIndex ++ [{ cls := cls, day := day, segId := id }]
        nextId := if 4294967295 ≤ id then none else some (id + 1)
        opened := s.builder.opened + 1 }
    ∧ u.builder.buffers.length = s.builder.buffers.length + 1 ∧ u = { s with builder := u.builder, dir := u.dir } := by
  unfold State.openSegment
  rw [State.checkFlow_eq]
  exact ⟨_, rfl, rfl, List.length_append, rfl⟩

/-- A segment opened takes its first record. -/
theorem State.openSegment_opened (hnext : s.entry? id = none) (hbuf : s.buffer? id = none)
    (hfits : 16 + (codeRecord Ctx.reset (vget s.tables.dict (vget s.tables.classes o.cls).group).prefixes
      (readRecord o.octets)).length ≤ 1048064) :
    ∃ t, (s.openSegment o.cls o.file.day id).tryAppend o id = .inl t
      ∧ s.Opened o id (o.turnedAway || s.hasEarlierRun o.lane o.cls id) t := by
  have hentry := State.openSegment_entry? hnext o.cls o.file.day
  have hbuffer := State.openSegment_buffer? hbuf o.cls o.file.day
  have he := (hentry id).trans (if_pos rfl)
  have hb := (hbuffer id).trans (if_pos rfl)
  have hearlier : (s.openSegment o.cls o.file.day id).hasEarlierRun o.lane o.cls id = s.hasEarlierRun o.lane o.cls id := by
    unfold State.openSegment
    rw [State.checkFlow_eq, State.flowTested_rest]
    unfold State.hasEarlierRun
    refine Bool.eq_iff_iff.mpr ?_
    simp only [List.any_eq_true]
    constructor
    · rintro ⟨x, hx, hearlier⟩
      rcases (mem_insertEntry _ x s.dir).mp hx with rfl | hx
      · simp [SegEntry.new] at hearlier
      · exact ⟨x, hx, hearlier⟩
    · rintro ⟨x, hx, hearlier⟩
      exact ⟨x, (mem_insertEntry _ x s.dir).mpr (.inr hx), hearlier⟩
  obtain ⟨u, hu, hbuilder, hlength, hrest⟩ := State.openSegment_eq (s := s) (id := id) o.cls o.file.day
  have hcoding := codingOf_begins (l := o.lane) (e := SegEntry.new id o.cls o.file.day (vget s.tables.classes o.cls).group.val
    (vget s.tables.dict (vget s.tables.classes o.cls).group).generation)
    (b := { segId := id, dict := (vget s.tables.dict (vget s.tables.classes o.cls).group).prefixes, runs := []
            lastPlacement := s.builder.placement }) rfl
  rw [State.tryAppend_of he hb, hcoding,
    if_pos ((fits_iff _ _ _).mpr ⟨by simp [SegEntry.new], by simpa [SegEntry.new] using hfits⟩)]
  refine ⟨_, rfl, ?_⟩
  have happended := State.appendRecord_appended (o := o) (coded := codeRecord Ctx.reset
    (vget s.tables.dict (vget s.tables.classes o.cls).group).prefixes (readRecord o.octets)) he hb
  rw [hearlier, hcoding] at happended
  obtain ⟨hentry', hbuffer', hothers, hbuilder', hinUse, hrest'⟩ := happended
  have hmade : (s.openSegment o.cls o.file.day id).builder = u.builder := by rw [hu, State.flowTested_rest]
  have hport : (s.openSegment o.cls o.file.day id).port = u.flowTested.port := by rw [hu]
  have hplacement : (s.openSegment o.cls o.file.day id).builder.placement = s.builder.placement := by
    rw [hmade, hbuilder]
  have hopen : s.openSegment o.cls o.file.day id
      = { s with port := u.flowTested.port, builder := u.builder, dir := u.dir } := by
    rw [hu, State.flowTested_rest]
    exact congrArg (fun x : State => { x with port := u.flowTested.port }) hrest
  generalize (s.openSegment o.cls o.file.day id).appendRecord o _ _ _ = t
    at hentry' hbuffer' hothers hbuilder' hinUse hrest' ⊢
  have hkept : t.port = u.flowTested.port := by
    rw [hrest']
    exact hport
  refine ⟨hentry', ?_, fun j hj => ?_, ?_, ?_, ?_⟩
  · rw [hbuffer', hplacement]
    rfl
  · rw [(hothers j hj).1, (hothers j hj).2, hentry, hbuffer, if_neg hj, if_neg hj]
    exact ⟨rfl, rfl⟩
  · rw [hbuilder', hmade, hbuilder]
  · rw [hkept]
    refine State.flowTested_port ?_ ?_ ?_
    · rw [hrest]
    · rw [hrest]
    · rw [← hmade]
      exact hinUse.symm
  · rw [hkept, hrest', hopen]

end

/-! ### Room for an opening -/

section
variable {s : State} {o : Offer} {id i : Nat} {reason : SealReason}

theorem State.entry?_sealSegment_none (h : s.entry? id = none) : (s.sealSegment reason i).entry? id = none := by
  by_cases hi : id = i
  · rw [(s.sealSegment_sealedTo reason i :)]
    show (s.dir.map _).find? _ = none
    rw [find?_map_of_keeps (p := fun e : SegEntry => decide (e.id = id)) (fun e => by split <;> rfl),
      show s.dir.find? _ = none from h, Option.map_none]
  · rw [State.entry?_sealSegment hi, h]

theorem State.buffer?_sealSegment_none (h : s.buffer? id = none) : (s.sealSegment reason i).buffer? id = none := by
  by_cases hi : id = i
  · rw [(s.sealSegment_sealedTo reason i :)]
    show (s.builder.buffers.map _).find? _ = none
    rw [find?_map_of_keeps (p := fun b : Buffer => decide (b.segId = id)) (fun b => by split <;> rfl),
      show s.builder.buffers.find? _ = none from h, Option.map_none]
  · rw [State.buffer?_sealSegment hi, h]

theorem State.length_sealSegment : (s.sealSegment reason i).dir.length = s.dir.length
    ∧ (s.sealSegment reason i).builder.buffers.length = s.builder.buffers.length :=
  ⟨List.length_map .., List.length_map ..⟩

/-- A seal takes no room. -/
theorem State.canOpen.sealed {cls : ClassNo} {record : List Byte} (h : s.canOpen cls record id) :
    (s.sealSegment reason i).canOpen cls record id := by
  obtain ⟨hnext, hentry, hbuffer, hbuffers, hdir, hfits⟩ := h
  exact ⟨hnext, State.entry?_sealSegment_none hentry, State.buffer?_sealSegment_none hbuffer,
    State.length_sealSegment.2.trans_lt hbuffers, State.length_sealSegment.1.trans_lt hdir, hfits⟩

theorem SegEntry.carries_sealedBy (e : SegEntry) (bits : List BufRun) (reason : SealReason) :
    e.Carries (e.sealedBy bits reason) := by
  rw [← SegEntry.seal_eq]
  exact e.carries_seal bits reason

theorem SegEntry.hasLane_of_carries {e e' : SegEntry} (h : e.Carries e') (l : LaneNo) : e'.hasLane l = e.hasLane l := by
  have hfacts : ∀ x : SegEntry, x.hasLane l = (x.runs.map RunRec.facts).any fun y => y.2.2.2.2 = some l := fun x => by
    rw [List.any_map]
    rfl
  rw [hfacts, hfacts, h.2.1]

/-- A seal moves no run. -/
theorem State.hasEarlierRun_sealSegment (l : LaneNo) (cls : ClassNo) :
    (s.sealSegment reason i).hasEarlierRun l cls id = s.hasEarlierRun l cls id := by
  rw [(s.sealSegment_sealedTo reason i :)]
  unfold State.hasEarlierRun
  rw [List.any_map]
  refine congrArg s.dir.any (funext fun e => ?_)
  dsimp only [Function.comp]
  split
  · rw [SegEntry.hasLane_of_carries (SegEntry.carries_sealedBy e _ reason)]
    rfl
  · rfl

/-- A sealed entry is not OPEN. -/
theorem SegEntry.sealedBy_ne_opened (e : SegEntry) (bits : List BufRun) (reason : SealReason) :
    (e.sealedBy bits reason).state ≠ .opened := by
  dsimp only [SegEntry.sealedBy]
  split <;> exact nofun

/-- The seal of an OPEN segment leaves fewer OPEN. -/
theorem State.countState_sealSegment {e : SegEntry} (he : e ∈ s.dir) (hid : e.id = i) (hopen : e.state = .opened) :
    (s.sealSegment reason i).countState .opened < s.countState .opened := by
  rw [(s.sealSegment_sealedTo reason i :)]
  unfold State.countState
  rw [List.countP_map]
  have hkept : ∀ x : SegEntry, ((if x.id = i then x.sealedBy (((s.buffer? i).map Buffer.runs).getD []) reason else x).state
      = .opened) → x.state = .opened ∧ x.id ≠ i := fun x hx => by
    split at hx
    · exact absurd hx (SegEntry.sealedBy_ne_opened _ _ _)
    next hne => exact ⟨hx, hne⟩
  have hfewer : s.dir.countP (fun x => decide (x.state = .opened) && decide (x.id ≠ i))
      < s.dir.countP fun x => decide (x.state = .opened) := by
    have hsplit := List.countP_eq_countP_filter_add s.dir (fun x => decide (x.state = .opened)) fun x => decide (x.id ≠ i)
    have hsealed : 0 < (s.dir.filter fun x => !decide (x.id ≠ i)).countP fun x => decide (x.state = .opened) :=
      List.countP_pos_iff.mpr ⟨e, List.mem_filter.mpr ⟨he, by simp [hid]⟩, by simp [hopen]⟩
    rw [← List.countP_filter]
    omega
  refine lt_of_le_of_lt (List.countP_mono_left fun x _ hx => ?_) hfewer
  simpa using hkept x (of_decide_eq_true hx)

/-- The smallest last placement of a list of buffers, found from its left (R68). -/
def leastPlaced (m : Option Buffer) (b : Buffer) : Option Buffer :=
  match m with
  | none => some b
  | some x => if b.lastPlacement < x.lastPlacement then some b else some x

theorem foldl_leastPlaced (bs : List Buffer) (x : Buffer) : ∃ m, bs.foldl leastPlaced (some x) = some m
    ∧ (m = x ∨ m ∈ bs) ∧ m.lastPlacement ≤ x.lastPlacement ∧ ∀ b ∈ bs, m.lastPlacement ≤ b.lastPlacement := by
  induction bs generalizing x with
  | nil => exact ⟨x, rfl, .inl rfl, le_rfl, nofun⟩
  | cons b bs ih =>
    rw [List.foldl_cons, leastPlaced]
    by_cases hless : b.lastPlacement < x.lastPlacement
    · rw [if_pos hless]
      obtain ⟨m, hm, hmem, hle, hall⟩ := ih b
      exact ⟨m, hm, .inr (List.mem_cons.mpr hmem), hle.trans hless.le, List.forall_mem_cons.mpr ⟨hle, hall⟩⟩
    · rw [if_neg hless]
      obtain ⟨m, hm, hmem, hle, hall⟩ := ih x
      exact ⟨m, hm, hmem.imp_right (List.mem_cons_of_mem b), hle,
        List.forall_mem_cons.mpr ⟨hle.trans (Nat.not_lt.mp hless), hall⟩⟩

/-- R68: the least recently placed of the OPEN segments is the one that gives way. -/
theorem State.crowdedChoice_eq {old : Buffer} {e : SegEntry} (hold : old ∈ s.builder.buffers) (he : e ∈ s.dir)
    (hid : e.id = old.segId) (hopen : e.state = .opened)
    (hleast : ∀ b ∈ s.builder.buffers, (∃ y ∈ s.dir, y.id = b.segId ∧ y.state = .opened) →
      b.segId = old.segId ∨ old.lastPlacement < b.lastPlacement) : s.crowdedChoice = some old.segId := by
  have hmem : ∀ b : Buffer, b ∈ s.builder.buffers.filter (fun b => (s.openSegments fun _ => true).contains b.segId)
      ↔ b ∈ s.builder.buffers ∧ ∃ y ∈ s.dir, y.id = b.segId ∧ y.state = .opened := fun b => by
    simp [State.openSegments, and_assoc, and_comm]
  have hchoice : s.crowdedChoice = ((s.builder.buffers.filter fun b =>
      (s.openSegments fun _ => true).contains b.segId).foldl leastPlaced none).map Buffer.segId := rfl
  rw [hchoice]
  have holdOpen := (hmem old).mpr ⟨hold, e, he, hid, hopen⟩
  generalize s.builder.buffers.filter (fun b => (s.openSegments fun _ => true).contains b.segId) = opens at hmem holdOpen ⊢
  cases opens with
  | nil => exact nomatch holdOpen
  | cons b bs =>
    obtain ⟨m, hm, hmBs, hle, hall⟩ := foldl_leastPlaced bs b
    rw [List.foldl_cons, show leastPlaced none b = some b from rfl, hm, Option.map_some]
    obtain ⟨hmBuf, hmOpen⟩ := (hmem m).mp (List.mem_cons.mpr hmBs)
    have hmin : m.lastPlacement ≤ old.lastPlacement :=
      List.forall_mem_cons (p := fun x : Buffer => m.lastPlacement ≤ x.lastPlacement) |>.mpr ⟨hle, hall⟩ old holdOpen
    exact congrArg some ((hleast m hmBuf hmOpen).resolve_right (Nat.not_lt.mpr hmin))

theorem State.crowdedSeal_few (h : s.countState .opened < 24) : s.crowdedSeal = s :=
  if_neg (Nat.not_le.mpr h)

theorem State.crowdedSeal_many (h : 24 ≤ s.countState .opened) (hchoice : s.crowdedChoice = some i) :
    s.crowdedSeal = s.sealSegment .crowded i := by
  unfold State.crowdedSeal
  rw [if_pos h, hchoice]

theorem State.openFor_ids (h : s.builder.nextId = none) : s.openFor o = .stalled s .ids o.turnedAway := by
  unfold State.openFor
  rw [h]

theorem State.openFor_directory (h : s.builder.nextId ≠ none) (hdir : 4194304 ≤ s.dir.length) :
    s.openFor o = .stalled s .directory o.turnedAway := by
  obtain ⟨id, hid⟩ := Option.ne_none_iff_exists'.mp h
  unfold State.openFor
  rw [hid]
  exact if_pos hdir

theorem State.openFor_buffer (h : s.builder.nextId ≠ none) (hdir : s.dir.length < 4194304)
    (hbuffers : 32 ≤ s.crowdedSeal.builder.buffers.length) :
    s.openFor o = .stalled s.crowdedSeal .buffer o.turnedAway := by
  obtain ⟨id, hid⟩ := Option.ne_none_iff_exists'.mp h
  unfold State.openFor
  rw [hid]
  exact (if_neg (Nat.not_le.mpr hdir)).trans (if_pos hbuffers)

/-- R67: with room a segment opens, behind the CROWDED seal where one is due. -/
theorem State.openFor_placed {u : State} (hseal : s.crowdedSeal = u) (hcan : s.canOpen o.cls o.octets id)
    (hsealed : u.canOpen o.cls o.octets id) :
    ∃ t, s.openFor o = .placed t ∧ u.Opened o id (o.turnedAway || u.hasEarlierRun o.lane o.cls id) t := by
  obtain ⟨hnext, -, -, -, hdir, -⟩ := hcan
  obtain ⟨-, hentry, hbuffer, hbuffers, -, hfits⟩ := hsealed
  obtain ⟨t, happend, hopened⟩ := State.openSegment_opened (o := o) hentry hbuffer hfits
  refine ⟨t, ?_, hopened⟩
  unfold State.openFor
  rw [hnext]
  dsimp only
  rw [if_neg (Nat.not_le.mpr hdir), hseal]
  exact (if_neg (Nat.not_le.mpr hbuffers)).trans (by rw [happend])

end

end Sys2Proof.Machine
end

section
/-! The records of a frame, one at a time (R13, R20, R64). -/

namespace Sys2Proof.Machine

/-! ### Placements by their cases -/

section
variable {s t : State} {o : Offer} {x : IndexEntry} {reason : SealReason} {i : Nat}

theorem State.place_fresh (h : s.builder.openIndex.find? (fun y => y.cls = o.cls ∧ y.day = o.file.day) = none) :
    s.place o = s.openFor o := by
  unfold State.place
  rw [h]

theorem State.place_appends (h : s.builder.openIndex.find? (fun y => y.cls = o.cls ∧ y.day = o.file.day) = some x)
    (happend : s.tryAppend o x.segId = .inl t) : s.place o = .placed t := by
  unfold State.place
  rw [h]
  dsimp only
  rw [happend]

theorem State.place_seals (h : s.builder.openIndex.find? (fun y => y.cls = o.cls ∧ y.day = o.file.day) = some x)
    (hseal : s.tryAppend o x.segId = .inr reason) :
    s.place o = (s.sealSegment reason x.segId).openFor { o with turnedAway := true } := by
  unfold State.place
  rw [h]
  dsimp only
  rw [hseal]

variable {e : SegEntry} {b : Buffer} {coded : List Byte} {continued : Bool}

theorem SegEntry.withRecord_joins {begins : Bool} (h : runIndex o.lane e.runs = some i) (hbegins : begins = false) :
    e.withRecord o begins continued coded = { e with
      payloadLen := e.payloadLen + coded.length
      runs := e.runs.modify i fun y => { y with count := y.count + 1 } } := by
  unfold SegEntry.withRecord placeRun
  rw [h, hbegins]
  rfl

theorem SegEntry.withRecord_begins {begins : Bool} (h : runIndex o.lane e.runs = none) (hbegins : begins = true) :
    e.withRecord o begins continued coded = { e with
      payloadLen := e.payloadLen + 16 + coded.length
      runs := e.runs ++ [{ source := o.file.source, slot := o.file.slot, status := .provisional, continued := continued
                           count := 1, digest := none, firstSeq := (readRecord o.octets).seq, lane := some o.lane }] } := by
  unfold SegEntry.withRecord placeRun
  rw [h, hbegins]
  rfl

theorem Buffer.withRecord_joins {runs : List RunRec} {n : Nat} (h : runIndex o.lane runs = some i) :
    b.withRecord o runs coded n = { b with
      lastPlacement := n
      runs := b.runs.modify i fun y =>
        { coded := y.coded ++ coded, ctx := some (Ctx.after (readRecord o.octets))
          reg := y.reg.map fun g => crcTake g o.octets } } := by
  unfold Buffer.withRecord placeBuf
  rw [h]

theorem Buffer.withRecord_begins {runs : List RunRec} {n : Nat} (h : runIndex o.lane runs = none) :
    b.withRecord o runs coded n = { b with
      lastPlacement := n
      runs := b.runs ++ [{ coded := coded, ctx := some (Ctx.after (readRecord o.octets))
                           reg := some (crcTake 0xFFFFFFFF#32 o.octets) }] } := by
  unfold Buffer.withRecord placeBuf
  rw [h]
  rfl

end

/-! ### The end of a frame -/

/-- The last record of a frame has been placed: the lane counts it, and the assembler holds no frame. -/
def State.frameDone (s : State) (l : LaneNo) : State :=
  ((s.countAppended l).onAsm fun a => { a with hand := none }).startTimer l

/-- The assembler holds a frame from a record on (R20). -/
def State.holding (s : State) (h : Hand) : State := s.onAsm fun a => { a with hand := some h }

theorem State.withLane_self (s : State) (l : LaneNo) : s.withLane l (s.lane l) = s := by
  have hlanes : vset s.asm.lanes l (s.lane l) = s.asm.lanes := Vector.set_getElem_self _
  unfold State.withLane
  rw [hlanes]

/-- A lane's timer as its frame is finished. -/
def State.timerLeft (s : State) (l : LaneNo) : Option Nat :=
  if s.port.fifo.all (fun f => f.lane ≠ l) && (s.lane l).overrun.isNone then s.timerAfter l else (s.lane l).timer

/-- The timer starts when no frame of the lane waits (R18). -/
theorem State.startTimer_eq {s : State} {l : LaneNo} (hfile : (s.lane l).hasFile = true) : s.startTimer l
    = s.withLane l { s.lane l with timer := s.timerLeft l } := by
  have hcond : ((s.lane l).hasFile = true ∧ ¬ s.port.hasLane l ∧ (s.lane l).overrun = none)
      ↔ (s.port.fifo.all (fun f => f.lane ≠ l) && (s.lane l).overrun.isNone) = true := by
    simp [Port.hasLane, hfile]
  unfold State.startTimer State.timerLeft State.timerAfter
  by_cases hdue : (s.port.fifo.all (fun f => f.lane ≠ l) && (s.lane l).overrun.isNone) = true
  · rw [if_pos (hcond.mpr hdue), if_pos hdue, if_pos hdue, State.onLane_eq]
    rfl
  · rw [if_neg fun h => hdue (hcond.mp h), if_neg hdue]
    exact (s.withLane_self l).symm

/-- Its start changes the lane alone, and its timer. -/
theorem State.startTimer_lane (s : State) (l : LaneNo) :
    ∃ timer, s.startTimer l = s.withLane l { s.lane l with timer := timer } := by
  unfold State.startTimer
  split
  · exact ⟨_, rfl⟩
  · exact ⟨(s.lane l).timer, (s.withLane_self l).symm⟩

/-- What the end of a frame leaves of the lane and the assembler. -/
theorem State.frameDone_eq (s : State) (l : LaneNo) : ∃ timer, s.frameDone l = { s with asm := { s.asm with
    hand := none
    lanes := vset s.asm.lanes l { s.lane l with appended := min ((s.lane l).appended + 1) 4294967295, timer := timer } } } := by
  obtain ⟨timer, htimer⟩ := ((s.countAppended l).onAsm fun a => { a with hand := none }).startTimer_lane l
  refine ⟨timer, htimer.trans ?_⟩
  have hlane : ((s.countAppended l).onAsm fun a => { a with hand := none }).lane l
      = { s.lane l with appended := min ((s.lane l).appended + 1) 4294967295 } :=
    State.lane_onLane_same s l fun x => { x with appended := satAdd Config.max32 x.appended 1 }
  unfold State.withLane
  rw [hlane]
  have hlanes : ((s.countAppended l).onAsm fun a => { a with hand := none }).asm.lanes
      = vset s.asm.lanes l { s.lane l with appended := min ((s.lane l).appended + 1) 4294967295 } := rfl
  rw [hlanes, vset_vset_same]
  rfl

theorem State.frameDone_asm (s : State) (l : LaneNo) : ∃ a : Assembler, s.frameDone l = { s with asm := a }
    ∧ a = { s.asm with hand := none, lanes := a.lanes }
    ∧ (vget a.lanes l).appended = min ((s.lane l).appended + 1) 4294967295
    ∧ (vget a.lanes l).rejected = (s.lane l).rejected ∧ (vget a.lanes l).digest = (s.lane l).digest := by
  obtain ⟨timer, hdone⟩ := s.frameDone_eq l
  refine ⟨_, hdone, rfl, ?_⟩
  dsimp only
  rw [vget_vset_same]
  exact ⟨rfl, rfl, rfl⟩

/-! ### One record of a frame -/

/-- What the assembler makes of a placement: it goes on, or holds the frame (R20). -/
def Placement.assembled (p : Placement) (h : Hand) (done : State → State) : State :=
  match p with
  | .placed v => done v
  | .stalled v cause away => v.holding { h with cause := cause, turnedAway := away }

/-- The digest of a file takes a record (R13). -/
def State.digested (s : State) (l : LaneNo) (r : List Byte) : State :=
  s.withLane l { s.lane l with digest := crcTake (s.lane l).digest r }

/-- The offer of a valid record taken from its frame (R4). -/
def State.recordOffer (s : State) (l : LaneNo) (r : List Byte) : Offer := s.offerOf l (s.classify l r) r false

theorem State.takeRecords_valid {s : State} {l : LaneNo} {r : List Byte} {rs : List (List Byte)} (h : validate r = none) :
    State.takeRecords l (r :: rs) s = ((s.digested l r).place ((s.digested l r).recordOffer l r)).assembled
      { lane := l, record := r, cls := (s.digested l r).classify l r, turnedAway := false, rest := rs, cause := .between }
      fun v => State.goOn l rs (State.takeRecords l rs) (v.countAppended l) := by
  unfold State.takeRecords
  rw [h]
  unfold Placement.assembled
  rfl

theorem State.takeRecords_rejected {s : State} {l : LaneNo} {r : List Byte} {rs : List (List Byte)} {c : Rejection}
    (h : validate r = some c) : State.takeRecords l (r :: rs) s
      = State.goOn l rs (State.takeRecords l rs) ((s.digested l r).rejectRecord l c) := by
  conv_lhs => unfold State.takeRecords
  rw [h]
  rfl

theorem exec_stallEnd_over {s : State} {h : Hand} (hhand : s.asm.hand = some h) (hover : s.stallOver h.cause = true) :
    exec .stallEnd s = .next ((s.place (s.offerOf h.lane h.cls h.record h.turnedAway)).assembled h
      fun v => State.goOn h.lane h.rest (State.takeRecords h.lane h.rest) (v.countAppended h.lane)) := by
  refine congrArg Host.Outcome.next ?_
  unfold stallEnd
  rw [hhand]
  dsimp only
  rw [if_pos hover]
  rfl

/-! ### A frame of one record -/

section
variable {s : State} {l : LaneNo} {r : List Byte} {arrival : Option Time} {rest : List FileFrame} {f : FileInfo}
  {cls : ClassNo}

/-- The state with a frame's first record taken into the digest (R13). -/
def State.taken (s : State) (l : LaneNo) (r : List Byte) (rest : List FileFrame) : State :=
  (s.popped rest).withLane l { (s.popped rest).lane l with digest := crcTake (s.lane l).digest r }

theorem pieces_one (r : List Byte) (hlen : r.length = 49) : recordsOfPayload r = [r] := by
  unfold recordsOfPayload Config.recordOctets
  rw [hlen, show 49 / 49 = 1 from rfl, pieces, pieces, List.take_of_length_le hlen.le]

/-- The records of a well-formed frame are taken. -/
theorem exec_takeFileData_open {payload : List Byte} (h : s.TakesFrame l (.data payload) arrival rest)
    (hstate : (s.lane l).state = .receiving ∨ (s.lane l).state = .suspect) (hwell : dataMalformed payload = false) :
    exec .takeFileData s = .next (State.takeRecords l (recordsOfPayload payload) (s.popped rest)) := by
  rw [exec_takeFileData_of_takes h]
  unfold State.dataFrame
  rw [State.lane_popped_state, hwell]
  rcases hstate with hstate | hstate <;> rw [hstate] <;> rfl

/-- The one record of a frame is placed. -/
theorem exec_takeFileData_valid (h : s.TakesFrame l (.data r) arrival rest)
    (hstate : (s.lane l).state = .receiving ∨ (s.lane l).state = .suspect) (hf : (s.lane l).file = some f)
    (hlen : r.length = 49) (hvalid : validate r = none) (hcls : s.classOf l (octetAt r 0) = cls) :
    exec .takeFileData s = .next (((s.taken l r rest).place
      { lane := l, cls := cls, octets := r, file := f, turnedAway := false }).assembled
        { lane := l, record := r, cls := cls, turnedAway := false, rest := [], cause := .between }
        fun v => v.frameDone l) := by
  have hwell : dataMalformed r = false := by
    unfold dataMalformed Config.recordOctets
    rw [hlen]
    rfl
  have htaken : (s.popped rest).digested l r = s.taken l r rest := by
    unfold State.taken
    rw [← State.lane_popped_digest s rest]
    rfl
  have hlane : (s.taken l r rest).lane l = { (s.popped rest).lane l with digest := crcTake (s.lane l).digest r } :=
    vget_vset_same _ _ _
  have hclass : (s.taken l r rest).classify l r = cls := by
    rw [← hcls]
    unfold State.classify State.classOf
    rw [hlane, State.lane_popped_state]
    rfl
  have hoffer : (s.taken l r rest).recordOffer l r = { lane := l, cls := cls, octets := r, file := f, turnedAway := false } := by
    unfold State.recordOffer State.offerOf
    rw [hclass, hlane, State.lane_popped_file, hf]
    rfl
  rw [exec_takeFileData_open h hstate hwell, pieces_one r hlen, State.takeRecords_valid hvalid, htaken, hoffer, hclass]
  rfl

end

/-- The one record of a stalled frame is placed afresh. -/
theorem exec_stallEnd_last {s : State} {h : Hand} {f : FileInfo} (hhand : s.asm.hand = some h) (hrest : h.rest = [])
    (hover : s.stallOver h.cause = true) (hf : (s.lane h.lane).file = some f) :
    exec .stallEnd s = .next ((s.place
      { lane := h.lane, cls := h.cls, octets := h.record, file := f, turnedAway := h.turnedAway }).assembled h
        fun v => v.frameDone h.lane) := by
  have hoffer : s.offerOf h.lane h.cls h.record h.turnedAway
      = { lane := h.lane, cls := h.cls, octets := h.record, file := f, turnedAway := h.turnedAway } := by
    unfold State.offerOf
    rw [hf]
    rfl
  rw [exec_stallEnd_over hhand hover, hoffer, hrest]
  rfl

/-! ### Openings by a frame of one record -/

theorem State.Opened.openedFor {s v : State} {o : Offer} {id : Nat} {continued : Bool} (h : s.Opened o id continued v) :
    s.OpenedFor o.lane o.cls o.file o.octets id continued (v.frameDone o.lane) := by
  obtain ⟨hentry, hbuffer, hothers, hbuilder, hport, hrest⟩ := h
  obtain ⟨a, hdone, ha, happended, -⟩ := v.frameDone_asm o.lane
  have hasm : v.asm = s.asm := by rw [hrest]
  have hlane : v.lane o.lane = s.lane o.lane := by
    unfold State.lane
    rw [hasm]
  have hhand : a.hand = none := by rw [ha]
  rw [hdone]
  refine ⟨hentry.trans ?_, hbuffer, hothers, hbuilder, hhand, happended.trans (by rw [hlane]), hport,
    congrArg (fun x : State => { x with asm := a }) hrest⟩
  rw [SegEntry.withRecord_begins rfl rfl]
  simp [SegEntry.new]

section
variable {s v : State} {l : LaneNo} {r : List Byte} {arrival : Option Time} {rest : List FileFrame} {f : FileInfo}
  {cls : ClassNo} {id : Nat} {e : SegEntry} {b : Buffer}

theorem State.lane_taken (s : State) (l : LaneNo) (r : List Byte) (rest : List FileFrame) :
    (s.taken l r rest).lane l = { (s.popped rest).lane l with digest := crcTake (s.lane l).digest r } :=
  vget_vset_same _ _ _

/-- What the end of the frame leaves behind an append. -/
theorem State.Appended.frameDone (h : (s.taken l r rest).Appended id e b v) (hhand : s.asm.hand = none) :
    (v.frameDone l).entry? id = some e ∧ (v.frameDone l).buffer? id = some b
    ∧ (∀ j, j ≠ id → (v.frameDone l).entry? j = s.entry? j ∧ (v.frameDone l).buffer? j = s.buffer? j)
    ∧ (v.frameDone l).builder = { s.builder with
        buffers := (v.frameDone l).builder.buffers, placement := s.builder.placement + 1 }
    ∧ ((v.frameDone l).lane l).appended = min ((s.lane l).appended + 1) 4294967295
    ∧ ((v.frameDone l).lane l).rejected = (s.lane l).rejected
    ∧ ((v.frameDone l).lane l).digest = crcTake (s.lane l).digest r
    ∧ v.frameDone l = { s.popped rest with
        asm := (v.frameDone l).asm, builder := (v.frameDone l).builder, dir := (v.frameDone l).dir }
    ∧ (v.frameDone l).asm = { s.asm with lanes := (v.frameDone l).asm.lanes } := by
  obtain ⟨hentry, hbuffer, hothers, hbuilder, -, hrest⟩ := h
  obtain ⟨a, hdone, ha, happended, hrejected, hdigest⟩ := v.frameDone_asm l
  have hasm : v.asm = (s.taken l r rest).asm := by rw [hrest]
  have hlane : v.lane l = { (s.popped rest).lane l with digest := crcTake (s.lane l).digest r } := by
    rw [← s.lane_taken l r rest]
    unfold State.lane
    rw [hasm]
  rw [hlane] at happended hrejected hdigest
  rw [hdone]
  refine ⟨hentry, hbuffer, hothers, hbuilder, ?_, ?_, hdigest, congrArg (fun x : State => { x with asm := a }) hrest, ?_⟩
  · rw [← State.lane_popped_appended s rest]
    exact happended
  · rw [← State.lane_popped_rejected s rest]
    exact hrejected
  · refine ha.trans ?_
    rw [hasm, ← hhand]
    rfl

/-- A record that fits joins the class's segment for the day. -/
theorem exec_takeFileData_appends {x : IndexEntry} (h : s.TakesFrame l (.data r) arrival rest)
    (hstate : (s.lane l).state = .receiving ∨ (s.lane l).state = .suspect) (hf : (s.lane l).file = some f)
    (hlen : r.length = 49) (hvalid : validate r = none) (hcls : s.classOf l (octetAt r 0) = cls)
    (hx : s.builder.openIndex.find? (fun y => y.cls = cls ∧ y.day = f.day) = some x)
    (he : s.entry? x.segId = some e) (hb : s.buffer? x.segId = some b) {ctx : Ctx} {begins : Bool}
    (hcoding : codingOf l e b = (ctx, begins))
    (hfits : fits e begins (codeRecord ctx b.dict (readRecord r)).length = true) :
    ∃ v, exec .takeFileData s = .next (v.frameDone l) ∧ (s.taken l r rest).Appended x.segId
      (e.withRecord { lane := l, cls := cls, octets := r, file := f, turnedAway := false } begins
        (s.runElsewhere l cls x.segId) (codeRecord ctx b.dict (readRecord r)))
      (b.withRecord { lane := l, cls := cls, octets := r, file := f, turnedAway := false } e.runs
        (codeRecord ctx b.dict (readRecord r)) (s.builder.placement + 1)) v := by
  have happended := State.appendRecord_appended (s := s.taken l r rest)
    (o := { lane := l, cls := cls, octets := r, file := f, turnedAway := false })
    (coded := codeRecord ctx b.dict (readRecord r)) he hb
  have happend := State.tryAppend_of (s := s.taken l r rest)
    (o := { lane := l, cls := cls, octets := r, file := f, turnedAway := false }) he hb
  dsimp only at happend happended
  rw [hcoding] at happend happended
  refine ⟨_, ?_, happended⟩
  rw [exec_takeFileData_valid h hstate hf hlen hvalid hcls,
    State.place_appends (s := s.taken l r rest) hx (happend.trans (if_pos hfits))]
  rfl

end

/-- Settles O15: the record joins its run, begins one, or seals the segment. -/
theorem recordAppended : Obligations.RecordAppended := by
  intro s l r arrival rest f cls x e b h hstate hf hlen hvalid hcls hx he hb at?
  have hat : at? = runIndex l e.runs := rfl
  clear_value at?
  subst hat
  dsimp only
  refine ⟨fun i bits ctx hi hbits hctx hroom => ?_, fun hnone hruns hroom => ?_, fun id hfull hopen hcount hcan => ?_⟩
  · have hcoding : codingOf l e b = (ctx, false) := by
      rw [codingOf_joins hi, hbits, Option.bind_some, hctx]
      rfl
    obtain ⟨v, hexec, happended⟩ := exec_takeFileData_appends h hstate hf hlen hvalid hcls hx he hb hcoding
      ((fits_iff _ _ _).mpr ⟨by simp, hroom⟩)
    rw [SegEntry.withRecord_joins hi rfl, Buffer.withRecord_joins hi] at happended
    exact ⟨_, hexec, happended.frameDone h.1⟩
  · obtain ⟨v, hexec, happended⟩ := exec_takeFileData_appends h hstate hf hlen hvalid hcls hx he hb
      (codingOf_begins hnone) ((fits_iff _ _ _).mpr ⟨by simpa using hruns, hroom⟩)
    rw [SegEntry.withRecord_begins hnone rfl, Buffer.withRecord_begins hnone] at happended
    exact ⟨_, hexec, happended.frameDone h.1⟩
  · generalize hreason : (if runIndex l e.runs = none ∧ 32 ≤ e.runs.length then SealReason.runs else .full) = reason
    have hfit : fits e (codingOf l e b).2 (codeRecord (codingOf l e b).1 b.dict (readRecord r)).length = false := by
      refine Bool.eq_false_iff.mpr fun hfit => ?_
      obtain ⟨hruns, hroom⟩ := (fits_iff _ _ _).mp hfit
      cases hrun : runIndex l e.runs with
      | none =>
        rw [codingOf_begins hrun] at hruns hroom
        rw [hrun] at hfull
        rcases hfull with hmany | hlong
        · exact hruns ⟨rfl, hmany.2⟩
        · exact absurd hroom (Nat.not_le.mpr hlong)
      | some i =>
        rw [codingOf_joins hrun] at hroom
        rw [hrun] at hfull
        rcases hfull with hmany | hlong
        · exact nomatch hmany.1
        · exact absurd hroom (Nat.not_le.mpr hlong)
    have hbegins : (codingOf l e b).2 = decide (runIndex l e.runs = none) := by
      cases hrun : runIndex l e.runs with
      | none => rw [codingOf_begins hrun]; rfl
      | some i => rw [codingOf_joins hrun]; rfl
    have hseal := State.tryAppend_of (s := s.taken l r rest)
      (o := { lane := l, cls := cls, octets := r, file := f, turnedAway := false }) he hb
    dsimp only at hseal
    rw [hfit, hbegins] at hseal
    have hreason' : (if decide (runIndex l e.runs = none) && decide (Config.runCap ≤ e.runs.length) then SealReason.runs
        else .full) = reason := by
      rw [← hreason]
      simp [Config.runCap]
    rw [hreason'] at hseal
    have hplace := State.place_seals (s := s.taken l r rest)
      (o := { lane := l, cls := cls, octets := r, file := f, turnedAway := false }) hx hseal
    have hsealed := (s.taken l r rest).sealSegment_sealedTo reason x.segId
    have hfew : ((s.taken l r rest).sealSegment reason x.segId).countState .opened < 24 :=
      (State.countState_sealSegment (s := s.taken l r rest) (List.mem_of_find?_eq_some he) (State.entry?_id he) hopen).trans_le
        hcount
    have hcan' : ((s.taken l r rest).sealSegment reason x.segId).canOpen cls r id := State.canOpen.sealed hcan
    obtain ⟨t, hopens, hopened⟩ := State.openFor_placed
      (o := { lane := l, cls := cls, octets := r, file := f, turnedAway := true }) (State.crowdedSeal_few hfew) hcan' hcan'
    refine ⟨_, _, hsealed, ?_, hopened.openedFor⟩
    rw [exec_takeFileData_valid h hstate hf hlen hvalid hcls, hplace, hopens]
    rfl

end Sys2Proof.Machine
end

section
/-! Openings at the end of a stall and at once (R20, R67, R68). -/

namespace Sys2Proof.Machine

section
variable {s : State} {o : Offer} {id : Nat}

/-- With fewer than 24 segments OPEN a segment opens at once. -/
theorem State.place_opens (hx : s.builder.openIndex.find? (fun y => y.cls = o.cls ∧ y.day = o.file.day) = none)
    (hcan : s.canOpen o.cls o.octets id) (hfew : s.countState .opened < 24) :
    ∃ t, s.place o = .placed t ∧ s.Opened o id (o.turnedAway || s.runElsewhere o.lane o.cls id) t := by
  rw [State.place_fresh hx]
  exact State.openFor_placed (State.crowdedSeal_few hfew) hcan hcan

/-- With 24 segments OPEN the least recently placed is sealed first. -/
theorem State.place_opens_crowded {old : Nat}
    (hx : s.builder.openIndex.find? (fun y => y.cls = o.cls ∧ y.day = o.file.day) = none)
    (hcan : s.canOpen o.cls o.octets id) (hmany : 24 ≤ s.countState .opened) (hchoice : s.crowdedChoice = some old) :
    ∃ t, s.place o = .placed t
      ∧ (s.sealSegment .crowded old).Opened o id (o.turnedAway || s.runElsewhere o.lane o.cls id) t := by
  rw [State.place_fresh hx]
  obtain ⟨t, hplace, hopened⟩ := State.openFor_placed (State.crowdedSeal_many hmany hchoice) hcan hcan.sealed
  rw [State.hasEarlierRun_sealSegment] at hopened
  exact ⟨t, hplace, hopened⟩

/-- No entry has the id, so every run of the lane stands elsewhere. -/
theorem State.runElsewhere_fresh (h : s.entry? id = none) (l : LaneNo) (cls : ClassNo) :
    s.runElsewhere l cls id = s.dir.any fun y => y.cls = cls && y.runs.any fun r => r.lane = some l := by
  unfold State.runElsewhere
  refine Bool.eq_iff_iff.mpr ?_
  simp only [List.any_eq_true]
  refine exists_congr fun y => and_congr_right fun hy => ?_
  have hne : y.id ≠ id := by simpa using List.find?_eq_none.mp h y hy
  rw [decide_eq_true hne, Bool.true_and]

end

theorem State.stallOver_of_room {s : State} {cause : StallCause} (hcause : cause = .buffer ∨ cause = .directory)
    (hbuffers : s.builder.buffers.length < 32) (hdir : s.dir.length < 4194304) : s.stallOver cause = true := by
  rcases hcause with rfl | rfl
  · exact decide_eq_true hbuffers
  · exact decide_eq_true hdir

/-- Settles O16: the record is placed afresh, or taken from its frame. -/
theorem stallEndOpensASegment : Obligations.StallEndOpensASegment := by
  refine ⟨fun s h f id hhand hrest hcause hf hnext hentry hbuffer hbuffers hdir hfew hx => ?_,
    fun s h f id old e hhand hrest hcause hf hcan hx hmany hold he hid hopen hleast => ?_,
    fun s l r arrival rest f cls h hstate hf hlen hvalid hcls hx => ?_⟩
  · dsimp only
    intro hfits
    have hcan : s.canOpen h.cls h.record id := ⟨hnext, hentry, hbuffer, hbuffers, hdir, hfits⟩
    have hexec := exec_stallEnd_last hhand hrest (State.stallOver_of_room hcause hbuffers hdir) hf
    obtain ⟨v, hplace, hopened⟩ := State.place_opens
      (o := { lane := h.lane, cls := h.cls, octets := h.record, file := f, turnedAway := h.turnedAway }) hx hcan hfew
    rw [hplace] at hexec
    obtain ⟨hentry', hbuffer', hothers, hbuilder, hhand', happended, hport, hall⟩ := hopened.openedFor
    dsimp only at hentry' hbuffer' hbuilder happended hport hall
    rw [State.runElsewhere_fresh hentry] at hentry'
    refine ⟨_, hexec, hentry', hbuffer', hothers, ?_, ?_, ?_, ?_, hhand', happended, hport, hall⟩
    · refine (congrArg Builder.nextId hbuilder).trans ?_
      simp only [Nat.le_iff_lt_or_eq, or_comm, eq_comm]
    · exact (congrArg Builder.opened hbuilder :)
    · exact (congrArg Builder.placement hbuilder :)
    · exact (congrArg Builder.openIndex hbuilder :)
  · have hexec := exec_stallEnd_last hhand hrest (State.stallOver_of_room hcause hcan.2.2.2.1 hcan.2.2.2.2.1) hf
    obtain ⟨v, hplace, hopened⟩ := State.place_opens_crowded
      (o := { lane := h.lane, cls := h.cls, octets := h.record, file := f, turnedAway := h.turnedAway }) hx hcan hmany
      (State.crowdedChoice_eq hold he hid hopen hleast)
    rw [hplace] at hexec
    exact ⟨_, _, s.sealSegment_sealedTo .crowded old.segId, hexec, hopened.openedFor⟩
  · have hexec := exec_takeFileData_valid h hstate hf hlen hvalid hcls
    generalize ho : ({ lane := l, cls := cls, octets := r, file := f, turnedAway := false } : Offer) = o at hexec
    have hfresh : (s.taken l r rest).place o = (s.taken l r rest).openFor o := by
      subst ho
      exact State.place_fresh hx
    have haway : o.turnedAway = false := by rw [← ho]
    dsimp only
    refine ⟨fun hids => ?_, fun hids hfull => ?_, fun hfew => ⟨fun hids hdir hbuffers => ?_, fun id hcan => ?_⟩,
      fun old e hmany hold he hid hopen hleast => ⟨fun hids hdir hbuffers => ?_, fun id hcan => ?_⟩⟩
    · rw [hexec, hfresh, State.openFor_ids (s := s.taken l r rest) hids, haway]
      rfl
    · rw [hexec, hfresh, State.openFor_directory (s := s.taken l r rest) hids hfull, haway]
      rfl
    · have hkept : (s.taken l r rest).crowdedSeal = s.taken l r rest := State.crowdedSeal_few hfew
      rw [hexec, hfresh, State.openFor_buffer (s := s.taken l r rest) hids hdir (by rw [hkept]; exact hbuffers), hkept, haway]
      rfl
    · subst ho
      obtain ⟨v, hplace, hopened⟩ := State.place_opens (s := s.taken l r rest)
        (o := { lane := l, cls := cls, octets := r, file := f, turnedAway := false }) hx hcan hfew
      rw [hplace] at hexec
      exact ⟨_, hexec, hopened.openedFor⟩
    · have hchoice : (s.taken l r rest).crowdedChoice = some old.segId :=
        State.crowdedChoice_eq (s := s.taken l r rest) hold he hid hopen hleast
      have hkept : (s.taken l r rest).crowdedSeal = (s.taken l r rest).sealSegment .crowded old.segId :=
        State.crowdedSeal_many hmany hchoice
      refine ⟨_, (s.taken l r rest).sealSegment_sealedTo .crowded old.segId, ?_⟩
      rw [hexec, hfresh, State.openFor_buffer (s := s.taken l r rest) hids hdir
        (by rw [hkept]; exact State.length_sealSegment.2.symm ▸ hbuffers), hkept, haway]
      rfl
    · subst ho
      obtain ⟨v, hplace, hopened⟩ := State.place_opens_crowded (s := s.taken l r rest)
        (o := { lane := l, cls := cls, octets := r, file := f, turnedAway := false }) hx hcan hmany
        (State.crowdedChoice_eq (s := s.taken l r rest) hold he hid hopen hleast)
      rw [hplace] at hexec
      exact ⟨_, _, (s.taken l r rest).sealSegment_sealedTo .crowded old.segId, hexec, hopened.openedFor⟩

end Sys2Proof.Machine
end

section
/-! Every record of a frame is appended, rejected or held (R2, R13, R19, R20). -/

namespace Sys2Proof.Machine

/-! ### What placements change -/

/-- `t` comes from `s` by appends, seals and openings. -/
structure State.Placing (s t : State) : Prop where
  rest : t = { s with port := t.port, builder := t.builder, dir := t.dir, commit := t.commit }
  port : t.port = { s.port with flow := t.port.flow, flowSlot := t.port.flowSlot }
  grows : s.builder.buffers.length ≤ t.builder.buffers.length
  flow : s.FlowFollows t

/-- An opening on the way turns GO to PAUSE (R78). -/
def State.Pauses (s t : State) : Prop :=
  s.port.flow = .go ∧ s.builder.buffers.length < t.builder.buffers.length ∧ 30 ≤ t.builder.buffers.length

/-- The starts for which the flow state follows the openings. -/
def State.FlowSteady (s : State) : Prop := s.port.flow = .go ∨ s.engine ≠ .running ∨ 26 ≤ s.builder.buffers.length

/-- The flow state of `t` is the one given, with its frame in the slot. -/
def State.FlowIs (t : State) (flow : Flow) (slot : Option Flow) : Prop := t.port.flow = flow ∧ t.port.flowSlot = slot

theorem State.flowFollows_iff {s t : State} : s.FlowFollows t
    ↔ (s.FlowSteady → (s.Pauses t → t.FlowIs .pause (some .pause))
        ∧ (¬ s.Pauses t → t.FlowIs s.port.flow s.port.flowSlot)) := by
  unfold State.FlowFollows State.FlowSteady State.FlowIs State.Pauses
  dsimp only
  refine imp_congr_right fun _ => ?_
  by_cases hpauses : s.port.flow = .go ∧ s.builder.buffers.length < t.builder.buffers.length
      ∧ 30 ≤ t.builder.buffers.length
  · rw [if_pos hpauses, if_pos hpauses]
    exact ⟨fun h => ⟨fun _ => h, (absurd hpauses ·)⟩, fun h => h.1 hpauses⟩
  · rw [if_neg hpauses, if_neg hpauses]
    exact ⟨fun h => ⟨(absurd · hpauses), fun _ => h⟩, fun h => h.2 hpauses⟩

/-- A step that leaves the flow state and the number of buffers alone. -/
theorem State.FlowFollows.of_same {s t : State} (hport : t.port = s.port)
    (hbuffers : t.builder.buffers.length = s.builder.buffers.length) : s.FlowFollows t := by
  refine State.flowFollows_iff.mpr fun _ => ⟨fun h => ?_, fun _ => ?_⟩
  · obtain ⟨-, hless, -⟩ := h
    omega
  · unfold State.FlowIs
    rw [hport]
    exact ⟨rfl, rfl⟩

theorem State.FlowFollows.trans {s t u : State} (h : s.FlowFollows t) (h' : t.FlowFollows u) (hengine : t.engine = s.engine)
    (hgrows : s.builder.buffers.length ≤ t.builder.buffers.length)
    (hgrows' : t.builder.buffers.length ≤ u.builder.buffers.length) : s.FlowFollows u := by
  refine State.flowFollows_iff.mpr fun hstart => ?_
  obtain ⟨hpauses, hstays⟩ := State.flowFollows_iff.mp h hstart
  have h' := State.flowFollows_iff.mp h'
  unfold State.FlowSteady at h' hstart
  unfold State.Pauses State.FlowIs at *
  by_cases hfull : s.port.flow = .go ∧ s.builder.buffers.length < t.builder.buffers.length
      ∧ 30 ≤ t.builder.buffers.length
  · obtain ⟨hflow, hslot⟩ := hpauses hfull
    obtain ⟨hgo, hless, hmany⟩ := hfull
    obtain ⟨-, hkept⟩ := h' (.inr (.inr (by omega)))
    obtain ⟨hflow', hslot'⟩ := hkept (by rw [hflow]; exact fun h => nomatch h.1)
    refine ⟨fun _ => ⟨hflow'.trans hflow, hslot'.trans hslot⟩, fun hn => absurd ⟨hgo, ?_, ?_⟩ hn⟩ <;> omega
  · obtain ⟨hflow, hslot⟩ := hstays hfull
    rw [hflow, hslot, hengine] at h'
    obtain ⟨hpauses', hstays'⟩ := h' (hstart.imp_right fun h => h.imp_right fun h => by omega)
    refine ⟨fun hnow => hpauses' ⟨hnow.1, ?_, hnow.2.2⟩, fun hnow => hstays' fun hnext => hnow ⟨hnext.1, ?_, hnext.2.2⟩⟩
    · refine Nat.lt_of_not_le fun hle => hfull ⟨hnow.1, ?_, ?_⟩ <;> omega
    · omega

theorem State.flowTested_of_go {s : State} (h : s.port.flow = .go) : s.flowTested.port
    = if 30 ≤ s.builder.buffers.length then { s.port with flow := .pause, flowSlot := some .pause } else s.port := by
  unfold State.flowTested
  simp only [h, if_true]
  split <;> rfl

theorem State.flowTested_of_pause {s : State} (h : s.port.flow ≠ .go)
    (hstays : ¬ (s.builder.buffers.length ≤ 26 ∧ s.engine = .running)) : s.flowTested.port = s.port := by
  unfold State.flowTested
  simp only [h, if_false]
  rw [if_neg hstays]

/-- R78: the flow state is tested as one more buffer is taken. -/
theorem State.FlowFollows.flowTested {s u : State} (hport : u.port = s.port) (hengine : u.engine = s.engine)
    (hbuffers : u.builder.buffers.length = s.builder.buffers.length + 1) : s.FlowFollows u.flowTested := by
  refine State.flowFollows_iff.mpr fun hstart => ?_
  have hlength : u.flowTested.builder.buffers.length = s.builder.buffers.length + 1 := by
    rw [State.flowTested_rest]
    exact hbuffers
  unfold State.Pauses
  rw [hlength]
  unfold State.FlowIs
  by_cases hgo : s.port.flow = .go
  · rw [State.flowTested_of_go (by rw [hport, hgo]), hbuffers, hport]
    by_cases hfull : 30 ≤ s.builder.buffers.length + 1
    · rw [if_pos hfull]
      exact ⟨fun _ => ⟨rfl, rfl⟩, fun hn => absurd ⟨hgo, Nat.lt_succ_self _, hfull⟩ hn⟩
    · rw [if_neg hfull]
      exact ⟨fun h => absurd h.2.2 hfull, fun _ => ⟨rfl, rfl⟩⟩
  · have hstays : ¬ (s.builder.buffers.length + 1 ≤ 26 ∧ s.engine = .running) := fun h => by
      rcases hstart with hflow | hengine | hmany
      · exact hgo hflow
      · exact hengine h.2
      · omega
    rw [State.flowTested_of_pause (by rw [hport]; exact hgo) (by rw [hbuffers, hengine]; exact hstays), hport]
    exact ⟨fun h => absurd h.1 hgo, fun _ => ⟨rfl, rfl⟩⟩

/-- The flow test changes the flow state and its frame alone. -/
theorem State.flowTested_flow (s : State) :
    s.flowTested.port = { s.port with flow := s.flowTested.port.flow, flowSlot := s.flowTested.port.flowSlot } := by
  unfold State.flowTested
  dsimp only
  generalize (if s.port.flow = .go then Flow.pause else .go) = f
  split <;> split <;> rfl

namespace State.Placing

variable {s t u : State}

theorem refl (s : State) : s.Placing s := ⟨rfl, rfl, le_rfl, .of_same rfl rfl⟩

theorem trans (h : s.Placing t) (h' : t.Placing u) : s.Placing u where
  rest := by
    have hrest := h'.rest
    rw [h.rest] at hrest
    exact hrest
  port := by
    have hport := h'.port
    rw [h.port] at hport
    exact hport
  grows := h.grows.trans h'.grows
  flow := h.flow.trans h'.flow (by rw [h.rest]) h.grows h'.grows

theorem sealSegment (s : State) (reason : SealReason) (id : Nat) : s.Placing (s.sealSegment reason id) :=
  ⟨rfl, rfl, State.length_sealSegment.2.ge, .of_same rfl State.length_sealSegment.2⟩

theorem appendRecord (s : State) (o : Offer) (e : SegEntry) (b : Buffer) (coded : List Byte) :
    s.Placing (s.appendRecord o e b coded) :=
  ⟨rfl, rfl, (List.length_map ..).ge, .of_same rfl (List.length_map ..)⟩

theorem tryAppend {o : Offer} {id : Nat} (h : s.tryAppend o id = .inl t) : s.Placing t := by
  unfold State.tryAppend at h
  split at h
  · dsimp only at h
    split at h
    · cases h
      exact .appendRecord ..
    · cases h
  · cases h
    exact .refl _

theorem openSegment (s : State) (cls : ClassNo) (day id : Nat) : s.Placing (s.openSegment cls day id) := by
  obtain ⟨u, hu, hbuilder, hlength, hrest⟩ := State.openSegment_eq (s := s) (id := id) cls day
  rw [hu]
  have hflow : s.FlowFollows u.flowTested := .flowTested (by rw [hrest]) (by rw [hrest]) hlength
  have hport := u.flowTested_flow
  refine ⟨?_, hport.trans (by rw [hrest]), ?_, hflow⟩
  · have hcommit : u.commit = s.commit := by rw [hrest]
    rw [State.flowTested_rest]
    dsimp only
    rw [hcommit]
    refine Eq.trans ?_ (congrArg (fun x : State => { x with port := u.flowTested.port }) hrest)
    rw [hcommit]
  · rw [State.flowTested_rest]
    show s.builder.buffers.length ≤ u.builder.buffers.length
    omega

theorem crowdedSeal (s : State) : s.Placing s.crowdedSeal := by
  unfold State.crowdedSeal
  split
  · split
    · exact .refl s
    · exact .sealSegment s _ _
  · exact .refl s

theorem openFor (s : State) (o : Offer) : s.Placing (s.openFor o).state := by
  unfold State.openFor
  split
  · exact .refl s
  next id _ =>
  split
  · exact .refl s
  dsimp only
  split
  · exact .crowdedSeal s
  have hopen := (State.Placing.crowdedSeal s).trans (.openSegment s.crowdedSeal o.cls o.file.day id)
  split
  next h => exact hopen.trans (.tryAppend h)
  next => exact hopen

theorem place (s : State) (o : Offer) : s.Placing (s.place o).state := by
  unfold State.place
  split
  · exact .openFor s o
  split
  next h => exact .tryAppend h
  next => exact (State.Placing.sealSegment s _ _).trans (.openFor _ _)

end State.Placing

/-- A placement stalls for the ids, the Directory or the buffers. -/
theorem State.openFor_cause {s v : State} {o : Offer} {cause : StallCause} {away : Bool}
    (h : s.openFor o = .stalled v cause away) : cause ≠ .between := by
  unfold State.openFor at h
  dsimp only at h
  split at h
  · cases h; exact nofun
  split at h
  · cases h; exact nofun
  split at h
  · cases h; exact nofun
  split at h <;> cases h

theorem State.place_cause {s v : State} {o : Offer} {cause : StallCause} {away : Bool}
    (h : s.place o = .stalled v cause away) : cause ≠ .between := by
  unfold State.place at h
  split at h
  · exact State.openFor_cause h
  split at h
  · cases h
  · exact State.openFor_cause h

end Sys2Proof.Machine
end

section
namespace Sys2Proof.Machine

theorem counted_counted (old m n : Nat) : counted (counted old m) n = counted old (m + n) := by
  unfold counted
  by_cases hm : m = 0
  · rw [if_pos hm, hm, Nat.zero_add]
  by_cases hn : n = 0
  · rw [if_pos hn, hn, Nat.add_zero]
  rw [if_neg hm, if_neg hn, if_neg (by omega : ¬ m + n = 0)]
  omega

theorem flatten_pieces (n size : Nat) (l : List Byte) : (pieces n size l).flatten = l.take (n * size) := by
  induction n generalizing l with
  | zero => simp [pieces]
  | succ n ih => rw [pieces, List.flatten_cons, ih, Nat.succ_mul, Nat.add_comm, List.take_add]

theorem length_pieces (n size : Nat) (l : List Byte) : (pieces n size l).length = n := by
  induction n generalizing l with
  | zero => rfl
  | succ n ih => rw [pieces, List.length_cons, ih]

/-! ### One record -/

/-- `u` comes from `s` by a record taken: `a` appended or `r` rejected, its octets `x` in the digest. -/
structure State.TookOne (l : LaneNo) (x : List Byte) (a r : Nat) (s u : State) : Prop where
  appended : (u.lane l).appended = counted (s.lane l).appended a
  rejected : (u.lane l).rejected = counted (s.lane l).rejected r
  digest : (u.lane l).digest = crcTake (s.lane l).digest x
  kept : (u.lane l).state = (s.lane l).state ∧ (u.lane l).file = (s.lane l).file
  others : ∀ m, m ≠ l → u.lane m = s.lane m
  rest : u = { s with port := u.port, asm := u.asm, builder := u.builder, dir := u.dir, commit := u.commit }
  port : u.port = { s.port with flow := u.port.flow, flowSlot := u.port.flowSlot }
  grows : s.builder.buffers.length ≤ u.builder.buffers.length
  flow : s.FlowFollows u

/-- `t` comes from `s` by the records `rs` of a frame: `a` appended, `r` rejected, the rest held. -/
structure State.TookRecords (l : LaneNo) (rs : List (List Byte)) (a r : Nat) (s t : State) : Prop where
  count : a + r + t.awaiting l = rs.length
  appended : (t.lane l).appended = counted (s.lane l).appended a
  rejected : (t.lane l).rejected = counted (s.lane l).rejected r
  digest : t.asm.hand = none → (t.lane l).digest = crcTake (s.lane l).digest rs.flatten
  kept : (t.lane l).state = (s.lane l).state ∧ (t.lane l).file = (s.lane l).file
  others : ∀ m, m ≠ l → t.lane m = s.lane m
  rest : t = { s with port := t.port, asm := t.asm, builder := t.builder, dir := t.dir, commit := t.commit }
  port : t.port = { s.port with flow := t.port.flow, flowSlot := t.port.flowSlot }
  grows : s.builder.buffers.length ≤ t.builder.buffers.length
  flow : s.FlowFollows t
  between : s.loadDue = false → ∀ h, t.asm.hand = some h → h.cause ≠ .between

theorem State.loadWaits_eq (s : State) : s.loadWaits = s.loadDue := by
  have hplaces : decide (0 < s.port.freePlaces) = decide (s.port.replies.length + s.port.reserved.length < 16) := by
    unfold Port.freePlaces Config.replyPlaces
    exact decide_eq_decide.mpr (by omega)
  unfold State.loadWaits State.loadDue
  rw [hplaces]

section
variable {s u t : State} {l : LaneNo} {x : List Byte} {rs : List (List Byte)} {a r a' r' : Nat}

theorem State.TookOne.loadDue (h : State.TookOne l x a r s u) : u.loadDue = s.loadDue := by
  unfold State.loadDue
  rw [h.port, h.rest]

theorem State.TookOne.cons (h : State.TookOne l x a' r' s u) (hone : a' + r' = 1)
    (h' : State.TookRecords l rs a r u t) : State.TookRecords l (x :: rs) (a' + a) (r' + r) s t where
  count := by
    have hcount := h'.count
    rw [List.length_cons]
    omega
  appended := by rw [h'.appended, h.appended, counted_counted]
  rejected := by rw [h'.rejected, h.rejected, counted_counted]
  digest hhand := by
    rw [h'.digest hhand, h.digest, List.flatten_cons]
    exact List.foldl_append.symm
  kept := ⟨h'.kept.1.trans h.kept.1, h'.kept.2.trans h.kept.2⟩
  others m hm := (h'.others m hm).trans (h.others m hm)
  rest := by
    have hrest := h'.rest
    rw [h.rest] at hrest
    exact hrest
  port := by
    have hport := h'.port
    rw [h.port] at hport
    exact hport
  grows := h.grows.trans h'.grows
  flow := h.flow.trans h'.flow (by rw [h.rest]) h.grows h'.grows
  between hload := h'.between (h.loadDue.trans hload)

/-- The digest takes the record before it is counted. -/
theorem State.TookOne.of_digested (h : State.TookOne l [] a r (s.digested l x) u) : State.TookOne l x a r s u := by
  have hlane : (s.digested l x).lane l = { s.lane l with digest := crcTake (s.lane l).digest x } := vget_vset_same _ _ _
  obtain ⟨happended, hrejected, hdigest, hkept, hothers, hrest, hport, hgrows, hflow⟩ := h
  rw [hlane] at happended hrejected hdigest hkept
  refine ⟨happended, hrejected, hdigest, hkept, fun m hm => (hothers m hm).trans ?_, hrest, hport, hgrows, hflow⟩
  exact (vget_vset _ _ _ _).trans (if_neg hm)

/-- A lane that a step changes, with the rest of the step. -/
theorem State.TookOne.of_placing (h : s.Placing u) {k : Lane} (hrejected : k.rejected = counted (s.lane l).rejected r)
    (happended : k.appended = counted (s.lane l).appended a) (hdigest : k.digest = (s.lane l).digest)
    (hkept : k.state = (s.lane l).state ∧ k.file = (s.lane l).file) : State.TookOne l [] a r s (u.withLane l k) := by
  have hasm : u.asm = s.asm := by rw [h.rest]
  have hlane : (u.withLane l k).lane l = k := vget_vset_same _ _ _
  refine ⟨?_, ?_, ?_, ?_, fun m hm => ?_, ?_, h.port, h.grows, h.flow⟩
  · rw [hlane, happended]
  · rw [hlane, hrejected]
  · rw [hlane, hdigest]
    rfl
  · rw [hlane]
    exact hkept
  · refine ((vget_vset _ _ _ _).trans (if_neg hm)).trans ?_
    unfold State.lane
    rw [hasm]
  · exact congrArg (fun v : State => { v with asm := (u.withLane l k).asm }) h.rest

theorem State.TookOne.appended_of (h : s.Placing u) : State.TookOne l [] 1 0 s (u.countAppended l) := by
  have hlane : u.lane l = s.lane l := by
    unfold State.lane
    rw [h.rest]
  refine .of_placing h (k := { u.lane l with appended := satAdd Config.max32 (u.lane l).appended 1 }) ?_ ?_ ?_ ?_
  all_goals rw [hlane]
  · exact (if_pos rfl).symm
  · exact satAdd_eq _ _
  · exact ⟨rfl, rfl⟩

theorem State.TookOne.rejected_of (c : Rejection) : State.TookOne l [] 0 1 s (s.rejectRecord l c) := by
  obtain ⟨happended, hrejected, hdigest, hkept, hothers, -⟩ := State.TookOne.of_placing (.refl s) (a := 0) (r := 1)
    (k := { s.lane l with rejected := satAdd Config.max32 (s.lane l).rejected 1 }) (satAdd_eq _ _) rfl rfl ⟨rfl, rfl⟩
  have hlanes : ∀ m, (s.rejectRecord l c).lane m
      = (s.withLane l { s.lane l with rejected := satAdd Config.max32 (s.lane l).rejected 1 }).lane m := fun m => by
    cases c <;> rfl
  refine ⟨?_, ?_, ?_, ?_, fun m hm => (hlanes m).trans (hothers m hm), rfl, rfl, le_rfl, .of_same rfl rfl⟩
  all_goals rw [hlanes]
  · exact happended
  · exact hrejected
  · exact hdigest
  · exact hkept

/-! ### The records of a frame -/

/-- The frame is held from its next record on. -/
theorem State.TookRecords.held (h : s.Placing u) {k : Hand} (hlane : k.lane = l) (hrest : 1 + k.rest.length = rs.length)
    (hbetween : s.loadDue = false → k.cause ≠ .between) : State.TookRecords l rs 0 0 s (u.holding k) := by
  have hlanes : ∀ m, (u.holding k).lane m = s.lane m := fun m => by
    unfold State.lane
    show vget u.asm.lanes m = _
    rw [h.rest]
  have hawaiting : (u.holding k).awaiting l = 1 + k.rest.length := if_pos hlane
  refine ⟨?_, ?_, ?_, nofun, ?_, fun m _ => hlanes m, ?_, h.port, h.grows, h.flow, fun hload _ hk => ?_⟩
  · rw [hawaiting]
    omega
  · rw [hlanes]
    exact (if_pos rfl).symm
  · rw [hlanes]
    exact (if_pos rfl).symm
  · rw [hlanes]
    exact ⟨rfl, rfl⟩
  · exact congrArg (fun v : State => { v with asm := (u.holding k).asm }) h.rest
  · cases hk
    exact hbetween hload

/-- A record that stalls is in the digest already. -/
theorem State.TookRecords.of_digested (h : State.TookRecords l rs a r (s.digested l x) t) (hhand : t.asm.hand ≠ none) :
    State.TookRecords l rs a r s t := by
  have hlane : (s.digested l x).lane l = { s.lane l with digest := crcTake (s.lane l).digest x } := vget_vset_same _ _ _
  obtain ⟨hcount, happended, hrejected, -, hkept, hothers, hrest, hport, hgrows, hflow, hbetween⟩ := h
  rw [hlane] at happended hrejected hkept
  refine ⟨hcount, happended, hrejected, (absurd · hhand), hkept, fun m hm => (hothers m hm).trans ?_, hrest, hport, hgrows,
    hflow, hbetween⟩
  exact (vget_vset _ _ _ _).trans (if_neg hm)

/-- No record is left, and the assembler holds none. -/
theorem State.TookRecords.done : State.TookRecords l [] 0 0 s (State.takeRecords l [] s) := by
  have htake : State.takeRecords l [] s = (s.onAsm fun a => { a with hand := none }).startTimer l := rfl
  rw [htake]
  obtain ⟨timer, htimer⟩ := (s.onAsm fun a => { a with hand := none }).startTimer_lane l
  rw [htimer]
  have hlane : ((s.onAsm fun a => { a with hand := none }).withLane l
      { (s.onAsm fun a => { a with hand := none }).lane l with timer := timer }).lane l
        = { s.lane l with timer := timer } := vget_vset_same _ _ _
  refine ⟨rfl, ?_, ?_, fun _ => ?_, ?_, fun m hm => (vget_vset _ _ _ _).trans (if_neg hm), rfl, rfl, le_rfl,
    .of_same rfl rfl, fun _ _ h => nomatch h⟩
  all_goals rw [hlane]
  · exact (if_pos rfl).symm
  · exact (if_pos rfl).symm
  · rfl
  · exact ⟨rfl, rfl⟩

/-- The rest of a frame is taken, or held where a load can fall (R5). -/
theorem State.goOn_took (hmore : ∃ a r, State.TookRecords l rs a r s (State.takeRecords l rs s)) :
    ∃ a r, State.TookRecords l rs a r s (State.goOn l rs (State.takeRecords l rs) s) ∧ (s.loadDue = true → a + r = 0) := by
  obtain ⟨a, r, hmore⟩ := hmore
  cases rs with
  | nil =>
    refine ⟨a, r, hmore, fun _ => ?_⟩
    have hcount := hmore.count
    rw [List.length_nil] at hcount
    omega
  | cons y ys =>
    unfold State.goOn
    dsimp only
    rw [State.loadWaits_eq]
    cases hload : s.loadDue with
    | false => exact ⟨a, r, hmore, nofun⟩
    | true => exact ⟨0, 0, .held (.refl s) rfl (Nat.add_comm _ _) (by rw [hload]; exact nofun), fun _ => rfl⟩

/-- R13: the records of a frame are taken in order. -/
theorem State.takeRecords_took (l : LaneNo) (rs : List (List Byte)) (s : State) :
    ∃ a r, State.TookRecords l rs a r s (State.takeRecords l rs s) ∧ (s.loadDue = true → a + r ≤ 1) := by
  induction rs generalizing s with
  | nil => exact ⟨0, 0, .done, fun _ => Nat.zero_le _⟩
  | cons x rs ih =>
    have hmore : ∀ u, ∃ a r, State.TookRecords l rs a r u (State.takeRecords l rs u) := fun u => by
      obtain ⟨a, r, h, -⟩ := ih u
      exact ⟨a, r, h⟩
    cases hvalid : validate x with
    | some c =>
      rw [State.takeRecords_rejected hvalid]
      have hone := (State.TookOne.rejected_of (s := s.digested l x) (l := l) c).of_digested
      obtain ⟨a, r, h, hload⟩ := State.goOn_took (hmore ((s.digested l x).rejectRecord l c))
      refine ⟨_, _, hone.cons rfl h, fun hdue => ?_⟩
      have := hload (hone.loadDue.trans hdue)
      omega
    | none =>
      rw [State.takeRecords_valid hvalid]
      have hplacing := State.Placing.place (s.digested l x) ((s.digested l x).recordOffer l x)
      cases hplace : (s.digested l x).place ((s.digested l x).recordOffer l x) with
      | placed v =>
        rw [hplace] at hplacing
        have hone := (State.TookOne.appended_of (l := l) hplacing).of_digested
        obtain ⟨a, r, h, hload⟩ := State.goOn_took (hmore (v.countAppended l))
        refine ⟨_, _, hone.cons rfl h, fun hdue => ?_⟩
        have := hload (hone.loadDue.trans hdue)
        omega
      | stalled v cause away =>
        rw [hplace] at hplacing
        refine ⟨0, 0, .of_digested (x := x) (.held hplacing rfl (Nat.add_comm _ _) fun _ => ?_) nofun, fun _ => Nat.zero_le _⟩
        exact State.place_cause hplace

end

theorem flatten_recordsOfPayload {payload : List Byte} (hlen : payload.length % 49 = 0) :
    (recordsOfPayload payload).flatten = payload := by
  unfold recordsOfPayload Config.recordOctets
  rw [flatten_pieces]
  exact List.take_of_length_le (by omega)

theorem length_recordsOfPayload (payload : List Byte) : (recordsOfPayload payload).length = payload.length / 49 :=
  length_pieces _ _ _

theorem takeFileData_partWay {s : State} {h : Hand} (hhand : s.asm.hand = some h) (hcause : h.cause = .between) :
    exec .takeFileData s = .next (State.takeRecords h.lane (h.record :: h.rest) s) := by
  refine congrArg Host.Outcome.next ?_
  have hpart : s.partWay = some h := by
    unfold State.partWay
    rw [hhand]
    simp [hcause]
  unfold takeFileData
  rw [hpart]

/-- The one record of a frame is rejected: the assembler holds none, and the lane's timer may start. -/
theorem State.rejected_frame {s : State} {l : LaneNo} {r : List Byte} {rest : List FileFrame}
    (hstate : (s.lane l).state = .receiving ∨ (s.lane l).state = .suspect) (hhand : s.asm.hand = none) (c : Rejection) :
    State.goOn l [] (State.takeRecords l []) (((s.popped rest).digested l r).rejectRecord l c)
      = (let s1 := s.popped rest
         let n (cause : Rejection) (old : Nat) : Nat := if c = cause then min (old + 1) 4294967295 else old
         { s1 with asm := { s1.asm with
            presence := n .presence s.asm.presence, startRange := n .startRange s.asm.startRange
            digits := n .digits s.asm.digits, pad := n .pad s.asm.pad
            lanes := vset s1.asm.lanes l ({ s1.lane l with
              digest := crcTake (s.lane l).digest r, rejected := min ((s.lane l).rejected + 1) 4294967295
              timer := if s1.port.fifo.all (fun f => f.lane ≠ l) && (s1.lane l).overrun.isNone then s1.timerAfter l
                else (s.lane l).timer }) } }) := by
  generalize hu : (((s.popped rest).digested l r).rejectRecord l c).onAsm (fun a => { a with hand := none }) = u
  have hlane : u.lane l = { (s.popped rest).lane l with
      digest := crcTake (s.lane l).digest r, rejected := min ((s.lane l).rejected + 1) 4294967295 } := by
    have hlanes : u.lane l = (((s.popped rest).digested l r).withLane l
        { ((s.popped rest).digested l r).lane l with
          rejected := satAdd Config.max32 (((s.popped rest).digested l r).lane l).rejected 1 }).lane l := by
      rw [← hu]
      cases c <;> rfl
    have hdigested : ((s.popped rest).digested l r).lane l
        = { (s.popped rest).lane l with digest := crcTake ((s.popped rest).lane l).digest r } := vget_vset_same _ _ _
    rw [hlanes, hdigested, State.lane_popped_digest]
    refine (vget_vset_same _ _ _).trans ?_
    rw [← State.lane_popped_rejected s rest]
    rfl
  have hfile : (u.lane l).hasFile = true := by
    rw [hlane, Lane.hasFile_iff]
    dsimp only
    rw [State.lane_popped_state]
    exact hstate
  have htimer : u.timerLeft l = if (s.popped rest).port.fifo.all (fun f => f.lane ≠ l)
      && ((s.popped rest).lane l).overrun.isNone then (s.popped rest).timerAfter l else (s.lane l).timer := by
    unfold State.timerLeft State.timerAfter
    rw [hlane, ← hu]
    dsimp only
    rw [State.lane_popped]
    rfl
  refine (congrArg (State.startTimer · l) hu).trans ?_
  rw [State.startTimer_eq hfile, htimer, hlane, ← hu]
  dsimp only
  rw [← hhand]
  unfold State.withLane State.rejectRecord State.digested State.withLane State.onLane State.onAsm
  dsimp only
  cases c
  all_goals
    unfold Assembler.reject
    dsimp only
    rw [vset_vset_same, vset_vset_same]
    rfl

/-- Settles O14: the records of a frame are appended, rejected or held. -/
theorem noRecordIsLost : Obligations.NoRecordIsLost := by
  refine ⟨fun s l => ⟨fun payload arrival rest h hstate hne hlen hmax => ?_, fun h hhand hl => ?_,
    fun h hhand hl hcause => ?_⟩, fun s l r arrival rest c h hstate hlen hbad => ?_⟩
  · have hwell : dataMalformed payload = false := by
      have hpos : payload.length ≠ 0 := by simpa using hne
      unfold dataMalformed Config.recordOctets
      simp only [Bool.or_eq_false_iff, decide_eq_false_iff_not]
      omega
    obtain ⟨a, r, htook, hload⟩ := State.takeRecords_took l (recordsOfPayload payload) (s.popped rest)
    obtain ⟨hcount, happended, hrejected, hdigest, hkept, hothers, hrest, hport, -, hflow, hbetween⟩ := htook
    rw [length_recordsOfPayload] at hcount
    rw [flatten_recordsOfPayload hlen, State.lane_popped_digest] at hdigest
    rw [State.lane_popped_appended] at happended
    rw [State.lane_popped_rejected] at hrejected
    rw [State.lane_popped_state, State.lane_popped_file] at hkept
    exact ⟨_, a, r, exec_takeFileData_open h hstate hwell, hcount, happended, hrejected, hdigest, hkept.1, hkept.2, hothers,
      hrest, hport, hflow, hload, hbetween⟩
  · subst hl
    cases hover : s.stallOver h.cause with
    | false =>
      refine ⟨s, 0, 0, congrArg Host.Outcome.next ?_, ?_, (if_pos rfl).symm, (if_pos rfl).symm, rfl, rfl, fun _ _ => rfl, rfl,
        rfl, .of_same rfl rfl⟩
      · unfold stallEnd
        rw [hhand]
        dsimp only
        rw [hover]
        rfl
      · unfold State.awaiting
        rw [hhand]
        simp
    | true =>
      rw [exec_stallEnd_over hhand hover]
      have hplacing := State.Placing.place s (s.offerOf h.lane h.cls h.record h.turnedAway)
      cases hplace : s.place (s.offerOf h.lane h.cls h.record h.turnedAway) with
      | placed v =>
        rw [hplace] at hplacing
        obtain ⟨a', r', hmore, -⟩ := State.takeRecords_took h.lane h.rest (v.countAppended h.lane)
        obtain ⟨a, r, htook, -⟩ := State.goOn_took ⟨a', r', hmore⟩
        obtain ⟨hcount, happended, hrejected, -, hkept, hothers, hrest, hport, -, hflow, -⟩ :=
          (State.TookOne.appended_of (l := h.lane) hplacing).cons rfl htook
        rw [List.length_cons, Nat.add_comm h.rest.length] at hcount
        exact ⟨_, _, _, rfl, hcount, happended, hrejected, hkept.1, hkept.2, hothers, hrest, hport, hflow⟩
      | stalled v cause away =>
        rw [hplace] at hplacing
        obtain ⟨hcount, happended, hrejected, -, hkept, hothers, hrest, hport, -, hflow, -⟩ :=
          State.TookRecords.held (k := { h with cause := cause, turnedAway := away }) (rs := h.record :: h.rest) hplacing rfl
            (Nat.add_comm _ _) fun _ => State.place_cause hplace
        rw [List.length_cons, Nat.add_comm h.rest.length] at hcount
        exact ⟨_, _, _, rfl, hcount, happended, hrejected, hkept.1, hkept.2, hothers, hrest, hport, hflow⟩
  · subst hl
    obtain ⟨a, r, htook, hload⟩ := State.takeRecords_took h.lane (h.record :: h.rest) s
    obtain ⟨hcount, happended, hrejected, hdigest, hkept, hothers, hrest, hport, -, hflow, hbetween⟩ := htook
    rw [List.length_cons, Nat.add_comm h.rest.length] at hcount
    exact ⟨_, a, r, takeFileData_partWay hhand hcause, hcount, hload, happended, hrejected, hdigest, hkept.1, hkept.2, hothers,
      hrest, hport, hflow, hbetween⟩
  · have hwell : dataMalformed r = false := by
      unfold dataMalformed Config.recordOctets
      rw [hlen]
      rfl
    rw [exec_takeFileData_open h hstate hwell, pieces_one r hlen, State.takeRecords_rejected hbad]
    exact congrArg Host.Outcome.next (State.rejected_frame hstate h.1 c)

end Sys2Proof.Machine
end

section
/-! The output of a retrieval (R156, R157). -/

namespace Sys2Proof.Machine

/-! ### The frames of a retrieval -/

theorem flatten_chunks {α : Type} {n fuel : Nat} (hn : 0 < n) {l : List α} (h : l.length ≤ fuel) :
    (chunks n fuel l).flatten = l := by
  induction fuel generalizing l with
  | zero => exact (List.length_eq_zero_iff.mp (Nat.le_zero.mp h)).symm
  | succ fuel ih =>
    cases l with
    | nil => rfl
    | cons x l =>
      rw [chunks, List.flatten_cons, ih ?_, List.take_append_drop]
      rw [List.length_drop, List.length_cons] at *
      omega

theorem length_of_mem_chunks {α : Type} {n fuel : Nat} {l c : List α} (h : c ∈ chunks n fuel l) : c.length ≤ n := by
  induction fuel generalizing l with
  | zero => exact nomatch h
  | succ fuel ih =>
    cases l with
    | nil => exact nomatch h
    | cons x l =>
      rw [chunks, List.mem_cons] at h
      rcases h with rfl | h
      · exact List.length_take_le n _
      · exact ih h

theorem mem_of_mem_chunks {α : Type} {n fuel : Nat} {l c : List α} (h : c ∈ chunks n fuel l) {x : α} (hx : x ∈ c) : x ∈ l := by
  induction fuel generalizing l with
  | zero => exact nomatch h
  | succ fuel ih =>
    cases l with
    | nil => exact nomatch h
    | cons y l =>
      rw [chunks, List.mem_cons] at h
      rcases h with rfl | h
      · exact List.mem_of_mem_take hx
      · exact List.mem_of_mem_drop (ih h)

/-- A decoded run that a retrieval takes. -/
def DecRun.chosenBy (filter : Option Nat) (d : DecRun) : Bool :=
  d.firm && (filter = none || filter = some d.source)

theorem chosenRuns_snd (filter : Option Nat) (i : Nat) (ds : List DecRun) :
    (chosenRuns filter i ds).map Prod.snd = ds.filter (DecRun.chosenBy filter) := by
  induction ds generalizing i with
  | nil => rfl
  | cons d ds ih =>
    unfold chosenRuns
    dsimp only
    rw [List.filter_cons]
    have hchosen : d.chosenBy filter = true ↔ d.firm = true ∧ (filter = none ∨ filter = some d.source) := by
      simp [DecRun.chosenBy]
    by_cases h : d.firm = true ∧ (filter = none ∨ filter = some d.source)
    · rw [if_pos h, if_pos (hchosen.mpr h), List.map_cons, ih]
    · rw [if_neg h, if_neg (mt hchosen.mp h), ih]

theorem chosenRuns_index {filter : Option Nat} {i : Nat} {ds : List DecRun} {p : Nat × DecRun}
    (h : p ∈ chosenRuns filter i ds) : i ≤ p.1 ∧ ds[p.1 - i]? = some p.2 := by
  induction ds generalizing i with
  | nil => exact nomatch h
  | cons d ds ih =>
    unfold chosenRuns at h
    dsimp only at h
    have hlater : p ∈ chosenRuns filter (i + 1) ds → i ≤ p.1 ∧ (d :: ds)[p.1 - i]? = some p.2 := fun h => by
      obtain ⟨hle, hget⟩ := ih h
      refine ⟨by omega, ?_⟩
      rw [show p.1 - i = p.1 - (i + 1) + 1 by omega, List.getElem?_cons_succ]
      exact hget
    split at h
    · rcases List.mem_cons.mp h with rfl | h
      · exact ⟨le_rfl, by simp⟩
      · exact hlater h
    · exact hlater h

/-- A frame without its number and its final flag. -/
def RecordsFrame.bare (f : RecordsFrame) : RecordsFrame := { f with number := 0, final := false }

theorem numberFrames_bare (n : Nat) (fs : List RecordsFrame) :
    (numberFrames n fs).map RecordsFrame.bare = fs.map RecordsFrame.bare := by
  induction fs generalizing n with
  | nil => rfl
  | cons f fs ih =>
    cases fs with
    | nil => rfl
    | cons g fs => exact congrArg (f.bare :: ·) (ih (n + 1))

theorem numberFrames_number (n : Nat) (fs : List RecordsFrame) :
    (numberFrames n fs).map RecordsFrame.number = List.range' n fs.length := by
  induction fs generalizing n with
  | nil => rfl
  | cons f fs ih =>
    cases fs with
    | nil => rfl
    | cons g fs => exact congrArg (n :: ·) (ih (n + 1))

theorem numberFrames_final (n : Nat) {fs : List RecordsFrame} (hfs : fs ≠ []) (hopen : ∀ f ∈ fs, f.final = false) :
    (numberFrames n fs).map RecordsFrame.final = List.replicate (fs.length - 1) false ++ [true] := by
  induction fs generalizing n with
  | nil => exact absurd rfl hfs
  | cons f fs ih =>
    cases fs with
    | nil => rfl
    | cons g fs =>
      have hmore := ih (n + 1) (List.cons_ne_nil g fs) fun x hx => hopen x (List.mem_cons_of_mem f hx)
      have hf : f.final = false := hopen f List.mem_cons_self
      refine (congrArg (f.final :: ·) hmore).trans ?_
      rw [hf]
      rfl

theorem numberFrames_length (n : Nat) (fs : List RecordsFrame) : (numberFrames n fs).length = fs.length := by
  have h := congrArg List.length (numberFrames_number n fs)
  rwa [List.length_map, List.length_range'] at h

/-- What a frame of a run holds. -/
theorem mem_runFrames {tag : Tag} {segId : Nat} {p : Nat × DecRun} {f : RecordsFrame} (h : f ∈ runFrames tag segId p) :
    f.tag = tag ∧ f.segId = segId ∧ f.records.length ≤ 167 ∧ f.run = p.1 ∧ f.source = p.2.source ∧ f.slot = p.2.slot
      ∧ f.final = false ∧ ∀ c ∈ f.records, c ∈ p.2.records.map canonical := by
  obtain ⟨c, hc, rfl⟩ := List.mem_map.mp h
  exact ⟨rfl, rfl, length_of_mem_chunks hc, rfl, rfl, rfl, rfl, fun x hx => mem_of_mem_chunks hc hx⟩

theorem runFrames_records (tag : Tag) (segId : Nat) (p : Nat × DecRun) :
    (runFrames tag segId p).flatMap RecordsFrame.records = p.2.records.map canonical := by
  unfold runFrames
  rw [List.flatMap_map]
  refine List.flatMap_id'.trans (flatten_chunks (by decide) ?_)
  rw [List.length_map]

/-- R156: the frames of the runs chosen, before they are numbered. -/
def bareFrames (tag : Tag) (segId : Nat) (chosen : List (Nat × DecRun)) : List RecordsFrame :=
  (chosen.map (runFrames tag segId)).flatten

theorem bareFrames_records (tag : Tag) (segId : Nat) (chosen : List (Nat × DecRun)) :
    (bareFrames tag segId chosen).flatMap RecordsFrame.records
      = (chosen.map Prod.snd).flatMap fun d => d.records.map canonical := by
  unfold bareFrames
  induction chosen with
  | nil => rfl
  | cons p chosen ih =>
    rw [List.map_cons, List.flatten_cons, List.flatMap_append, ih, runFrames_records]
    rfl

/-- The frames of a retrieval: each a frame of a chosen run, or the empty one. -/
structure RetrievalFrames (tag : Tag) (segId : Nat) (chosen : List (Nat × DecRun)) (out : List RecordsFrame) : Prop where
  nonempty : out ≠ []
  records : out.flatMap RecordsFrame.records = (chosen.map Prod.snd).flatMap fun d => d.records.map canonical
  each : ∀ f ∈ out, f.tag = tag ∧ f.segId = segId ∧ f.records.length ≤ 167
  runs : ∀ f ∈ out, f.records ≠ [] → ∃ p ∈ chosen, f.run = p.1 ∧ f.source = p.2.source ∧ f.slot = p.2.slot
    ∧ ∀ c ∈ f.records, c ∈ p.2.records.map canonical
  numbers : out.map RecordsFrame.number = List.range out.length
  finals : out.map RecordsFrame.final = List.replicate (out.length - 1) false ++ [true]

theorem retrieveFrames_spec (tag : Tag) (segId : Nat) (chosen : List (Nat × DecRun)) :
    RetrievalFrames tag segId chosen (retrieveFrames tag segId chosen) := by
  have hrecords := bareFrames_records tag segId chosen
  have hframes : retrieveFrames tag segId chosen = if bareFrames tag segId chosen = [] then [emptyFrame tag segId]
      else numberFrames 0 (bareFrames tag segId chosen) := by
    unfold retrieveFrames bareFrames
    cases (chosen.map (runFrames tag segId)).flatten <;> rfl
  rw [hframes]
  split
  next hnone =>
    rw [hnone] at hrecords
    refine ⟨List.cons_ne_nil _ _, hrecords, fun f hf => ?_, fun f hf hne => ?_, rfl, rfl⟩
    · rw [List.mem_singleton.mp hf]
      exact ⟨rfl, rfl, Nat.zero_le _⟩
    · rw [List.mem_singleton.mp hf] at hne
      exact absurd rfl hne
  next hsome =>
    have hbare := numberFrames_bare 0 (bareFrames tag segId chosen)
    have hfrom : ∀ f ∈ numberFrames 0 (bareFrames tag segId chosen), ∃ p ∈ chosen, ∃ g ∈ runFrames tag segId p,
        f.bare = g.bare := fun f hf => by
      have hmem := List.mem_map_of_mem (f := RecordsFrame.bare) hf
      rw [hbare] at hmem
      obtain ⟨g, hg, heq⟩ := List.mem_map.mp hmem
      obtain ⟨fs, hfs, hg⟩ := List.mem_flatten.mp hg
      obtain ⟨p, hp, rfl⟩ := List.mem_map.mp hfs
      exact ⟨p, hp, g, hg, heq.symm⟩
    refine ⟨fun h => hsome ?_, ?_, fun f hf => ?_, fun f hf _ => ?_, ?_, ?_⟩
    · rw [h] at hbare
      exact List.map_eq_nil_iff.mp hbare.symm
    · have hsame : ∀ l : List RecordsFrame,
          l.flatMap RecordsFrame.records = (l.map RecordsFrame.bare).flatMap RecordsFrame.records := fun l =>
        (List.flatMap_map RecordsFrame.bare RecordsFrame.records l).symm
      rw [← hrecords, hsame, hbare, ← hsame]
    · obtain ⟨p, -, g, hg, heq⟩ := hfrom f hf
      obtain ⟨htag, hseg, hlen, -⟩ := mem_runFrames hg
      exact ⟨(congrArg RecordsFrame.tag heq).trans htag, (congrArg RecordsFrame.segId heq).trans hseg,
        (congrArg (fun f : RecordsFrame => f.records.length) heq).trans_le hlen⟩
    · obtain ⟨p, hp, g, hg, heq⟩ := hfrom f hf
      obtain ⟨-, -, -, hrun, hsource, hslot, -, hall⟩ := mem_runFrames hg
      have hsame : f.records = g.records := (congrArg RecordsFrame.records heq :)
      exact ⟨p, hp, (congrArg RecordsFrame.run heq).trans hrun, (congrArg RecordsFrame.source heq).trans hsource,
        (congrArg RecordsFrame.slot heq).trans hslot, hsame ▸ hall⟩
    · rw [numberFrames_number, numberFrames_length, List.range_eq_range']
    · rw [numberFrames_length]
      refine numberFrames_final 0 hsome fun f hf => ?_
      obtain ⟨fs, hfs, hf⟩ := List.mem_flatten.mp hf
      obtain ⟨p, -, rfl⟩ := List.mem_map.mp hfs
      exact (mem_runFrames hf).2.2.2.2.2.2.1

/-! ### The read of a retrieval -/

/-- A success changes no header field of an entry, and makes none EXPIRING. -/
theorem State.succeeded_entry?_map (s : State) (t : TargetNo) : ∃ g : SegEntry → SegEntry,
    (∀ e, (g e).id = e.id ∧ (g e).cls = e.cls ∧ (g e).day = e.day ∧ (g e).payloadLen = e.payloadLen
      ∧ ((g e).state = .expiring ↔ e.state = .expiring))
    ∧ ∀ id, (s.succeeded t).entry? id = (s.entry? id).map g := by
  unfold State.succeeded
  dsimp only
  split
  · exact ⟨fun e => e, fun _ => ⟨rfl, rfl, rfl, rfl, .rfl⟩, fun _ => Option.map_id'.symm⟩
  split
  · refine ⟨fun e => if e.state = .stranded then { e with state := .sealed, attempts := 0 } else e, fun e => ?_, fun id => ?_⟩
    · dsimp only
      split
      next hst => exact ⟨rfl, rfl, rfl, rfl, by rw [hst]; exact ⟨nofun, nofun⟩⟩
      · exact ⟨rfl, rfl, rfl, rfl, .rfl⟩
    · exact find?_map_of_keeps (p := fun e : SegEntry => decide (e.id = id)) (fun e => by split <;> rfl) s.dir
  · exact ⟨fun e => e, fun _ => ⟨rfl, rfl, rfl, rfl, .rfl⟩, fun _ => Option.map_id'.symm⟩

section
variable {s : State} {r : Request} {rs : List Request} {e : SegEntry}

theorem State.imageRead_gone (h : s.audit.requests = r :: rs) (hk : r.kind = .retrieve) (he : s.entry? r.segId = none) :
    s.imageRead = s.requestEnds r rs .notFound [] := by
  unfold State.imageRead
  rw [h]
  dsimp only
  rw [hk]
  dsimp only
  rw [he]
  exact State.finishRequest_undecoded (k := .notFound) trivial h

theorem State.imageRead_retrieve (h : s.audit.requests = r :: rs) (hk : r.kind = .retrieve)
    (he : s.entry? r.segId = some e) : s.imageRead
      = if retrieveHeaderAgrees e (readHeader s.audit.readBuffer) then s.toCoder
        else if e.state = .expiring then s.finishRequest .tooLate
        else s.finishRequest (.malformed { run := none, record := none }) := by
  unfold State.imageRead
  rw [h]
  dsimp only
  rw [hk]
  dsimp only
  rw [he]

/-- A RETRIEVE of a malformed image ends. -/
theorem State.finishRequest_retrieve_malformed (h : s.audit.requests = r :: rs) (hk : r.kind = .retrieve) {tag : Tag}
    (ho : r.origin = some tag) (f : Finding) : s.finishRequest (.malformed f)
      = (s.requestDone r rs).settledWith tag .failed false (named 3 ++ optNum 1 f.run ++ optNum 4 f.record) := by
  unfold State.finishRequest
  rw [h]
  dsimp only
  have hkept : s.applyEnding r (.malformed f) = s := by
    unfold State.applyEnding
    rw [hk]
  rw [hkept, State.dequeueRequest_eq h, State.replyRequest_directive ho]
  unfold requestReply
  rw [hk] <;> rfl

theorem retrieveHeaderAgrees_iff (e : SegEntry) (img : List Byte) : retrieveHeaderAgrees e (readHeader img) = true
    ↔ fieldAt img 0 4 = e.id ∧ octetAt img 6 = e.cls.val ∧ fieldAt img 4 2 = e.day ∧ fieldAt img 12 4 = e.payloadLen := by
  simp only [retrieveHeaderAgrees, Bool.and_eq_true, decide_eq_true_eq, and_assoc]
  rfl

/-- R156: the output of a retrieval whose image decodes. -/
theorem State.offerRetrieval_eq {tag : Tag} (ho : r.origin = some tag) (ds : List DecRun) : s.offerRetrieval r ds
    = ({ s with audit := { s.audit with
          active := some .sending, output := retrieveFrames tag r.segId (chosenRuns r.filter 0 ds) } } : State).settledWith
        tag .done false (retrieveFigures (retrieveFrames tag r.segId (chosenRuns r.filter 0 ds))
          (chosenRuns r.filter 0 ds)) := by
  unfold State.offerRetrieval
  rw [ho, State.completeWith_eq]
  rfl

theorem State.decodeResult_retrieve (hr : s.audit.requests = r :: rs) (he : s.entry? r.segId = some e)
    (hst : e.state ≠ .expiring) (hk : r.kind = .retrieve) : s.decodeResult
      = match decodeImage s.audit.readBuffer with
        | .error f => s.finishRequest (.malformed f)
        | .ok ds => s.offerRetrieval r ds := by
  unfold State.decodeResult State.applyDecode
  rw [hr]
  dsimp only
  rw [he]
  dsimp only
  rw [if_neg hst, hk] <;> rfl

end

/-- The figures of the runs chosen. -/
theorem retrieveFigures_eq (out : List RecordsFrame) (chosen : List (Nat × DecRun)) : retrieveFigures out chosen
    = be 4 out.length ++ be 4 ((chosen.map Prod.snd).map fun d => d.records.length).sum
      ++ be 4 (chosen.map Prod.snd).length
      ++ be 4 ((chosen.map Prod.snd).countP fun d => d.recomputed.toNat ≠ d.digest) := by
  unfold retrieveFigures
  rw [List.map_map, List.length_map, List.countP_map]
  rfl

/-- Settles O41: the comparison of the header, then the output. -/
theorem retrievalOutput : Obligations.RetrievalOutput := by
  refine ⟨fun s t x data r rs hx hk hcut hlast hlen hr hkind => ?_,
    fun s cs r rs tag e hc hr hk ho he hst => ?_⟩
  · intro image u agree ends
    have hexec : exec (.beatAccept t .live data) s = .next (u.imageRead.eraseChecked t) := by
      refine congrArg Host.Outcome.next ((beatAccept_read hx hk hlen).trans ?_)
      unfold State.readBeat
      rw [if_neg (by rw [hcut]; exact Bool.false_ne_true)]
      refine (if_neg (Nat.not_lt.mpr hlast)).trans ?_
      unfold State.readComplete
      rw [State.pokeErase_eq, State.faultClear_eq, State.onTarget_eq]
      rfl
    have haudit : u.audit = { s.audit with readBuffer := image } := State.succeeded_audit _ t
    have hrequests : u.audit.requests = r :: rs := by
      rw [haudit]
      exact hr
    have hends : ∀ result figures, u.imageRead = u.requestEnds r rs result figures → ends result figures :=
      fun result figures h => by
        show exec _ s = _
        rw [hexec, h]
    obtain ⟨g, hg, hentry⟩ := State.succeeded_entry?_map ({ s.withTarget t { s.target t with xfer := none } with
      audit := { s.audit with readBuffer := image } } : State) t
    refine ⟨fun he => hends _ _ (State.imageRead_gone hrequests hkind ?_), fun e he => ?_⟩
    · exact (hentry r.segId).trans (congrArg (Option.map g) he)
    have he' : u.entry? r.segId = some (g e) := (hentry r.segId).trans (congrArg (Option.map g) he)
    have hread := State.imageRead_retrieve hrequests hkind he'
    obtain ⟨hid, hcls, hday, hlength, hexpiring⟩ := hg e
    have hagree : retrieveHeaderAgrees (g e) (readHeader u.audit.readBuffer) = true ↔ agree e := by
      rw [retrieveHeaderAgrees_iff, haudit, hid, hcls, hday, hlength]
    refine ⟨fun ha => ?_, fun ha hst => hends _ _ ?_, fun ha hst ho => hends _ _ ?_⟩
    · rw [hexec, hread, if_pos (hagree.mpr ha)]
      rfl
    · rw [hread, if_neg (mt hagree.mp ha), if_pos (hexpiring.mpr hst)]
      exact State.finishRequest_undecoded (k := .tooLate) trivial hrequests
    · obtain ⟨tag, ho⟩ := Option.ne_none_iff_exists'.mp ho
      rw [hread, if_neg (mt hagree.mp ha), if_neg (mt hexpiring.mp hst),
        State.finishRequest_retrieve_malformed hrequests hkind ho]
      unfold State.requestEnds
      rw [ho]
  · have hdecode := State.decodeResult_retrieve (s := { s with coder := cs }) hr he hst hk
    have hexec : exec .decodeComplete s = .next (State.decodeResult { s with coder := cs }) :=
      congrArg Host.Outcome.next (decodeComplete_request hc)
    refine ⟨fun ds hds => ?_, fun f hf => ?_⟩
    · have hchosen : (chosenRuns r.filter 0 ds).map Prod.snd
          = ds.filter fun d => d.firm && (r.filter = none || r.filter = some d.source) := chosenRuns_snd r.filter 0 ds
      obtain ⟨hne, hrecords, heach, hruns, hnumbers, hfinals⟩ :=
        retrieveFrames_spec tag r.segId (chosenRuns r.filter 0 ds)
      refine ⟨retrieveFrames tag r.segId (chosenRuns r.filter 0 ds), ?_, hne, ?_, heach, fun f hf hfne => ?_, hnumbers,
        hfinals⟩
      · rw [hexec, hdecode]
        dsimp only
        rw [hds]
        dsimp only
        rw [State.offerRetrieval_eq ho, retrieveFigures_eq, hchosen]
      · rw [← hchosen]
        exact hrecords
      · obtain ⟨p, hp, hrun, hsource, hslot, hall⟩ := hruns f hf hfne
        refine ⟨p.2, ?_, ?_, hsource, hslot, hall⟩
        · rw [← hchosen]
          exact List.mem_map_of_mem hp
        · rw [hrun]
          exact (chosenRuns_index hp).2
    · rw [hexec, hdecode]
      dsimp only
      rw [hf]
      dsimp only
      rw [State.finishRequest_retrieve_malformed (s := { s with coder := cs }) hr hk ho]

end Sys2Proof.Machine
end

section
/-! Scans: unit 0 and its header, and the move to the next extent (R87, R176). -/

namespace Sys2Proof.Machine

/-! ### A sound header -/

theorem sealOfCode_isSome (c : Nat) : (sealOfCode c).isSome = true ↔ 1 ≤ c ∧ c ≤ 6 := by
  match c with
  | 0 | 1 | 2 | 3 | 4 | 5 | 6 => simp [sealOfCode]
  | c + 7 => simp [sealOfCode]

/-- No filled place of the copy stands again behind it. -/
theorem repeatsPlace_iff (l : List (List Nat)) : repeatsPlace l = false ↔ l.Pairwise fun p q => p ≠ [] → p ≠ q := by
  induction l with
  | nil => simp [repeatsPlace]
  | cons p t ih =>
    rw [repeatsPlace, Bool.or_eq_false_iff, ih, List.pairwise_cons]
    refine and_congr_left fun _ => ?_
    rw [Bool.and_eq_false_iff, decide_eq_false_iff_not, not_not, ← Bool.not_eq_true, List.contains_iff_mem]
    constructor
    · rintro (hp | hp) q hq hne rfl
      · exact hne hp
      · exact hp hq
    · intro h
      by_cases hp : p = []
      · exact .inl hp
      · exact .inr fun hmem => h p hmem hp rfl

theorem Header.malformed_eq_false (h : Header) : h.malformed = false
    ↔ 1 ≤ h.runCount ∧ h.runCount ≤ 32 ∧ h.payloadLen ≤ 1048064 ∧ h.prefixCount ≤ 64
      ∧ (∀ p ∈ h.places, p.1 ≤ 12 ∧ ∀ d ∈ p.2, d ≤ 9)
      ∧ ∀ (i j : Nat) (p q : Nat × List Nat), i < j → h.places[i]? = some p → h.places[j]? = some q → p.2 ≠ [] →
        p.2 ≠ q.2 := by
  have hplaces : h.places.any (fun p => 12 < p.1 || p.2.any (9 < ·)) = false ↔ ∀ p ∈ h.places, p.1 ≤ 12 ∧ ∀ d ∈ p.2, d ≤ 9 := by
    simp [List.any_eq_false]
  have hrepeats : repeatsPlace h.dict = false ↔ ∀ (i j : Nat) (p q : Nat × List Nat), i < j → h.places[i]? = some p →
      h.places[j]? = some q → p.2 ≠ [] → p.2 ≠ q.2 := by
    rw [repeatsPlace_iff, Header.dict, List.pairwise_map, List.pairwise_iff_getElem]
    constructor
    · intro hpair i j p q hij hp hq
      obtain ⟨hi, rfl⟩ := List.getElem?_eq_some_iff.mp hp
      obtain ⟨hj, rfl⟩ := List.getElem?_eq_some_iff.mp hq
      exact hpair i j hi hj hij
    · intro hpair i j hi hj hij
      exact hpair i j _ _ hij (List.getElem?_eq_getElem hi) (List.getElem?_eq_getElem hj)
  unfold Header.malformed
  simp only [Bool.or_eq_false_iff, hplaces, hrepeats, decide_eq_false_iff_not, and_assoc]
  refine and_congr (by omega) (and_congr (by omega) (and_congr (by omega) (and_congr (by omega) .rfl)))

theorem soundHeader_iff (data : List Byte) : soundHeader data = true ↔ SoundUnit data := by
  have hsound : soundHeader data = true ↔ fieldAt data 508 4 = (crc32 (data.take 508)).toNat ∧ 512 ≤ data.length
      ∧ 1 ≤ (readHeader data).segId ∧ (readHeader data).cls ≤ 15 ∧ (1 ≤ (readHeader data).reason ∧ (readHeader data).reason ≤ 6)
      ∧ (readHeader data).malformed = false := by
    unfold soundHeader
    simp only [Bool.and_eq_true, decide_eq_true_eq, Bool.not_eq_true', sealOfCode_isSome, and_assoc]
  rw [hsound, Header.malformed_eq_false]
  unfold SoundUnit
  constructor
  · rintro ⟨hcrc, hlen, hid, hcls, ⟨hreason, hreason'⟩, hruns, hruns', hpayload, hprefixes, hplaces, hrepeats⟩
    exact ⟨hlen, hcrc, hid, hcls, hpayload, hruns, hruns', hreason, hreason', hprefixes, hplaces, hrepeats⟩
  · rintro ⟨hlen, hcrc, hid, hcls, hpayload, hruns, hruns', hreason, hreason', hprefixes, hplaces, hrepeats⟩
    exact ⟨hcrc, hlen, hid, hcls, ⟨hreason, hreason'⟩, hruns, hruns', hpayload, hprefixes, hplaces, hrepeats⟩

/-! ### The next extent -/

section
variable {s : State} {t : TargetNo} {c : Scan}

/-- The scan stands at the next extent, with nothing read of it. -/
def Target.scanWaits (k : Target) (c : Scan) : Target :=
  { k with scan := some { c with extent := c.extent + 1, buf := [] }, xfer := none }

theorem Target.readUnitZero_waits (k : Target) (c : Scan) : (k.scanWaits c).readUnitZero (c.extent + 1)
    = { k.scanWaits c with
        xfer := match k.unitSize, k.gather with
          | some unit, some gather => some
              { kind := .scan, extent := c.extent + 1, first := 0, beats := 1, unitSize := unit, gather := gather, beat := 0,
                ackMs := k.ackMs, image := [], cut := false }
          | _, _ => none } := by
  unfold Target.readUnitZero Target.scanWaits
  dsimp only
  cases k.unitSize <;> cases k.gather <;> rfl

/-- R87: the end of a scan made in RUNNING. -/
theorem State.scanFinish_eq (s : State) (t : TargetNo) (c : Scan) : (s.withTarget t ((s.target t).scanWaits c)).scanFinish t c
    = (let k := s.target t
       let online := s.withTarget t { k with state := .online, faults := 0, scan := none, xfer := none }
       let told := if k.state = .scanning ∨ k.state = .offline then online.pended 3 (be 1 t.val ++ named 3) else online
       let up := told.strandedReturned
       match c.reply with
       | none => up
       | some r => up.settledWith r.tag .done r.clamped (r.figures ++ [ExtentState.written, .free, .bad].flatMap fun st =>
           be 4 ((k.map.getD []).countP fun y => y = st))) := by
  have honline : ((s.withTarget t ((s.target t).scanWaits c)).onTarget t fun k => { k with scan := none }).enterOnline t
      = (let k := s.target t
         let online := s.withTarget t { k with state := .online, faults := 0, scan := none, xfer := none }
         (if k.state = .scanning ∨ k.state = .offline then online.pended 3 (be 1 t.val ++ named 3) else online).strandedReturned) := by
    rw [State.enterOnline_eq, State.onTarget_withTarget, State.target_withTarget_same, State.withTarget_withTarget]
    rfl
  unfold State.scanFinish
  dsimp only
  rw [honline]
  dsimp only
  generalize hup : (if (s.target t).state = .scanning ∨ (s.target t).state = .offline then _ else _ : State).strandedReturned = up
  have hmap : (up.target t).map = (s.target t).map := by
    rw [← hup]
    show ((State.target (if _ then _ else _) t).map) = _
    split
    all_goals
      show ((State.withTarget s t _).target t).map = _
      rw [State.target_withTarget_same]
  cases c.reply with
  | none => rfl
  | some r =>
    dsimp only
    have hcounts : (up.target t).scanCounts = [ExtentState.written, .free, .bad].flatMap fun st =>
        be 4 (((s.target t).map.getD []).countP fun y => y = st) := by
      rw [← hmap]
      unfold Target.scanCounts Target.countExtents
      simp [List.countP_eq_length_filter]
    rw [hcounts]
    rfl

theorem mem_allTargets : ∀ v : TargetNo, v ∈ allTargets := by decide

/-- An extent has been classified, and the rebuild does not end with it. -/
theorem State.scanNext_eq (hscan : (s.target t).scan = some c) (hgoes : s.scanGoesOn t c) : s.scanNext t = s.scanMovedOn t := by
  have hwaits : ∀ k : Target, k.scan = some c → k = s.target t → s.onTarget t (fun k => { k with
      scan := some { c with extent := c.extent + 1, buf := [] }, xfer := none }) = s.withTarget t (k.scanWaits c) := by
    rintro k - rfl
    exact s.onTarget_eq t _
  have hextents : ∀ k : Target, ((s.withTarget t (k.scanWaits c)).target t).extents = k.extents := fun k => by
    rw [State.target_withTarget_same]
    rfl
  unfold State.scanNext State.scanMovedOn
  rw [hscan]
  dsimp only
  rw [hscan]
  dsimp only
  rw [hwaits _ hscan rfl, hextents]
  by_cases hlast : (s.target t).extents = some (c.extent + 1)
  · rw [if_pos hlast, if_pos hlast]
    by_cases hrebuild : c.rebuild = true
    · rw [if_pos hrebuild, if_pos hrebuild]
      obtain ⟨v, k, hv, hk, hkr, hkx⟩ := (hgoes.resolve_left (by simp [hrebuild])).resolve_left (by simp [hlast])
      have hkept : (s.withTarget t ((s.target t).scanWaits c)).target v = s.target v :=
        (State.target_withTarget _ _ _ _).trans (if_neg hv)
      refine if_neg fun hall => ?_
      have hdone := List.all_eq_true.mp hall v (List.mem_filter.mpr ⟨mem_allTargets v, ?_⟩)
      · rw [hkept, Target.rebuildDone, hk] at hdone
        simp [hkr, hkx] at hdone
      · rw [hkept, hk]
        exact hkr
    · rw [if_neg hrebuild, if_neg hrebuild]
      exact s.scanFinish_eq t c
  · rw [if_neg hlast, if_neg hlast, State.onTarget_withTarget, Target.readUnitZero_waits]
    rfl

/-! ### Beats of a scan -/

variable {x : Xfer} {data : List Byte}

theorem State.acceptBeat_scan (hx : (s.target t).xfer = some x) (hk : x.kind = .scan) (hlen : data.length = x.unitSize) :
    s.acceptBeat t data = s.scanAccept t x data := by
  unfold State.acceptBeat
  rw [hx]
  dsimp only
  rw [hk]
  exact if_pos hlen

theorem beatAccept_scan (hx : (s.target t).xfer = some x) (hk : x.kind = .scan) (hscan : (s.target t).scan = some c)
    (hlen : data.length = x.unitSize) : beatAccept t .live data s = if x.first = 0 then s.scanUnitZero t c x data
      else
        let u := s.onTarget t fun k => { k with scan := some { c with buf := c.buf ++ data } }
        if x.beat + 1 < x.beats then
          u.onTarget t fun k => { k with xfer := some { x with beat := x.beat + 1, ackMs := k.ackMs } }
        else u.scanToCoder t := by
  refine (State.acceptBeat_scan hx hk hlen).trans ?_
  unfold State.scanAccept
  rw [hscan]

theorem State.failBeat_scan (hk : x.kind = .scan) (cause : ReadCause) : s.failBeat t x cause = s.scanNext t := by
  unfold State.failBeat
  rw [hk]

/-- The image of a scan has been read. -/
theorem State.scanToCoder_eq (buf : List Byte) :
    (s.onTarget t fun k => { k with scan := some { c with buf := buf } }).scanToCoder t
      = { s.withTarget t { s.target t with scan := some { c with buf := buf }, xfer := none } with
          coder := s.coder ++ [.scan t] } := by
  unfold State.scanToCoder
  rw [State.onTarget_eq s t, State.onTarget_withTarget]
  rfl

/-- What a change of the target under scan leaves of where the scan stands. -/
theorem State.scanGoesOn.withTarget {k : Target} (h : s.scanGoesOn t c) (hextents : k.extents = (s.target t).extents) :
    (s.withTarget t k).scanGoesOn t c := by
  unfold State.scanGoesOn
  rw [State.target_withTarget_same, hextents]
  refine h.imp_right fun h => h.imp_right ?_
  rintro ⟨v, j, hv, hj⟩
  refine ⟨v, j, hv, ?_⟩
  rw [(State.target_withTarget s t v k).trans (if_neg hv)]
  exact hj

end

/-- A beat of a scan fails. -/
theorem scan_beatFails {s : State} {t : TargetNo} {c : Scan} {x : Xfer} (hscan : (s.target t).scan = some c)
    (hx : (s.target t).xfer = some x) (hk : x.kind = .scan) (hgoes : s.scanGoesOn t c) :
    exec (.beatError t .live) s = .next (s.scanMovedOn t)
    ∧ exec (.ackTimerExpiry t .beat) s
      = .next ((s.withTarget t { s.target t with expired := (s.target t).expired + 1 }).scanMovedOn t) := by
  constructor
  · refine congrArg Host.Outcome.next ((beatError_live hx).trans ?_)
    rw [State.failBeat_scan hk, State.scanNext_eq hscan hgoes]
  · refine congrArg Host.Outcome.next ((ackTimerExpiry_beat hx).trans ?_)
    rw [State.failBeat_scan hk]
    refine State.scanNext_eq (c := c) ?_ (State.scanGoesOn.withTarget hgoes rfl)
    rw [State.target_withTarget_same]
    exact hscan

/-- A scan classifies its extents, in the words of O42. -/
theorem scan_classifies {s : State} {t : TargetNo} {c : Scan} {x : Xfer} {data : List Byte}
    (hscan : (s.target t).scan = some c) (hx : (s.target t).xfer = some x) (hk : x.kind = .scan)
    (hgoes : s.scanGoesOn t c) (hlen : data.length = x.unitSize) (hfirst : x.first = 0) :
    ((∀ b ∈ data, b = 255) → exec (.beatAccept t .live data) s = .next ((s.withTarget t { s.target t with
        map := (s.target t).map.map fun m => m.set c.extent .free }).scanMovedOn t))
    ∧ ((∃ b ∈ data, b ≠ 255) → ¬ SoundUnit data → exec (.beatAccept t .live data) s = .next (s.scanMovedOn t))
    ∧ ((∃ b ∈ data, b ≠ 255) → SoundUnit data →
      let beats : Nat := (512 + fieldAt data 12 4 + x.unitSize - 1) / x.unitSize
      (beats ≤ 1 → exec (.beatAccept t .live data) s = .next
        { s.withTarget t { s.target t with scan := some { c with buf := data }, xfer := none } with
          coder := s.coder ++ [.scan t] })
      ∧ (1 < beats → exec (.beatAccept t .live data) s = .next (s.withTarget t { s.target t with
          scan := some { c with buf := data }
          xfer := some { x with first := 1, beats := beats, beat := 1, ackMs := (s.target t).ackMs } }))) := by
  have hexec : exec (.beatAccept t .live data) s = .next (s.scanUnitZero t c x data) :=
    congrArg Host.Outcome.next ((beatAccept_scan hx hk hscan hlen).trans (if_pos hfirst))
  have herased : erasedPattern data = true ↔ ∀ b ∈ data, b = 255 := by simp [erasedPattern]
  have hwritten : (∃ b ∈ data, b ≠ 255) → ¬ erasedPattern data = true := by
    rintro ⟨b, hb, hne⟩ h
    exact hne (herased.mp h b hb)
  refine ⟨fun hall => ?_, fun hsome hunsound => ?_, fun hsome hsound => ?_⟩
  · rw [hexec, State.scanUnitZero, if_pos (herased.mpr hall), State.onTarget_eq]
    refine congrArg Host.Outcome.next (State.scanNext_eq (c := c) ?_ (State.scanGoesOn.withTarget hgoes rfl))
    rw [State.target_withTarget_same]
    exact hscan
  · rw [hexec, State.scanUnitZero, if_neg (hwritten hsome), if_pos (mt (soundHeader_iff data).mp hunsound),
      State.scanNext_eq hscan hgoes]
  · have hunit : s.scanUnitZero t c x data
        = (let beats := beatsFor x.unitSize (readHeader data).payloadLen
           let u := s.onTarget t fun k => { k with scan := some { c with buf := data } }
           if beats ≤ 1 then u.scanToCoder t
           else u.onTarget t fun k => { k with xfer := some { x with first := 1, beats := beats, beat := 1, ackMs := k.ackMs } }) := by
      unfold State.scanUnitZero
      rw [if_neg (hwritten hsome), if_neg (not_not.mpr ((soundHeader_iff data).mpr hsound))]
    rw [hexec, hunit]
    refine ⟨fun hone => congrArg Host.Outcome.next ((if_pos hone).trans (State.scanToCoder_eq data)),
      fun hmore => congrArg Host.Outcome.next ((if_neg (Nat.not_le.mpr hmore)).trans ?_)⟩
    rw [State.onTarget_eq s t, State.onTarget_withTarget]
    rfl

/-- The rest of a sound image is read. -/
theorem scan_collects {s : State} {t : TargetNo} {c : Scan} {x : Xfer} {data : List Byte}
    (hscan : (s.target t).scan = some c) (hx : (s.target t).xfer = some x) (hk : x.kind = .scan)
    (hlen : data.length = x.unitSize) (hfirst : x.first ≠ 0) :
    (x.beat + 1 < x.beats → exec (.beatAccept t .live data) s = .next (s.withTarget t { s.target t with
      scan := some { c with buf := c.buf ++ data }
      xfer := some { x with beat := x.beat + 1, ackMs := (s.target t).ackMs } }))
    ∧ (x.beats ≤ x.beat + 1 → exec (.beatAccept t .live data) s = .next
      { s.withTarget t { s.target t with scan := some { c with buf := c.buf ++ data }, xfer := none } with
        coder := s.coder ++ [.scan t] }) := by
  have haccept := (beatAccept_scan hx hk hscan hlen).trans (if_neg hfirst)
  refine ⟨fun hmore => congrArg Host.Outcome.next (haccept.trans ((if_pos hmore).trans ?_)),
    fun hlast => congrArg Host.Outcome.next (haccept.trans ((if_neg (Nat.not_lt.mpr hlast)).trans
      (State.scanToCoder_eq (c.buf ++ data))))⟩
  rw [State.onTarget_eq s t, State.onTarget_withTarget]

end Sys2Proof.Machine
end

section
/-! Entries made of scanned images (R87, R176). -/

namespace Sys2Proof.Machine

/-! ### The Directory behind an insertion -/

theorem insertEntry_eq (e : SegEntry) {d : List SegEntry} (hnone : d.find? (fun y => decide (y.id = e.id)) = none) :
    insertEntry e d = d.takeWhile (fun y => y.id < e.id) ++ [e] ++ d.dropWhile fun y => y.id < e.id := by
  induction d with
  | nil => rfl
  | cons y d ih =>
    rw [List.find?_cons] at hnone
    split at hnone
    · cases hnone
    next hy =>
    have hne : y.id ≠ e.id := of_decide_eq_false hy
    unfold insertEntry
    rw [List.takeWhile_cons, List.dropWhile_cons]
    by_cases hless : y.id < e.id
    · rw [if_neg (by omega), if_pos (decide_eq_true hless), if_pos (decide_eq_true hless), ih hnone]
      rfl
    · rw [if_pos (by omega), if_neg (by simpa using hless), if_neg (by simpa using hless)]
      rfl

theorem find?_removeEntry {id j : Nat} (d : List SegEntry) : (removeEntry id d).find? (fun y => decide (y.id = j))
    = if j = id then none else d.find? fun y => decide (y.id = j) := by
  unfold removeEntry
  rw [List.find?_filter]
  by_cases hj : j = id
  · rw [if_pos hj, List.find?_eq_none]
    intro y _
    simp [hj]
  · rw [if_neg hj]
    refine congrArg (List.find? · d) (funext fun y => ?_)
    by_cases hy : y.id = j
    · simp [hy, hj]
    · simp [hy]

/-! ### What the next extent leaves alone -/

section
variable {s : State} {t : TargetNo} {c : Scan}

/-- What the move to the next extent leaves: maps, tables and the still part, the entries but for STRANDED ones. -/
structure State.ScanMoved (s : State) (t : TargetNo) (u : State) : Prop where
  map : (u.target t).map = (s.target t).map
  others : ∀ v, v ≠ t → u.target v = s.target v
  entries : ∀ id e, s.entry? id = some e → e.state ≠ .stranded → u.entry? id = some e
  builder : u.builder = s.builder
  tracker : u.tracker = s.tracker
  coder : u.coder = s.coder
  still : u.still = s.still

namespace State.ScanMoved

variable {u : State}

theorem refl (s : State) (t : TargetNo) : s.ScanMoved t s :=
  ⟨rfl, fun _ _ => rfl, fun _ _ h _ => h, rfl, rfl, rfl, rfl⟩

theorem withTarget {k : Target} (hmap : k.map = (s.target t).map) : s.ScanMoved t (s.withTarget t k) :=
  ⟨by rw [State.target_withTarget_same, hmap], fun _ hv => (State.target_withTarget s _ _ k).trans (if_neg hv),
    fun _ _ h _ => h, rfl, rfl, rfl, rfl⟩

theorem pended (h : s.ScanMoved t u) (i : Fin 8) (snapshot : List Byte) : s.ScanMoved t (u.pended i snapshot) :=
  ⟨h.map, h.others, h.entries, h.builder, h.tracker, h.coder, h.still⟩

theorem strandedReturned (h : s.ScanMoved t u) : s.ScanMoved t u.strandedReturned :=
  ⟨h.map, h.others, fun id e he hst => State.strandedReturned_entry? u (h.entries id e he hst) hst, h.builder, h.tracker,
    h.coder, h.still⟩

theorem settledWith (h : s.ScanMoved t u) (tag : Tag) (result : Result) (clamped : Bool) (figures : List Byte) :
    s.ScanMoved t (u.settledWith tag result clamped figures) :=
  ⟨h.map, h.others, h.entries, h.builder, h.tracker, h.coder, h.still⟩

end State.ScanMoved

theorem State.scanMoved (s : State) (t : TargetNo) : s.ScanMoved t (s.scanMovedOn t) := by
  unfold State.scanMovedOn
  dsimp only
  split
  · exact .refl s t
  split
  · split
    · exact .withTarget rfl
    have hended : ∀ k : Target, k.map = (s.target t).map →
        s.ScanMoved t (if (s.target t).state = .scanning ∨ (s.target t).state = .offline then
          (s.withTarget t k).pended 3 (be 1 t.val ++ named 3) else s.withTarget t k).strandedReturned := fun k hk => by
      split
      · exact ((State.ScanMoved.withTarget hk).pended _ _).strandedReturned
      · exact (State.ScanMoved.withTarget hk).strandedReturned
    split
    · exact hended _ rfl
    · refine State.ScanMoved.settledWith ?_ _ _ _ _
      exact hended _ rfl
  · exact .withTarget rfl

/-- With an extent left the next is read, and the Directory stays. -/
theorem State.scanMovedOn_dir (hscan : (s.target t).scan = some c) (hmore : (s.target t).extents ≠ some (c.extent + 1)) :
    (s.scanMovedOn t).dir = s.dir := by
  unfold State.scanMovedOn
  dsimp only
  rw [hscan]
  dsimp only
  rw [if_neg hmore]
  rfl

/-! ### Walked images -/

/-- R87, R176: the image of a scan has been walked. -/
theorem decodeComplete_scan {cs : List CoderJob} (hcoder : s.coder = .scan t :: cs) (hscan : (s.target t).scan = some c) :
    decodeComplete s = State.scanNext (match decodeImage c.buf with
      | .error _ => { s with coder := cs }
      | .ok ds =>
        let e := scannedEntry (readHeader c.buf) ds t c.extent (s.requestsFor (readHeader c.buf).segId)
        if c.rebuild then State.rebuildEntry { s with coder := cs } t e c.extent
        else State.runningEntry { s with coder := cs } t e c.extent) t := by
  unfold decodeComplete
  rw [hcoder]
  show State.scanWalked { s with coder := cs } t = _
  unfold State.scanWalked
  rw [show (State.target { s with coder := cs } t).scan = some c from hscan]
  dsimp only
  cases decodeImage c.buf <;> rfl

/-- An entry made, with its extent WRITTEN (R176). -/
theorem State.makeEntry_eq (e : SegEntry) (x : Nat) (hscan : (s.target t).scan = some c) : s.makeEntry t e x
    = { s.withTarget t { s.target t with
          map := (s.target t).map.map fun m => m.set x .written
          scan := some { c with made := c.made ++ [e.id] } } with
        dir := insertEntry e s.dir } := by
  unfold State.makeEntry
  rw [State.onTarget_eq]
  have htarget : (s.onDir (insertEntry e)).target t = s.target t := rfl
  rw [htarget, Target.setExtent]
  dsimp only
  rw [hscan]
  rfl

/-- The entry that a scan in RUNNING makes, with the next segment id and the day's flag (R87). -/
theorem State.runningEntry_made {e : SegEntry} {x : Nat} (hscan : (s.target t).scan = some c)
    (hnone : s.entry? e.id = none) (hroom : s.dir.length < 4194304) : s.runningEntry t e x
      = { s.withTarget t { s.target t with
            map := (s.target t).map.map fun m => m.set x .written
            scan := some { c with made := c.made ++ [e.id] } } with
          dir := s.dir.takeWhile (fun y => y.id < e.id) ++ [e] ++ s.dir.dropWhile fun y => y.id < e.id
          builder := { s.builder with nextId := s.builder.nextId.bind fun n =>
            if n ≤ e.id then (if 4294967295 ≤ e.id then none else some (e.id + 1)) else some n }
          tracker := if s.day? e.day = none then
              { s.tracker with settled := s.tracker.settled ||| BitVec.twoPow 65536 e.day }
            else s.tracker } := by
  have hnext : nextIdAfterScan e.id s.builder.nextId = s.builder.nextId.bind fun n =>
      if n ≤ e.id then (if 4294967295 ≤ e.id then none else some (e.id + 1)) else some n := by
    cases s.builder.nextId <;> rfl
  rw [← hnext]
  unfold State.runningEntry
  rw [if_neg (by rw [hnone]; simpa [Config.dirCap] using hroom), State.makeEntry_eq e x hscan, insertEntry_eq e hnone]
  dsimp only
  cases hd : s.day? e.day with
  | none =>
    refine (if_neg ?_).trans rfl
    show ¬ (s.day? e.day).isSome = true
    rw [hd]
    exact Bool.false_ne_true
  | some d =>
    refine (if_pos ?_).trans rfl
    show (s.day? e.day).isSome = true
    rw [hd]
    rfl

theorem State.runningEntry_refused {e : SegEntry} {x : Nat} (h : s.entry? e.id ≠ none ∨ 4194304 ≤ s.dir.length) :
    s.runningEntry t e x = s := by
  unfold State.runningEntry
  exact if_pos (h.imp_left Option.isSome_iff_ne_none.mpr)

end

end Sys2Proof.Machine
end

section
namespace Sys2Proof.Machine

/-- The entry made of a walked image, in the words of the statements. -/
def entryWalked (s : State) (t : TargetNo) (c : Scan) (ds : List DecRun) : SegEntry :=
  let h := readHeader c.buf
  { id := h.segId, cls := Fin.ofNat 16 h.cls, day := h.day, state := .stored, group := h.group,
    generation := h.generation, place := some (t, c.extent), payloadLen := h.payloadLen,
    recordCount := (ds.map fun d => if d.firm then d.count else 0).sum,
    runs := ds.map fun d =>
      { source := d.source, slot := d.slot, status := if d.firm then .firm else .void,
        continued := d.statusOctet.testBit 7, count := d.count, digest := some (BitVec.ofNat 32 d.digest),
        firstSeq := d.firstSeq, lane := none },
    segDigest := some (BitVec.ofNat 32 h.digest), sealReason := sealOfCode h.reason, attempts := 0,
    verifyCount := 0, lastVerified := none, suspect := false,
    pins := s.audit.requests.countP fun r => r.segId = h.segId }

theorem scannedEntry_eq (s : State) (t : TargetNo) (c : Scan) (ds : List DecRun) :
    scannedEntry (readHeader c.buf) ds t c.extent (s.requestsFor (readHeader c.buf).segId) = entryWalked s t c ds := by
  rfl

section
variable {s : State} {t : TargetNo} {c : Scan} {cs : List CoderJob} {ds : List DecRun}

/-- A walk that finds the image malformed leaves its extent BAD (R176). -/
theorem scan_malformed (hscan : (s.target t).scan = some c) (hgoes : s.scanGoesOn t c) (hcoder : s.coder = .scan t :: cs)
    {f : Finding} (hf : decodeImage c.buf = .error f) :
    exec .decodeComplete s = .next (({ s with coder := cs } : State).scanMovedOn t) := by
  refine congrArg Host.Outcome.next ((decodeComplete_scan hcoder hscan).trans ?_)
  rw [hf]
  exact State.scanNext_eq (s := { s with coder := cs }) hscan hgoes

/-! ### A scan made in RUNNING -/

theorem scan_refused (hscan : (s.target t).scan = some c) (hrebuild : c.rebuild = false)
    (hcoder : s.coder = .scan t :: cs) (hds : decodeImage c.buf = .ok ds)
    (hrefused : s.entry? (readHeader c.buf).segId ≠ none ∨ 4194304 ≤ s.dir.length) :
    exec .decodeComplete s = .next (({ s with coder := cs } : State).scanMovedOn t) := by
  refine congrArg Host.Outcome.next ((decodeComplete_scan hcoder hscan).trans ?_)
  rw [hds]
  dsimp only
  rw [if_neg (by simp [hrebuild]), scannedEntry_eq,
    State.runningEntry_refused (s := { s with coder := cs }) (e := entryWalked s t c ds) hrefused]
  exact State.scanNext_eq (s := { s with coder := cs }) hscan (.inl hrebuild)

/-- The state with the entry of a walked image made (R87). -/
def State.walked (s : State) (t : TargetNo) (c : Scan) (cs : List CoderJob) (e : SegEntry) : State :=
  { ({ s with coder := cs } : State).withTarget t { s.target t with
      map := (s.target t).map.map fun m => m.set c.extent .written
      scan := some { c with made := c.made ++ [e.id] } } with
    dir := s.dir.takeWhile (fun y => y.id < e.id) ++ [e] ++ s.dir.dropWhile fun y => y.id < e.id
    builder := { s.builder with nextId := s.builder.nextId.bind fun n =>
      if n ≤ e.id then (if 4294967295 ≤ e.id then none else some (e.id + 1)) else some n }
    tracker := if s.day? e.day = none then
        { s.tracker with settled := s.tracker.settled ||| BitVec.twoPow 65536 e.day }
      else s.tracker }

theorem scan_made (hscan : (s.target t).scan = some c) (hrebuild : c.rebuild = false)
    (hcoder : s.coder = .scan t :: cs) (hds : decodeImage c.buf = .ok ds)
    (hnone : s.entry? (readHeader c.buf).segId = none) (hroom : s.dir.length < 4194304) :
    exec .decodeComplete s = .next ((s.walked t c cs (entryWalked s t c ds)).scanMovedOn t) := by
  refine congrArg Host.Outcome.next ((decodeComplete_scan hcoder hscan).trans ?_)
  rw [hds]
  dsimp only
  rw [if_neg (by simp [hrebuild]), scannedEntry_eq,
    State.runningEntry_made (s := { s with coder := cs }) (c := c) (e := entryWalked s t c ds) hscan hnone hroom]
  refine State.scanNext_eq (s := s.walked t c cs (entryWalked s t c ds))
    (c := { c with made := c.made ++ [(entryWalked s t c ds).id] }) ?_ (.inl hrebuild)
  show ((State.withTarget { s with coder := cs } t _).target t).scan = _
  rw [State.target_withTarget_same]

theorem State.walked_entry? {e : SegEntry} (hnone : s.entry? e.id = none) :
    (s.walked t c cs e).entry? e.id = some e := by
  unfold State.entry? State.walked
  dsimp only
  rw [← insertEntry_eq e hnone, find?_insertEntry e s.dir hnone, if_pos rfl]

theorem State.walked_isSettled {e : SegEntry} (d : Nat) : (s.walked t c cs e).isSettled d
    = (s.isSettled d || (decide (s.day? e.day = none) && (decide (d < 65536) && decide (d = e.day)))) := by
  unfold State.walked
  by_cases hday : s.day? e.day = none
  · rw [if_pos hday, decide_eq_true hday, Bool.true_and]
    exact s.isSettled_settleFlag e.day d
  · rw [if_neg hday, decide_eq_false hday, Bool.false_and, Bool.or_false]
    rfl

/-! ### A scan of the rebuild -/

theorem scan_rebuilt (hscan : (s.target t).scan = some c) (hrebuild : c.rebuild = true)
    (hmore : (s.target t).extents ≠ some (c.extent + 1)) (hcoder : s.coder = .scan t :: cs)
    (hds : decodeImage c.buf = .ok ds) {u : State}
    (hu : State.rebuildEntry { s with coder := cs } t (entryWalked s t c ds) c.extent = u) {c' : Scan}
    (hscan' : (u.target t).scan = some c') (hextent : c'.extent = c.extent)
    (hextents : (u.target t).extents = (s.target t).extents) :
    exec .decodeComplete s = .next (u.scanMovedOn t) ∧ (u.scanMovedOn t).dir = u.dir := by
  have hmore' : (u.target t).extents ≠ some (c'.extent + 1) := by
    rw [hextents, hextent]
    exact hmore
  refine ⟨congrArg Host.Outcome.next ((decodeComplete_scan hcoder hscan).trans ?_), State.scanMovedOn_dir hscan' hmore'⟩
  rw [hds]
  dsimp only
  rw [if_pos hrebuild, scannedEntry_eq, hu]
  exact State.scanNext_eq hscan' (.inr (.inl hmore'))

/-- The part of O42 on a scan made in RUNNING. -/
theorem scan_running (hscan : (s.target t).scan = some c) (hrebuild : c.rebuild = false) {m : List ExtentState}
    (hcoder : s.coder = .scan t :: cs) (hds : decodeImage c.buf = .ok ds)
    (hnone : s.entry? (readHeader c.buf).segId = none) (hroom : s.dir.length < 4194304) (hmap : (s.target t).map = some m)
    (hday : (readHeader c.buf).day < 65536) : ∃ u, exec .decodeComplete s = .next u
      ∧ u.entry? (readHeader c.buf).segId = some (entryWalked s t c ds)
      ∧ (u.target t).map = some (m.set c.extent .written)
      ∧ (∀ n, s.builder.nextId = some n → u.builder.nextId = (if n ≤ (readHeader c.buf).segId then
          (if 4294967295 ≤ (readHeader c.buf).segId then none else some ((readHeader c.buf).segId + 1)) else some n))
      ∧ (s.day? (readHeader c.buf).day = none → u.isSettled (readHeader c.buf).day = true)
      ∧ (∀ d, d ≠ (readHeader c.buf).day ∨ s.day? (readHeader c.buf).day ≠ none → u.isSettled d = s.isSettled d)
      ∧ u.coder = cs ∧ u.clock = s.clock ∧ u.hold = s.hold ∧ u.tables = s.tables := by
  refine ⟨_, scan_made hscan hrebuild hcoder hds hnone hroom, ?_⟩
  generalize he : entryWalked s t c ds = e
  have hid : e.id = (readHeader c.buf).segId := by rw [← he]; rfl
  have heday : e.day = (readHeader c.buf).day := by rw [← he]; rfl
  have hstored : e.state ≠ .stranded := by rw [← he]; exact nofun
  obtain ⟨hmoved, -, hentries, hbuilder, htracker, hcoder', hstill⟩ := (s.walked t c cs e).scanMoved t
  obtain ⟨-, -, hclock, htables, hhold⟩ := State.still_eq hstill
  have hsettled : ∀ d, ((s.walked t c cs e).scanMovedOn t).isSettled d = (s.walked t c cs e).isSettled d := fun d => by
    unfold State.isSettled
    rw [htracker]
  rw [← hid] at hnone ⊢
  rw [← heday] at hday ⊢
  refine ⟨hentries _ _ (State.walked_entry? hnone) hstored, ?_, fun n hn => ?_, fun hnew => ?_, fun d hd => ?_, hcoder', hclock,
    hhold, htables⟩
  · refine hmoved.trans ((congrArg Target.map (State.target_withTarget_same ({ s with coder := cs } : State) t _)).trans ?_)
    rw [hmap]
    rfl
  · rw [hbuilder]
    show s.builder.nextId.bind _ = _
    rw [hn]
    rfl
  · rw [hsettled, State.walked_isSettled]
    simp [hnew, hday]
  · rw [hsettled, State.walked_isSettled]
    rcases hd with hd | hd <;> simp [hd]

/-! ### A scan of the rebuild finds its entry -/

/-- The part of O42 on the rebuild, for an id that no entry has. -/
theorem State.rebuildEntry_new (hscan : (s.target t).scan = some c) {e : SegEntry} (hnone : s.entry? e.id = none) :
    State.rebuildEntry { s with coder := cs } t e c.extent
      = { ({ s with coder := cs } : State).withTarget t { s.target t with
            map := (s.target t).map.map fun m => m.set c.extent .written
            scan := some { c with made := c.made ++ [e.id] } } with
          dir := insertEntry e s.dir } := by
  unfold State.rebuildEntry
  rw [show State.entry? { s with coder := cs } e.id = none from hnone]
  exact State.makeEntry_eq (s := { s with coder := cs }) e c.extent hscan

/-- Target `v` with extent `x` BAD, as the withdrawal of a duplicate leaves it. -/
def State.withdrawn (s : State) (id : Nat) (v : TargetNo) (x : Nat) : State :=
  { s.withTarget v { s.target v with map := (s.target v).map.map fun m => m.set x .bad } with dir := removeEntry id s.dir }

theorem State.withdrawn_eq (id : Nat) (v : TargetNo) (x : Nat) :
    (s.onDir (removeEntry id)).onTarget v (Target.setExtent x .bad) = s.withdrawn id v x := by
  rw [State.onTarget_eq]
  rfl

/-- Of two extents with one id the one that comes later is withdrawn (R176). -/
theorem State.rebuildEntry_duplicate {e old : SegEntry} {v : TargetNo} {x : Nat} (hold : s.entry? e.id = some old)
    (hplace : old.place = some (v, x)) : s.rebuildEntry t e c.extent
      = if t < v ∨ t = v ∧ c.extent < x then (s.withdrawn e.id v x).makeEntry t e c.extent else s := by
  have hbefore : placeBefore (t, c.extent) (v, x) = true ↔ t < v ∨ t = v ∧ c.extent < x := by
    simp [placeBefore]
  unfold State.rebuildEntry
  rw [hold]
  dsimp only
  rw [hplace]
  dsimp only
  by_cases h : t < v ∨ t = v ∧ c.extent < x
  · rw [if_pos (hbefore.mpr h), if_pos h, State.withdrawn_eq]
  · rw [if_neg (mt hbefore.mp h), if_neg h]

theorem Target.extent?_setExtent (k : Target) (x y : Nat) (st : ExtentState) : (Target.setExtent x st k).extent? y
    = if y = x then (k.extent? y).map fun _ => st else k.extent? y := by
  unfold Target.setExtent Target.extent?
  cases k.map with
  | none => simp
  | some m =>
    simp only [Option.map_some, Option.bind_some, List.getElem?_set]
    by_cases hy : y = x
    · subst hy
      rw [if_pos rfl, if_pos rfl]
      by_cases hlen : y < m.length
      · rw [if_pos hlen, List.getElem?_eq_getElem hlen]
        rfl
      · rw [if_neg hlen, List.getElem?_eq_none (Nat.not_lt.mp hlen)]
        rfl
    · rw [if_neg (Ne.symm hy), if_neg hy]

theorem State.withdrawn_target (id : Nat) (v w : TargetNo) (x : Nat) : (s.withdrawn id v x).target w
    = if w = v then Target.setExtent x .bad (s.target v) else s.target w := State.target_withTarget s v w _

/-- The later of two extents with one id gives way (R176). -/
theorem State.withdrawn_made {e : SegEntry} {v : TargetNo} {x : Nat} (hscan : (s.target t).scan = some c) :
    (s.withdrawn e.id v x).makeEntry t e c.extent
      = { (s.withdrawn e.id v x).withTarget t { Target.setExtent c.extent .written ((s.withdrawn e.id v x).target t) with
            scan := some { c with made := c.made ++ [e.id] } } with
          dir := insertEntry e (removeEntry e.id s.dir) } := by
  refine State.makeEntry_eq (s := s.withdrawn e.id v x) e c.extent ?_
  rw [State.withdrawn_target]
  split
  next h =>
    rw [← h]
    exact hscan
  · exact hscan

/-- What a scan of the rebuild leaves of an id that an entry of another extent has. -/
theorem State.withdrawn_made_spec {e : SegEntry} {v : TargetNo} {x : Nat} (hscan : (s.target t).scan = some c)
    (hbefore : t < v ∨ t = v ∧ c.extent < x) (hextent : (s.target t).extent? c.extent ≠ none) {u : State}
    (hu : (s.withdrawn e.id v x).makeEntry t e c.extent = u) :
    (∀ id, u.entry? id = if id = e.id then some e else s.entry? id)
    ∧ (u.target t).extent? c.extent = some .written
    ∧ ((s.target v).extent? x ≠ none → (u.target v).extent? x = some .bad)
    ∧ (u.target t).scan = some { c with made := c.made ++ [e.id] }
    ∧ (u.target t).extents = (s.target t).extents ∧ u.tracker = s.tracker ∧ u.builder = s.builder ∧ u.coder = s.coder := by
  rw [State.withdrawn_made hscan] at hu
  have hentry : ∀ id, u.entry? id = if id = e.id then some e else s.entry? id := fun id => by
    rw [← hu]
    refine (find?_insertEntry e _ ?_ id).trans ?_
    · rw [find?_removeEntry, if_pos rfl]
    · rw [find?_removeEntry]
      by_cases hid : id = e.id
      · rw [if_pos hid, if_pos hid]
      · rw [if_neg hid, if_neg hid, if_neg hid]
        rfl
  have htarget : u.target t = { Target.setExtent c.extent .written ((s.withdrawn e.id v x).target t) with
      scan := some { c with made := c.made ++ [e.id] } } := by
    rw [← hu]
    exact vget_vset_same _ _ _
  have hothers : ∀ w, w ≠ t → u.target w = (s.withdrawn e.id v x).target w := fun w hw => by
    rw [← hu]
    exact (vget_vset _ _ _ _).trans (if_neg hw)
  have hread : ∀ y, (u.target t).extent? y = if y = c.extent then
      (((s.withdrawn e.id v x).target t).extent? y).map fun _ => .written
      else ((s.withdrawn e.id v x).target t).extent? y := fun y => by
    rw [htarget]
    exact Target.extent?_setExtent _ _ _ _
  have hbad : ((s.withdrawn e.id v x).target v).extent? x = ((s.target v).extent? x).map fun _ => .bad := by
    rw [State.withdrawn_target, if_pos rfl, Target.extent?_setExtent, if_pos rfl]
  refine ⟨hentry, ?_, fun hx => ?_, by rw [htarget], ?_, by rw [← hu]; rfl, by rw [← hu]; rfl, by rw [← hu]; rfl⟩
  · obtain ⟨st, hst⟩ := Option.ne_none_iff_exists'.mp hextent
    have hsome : ∃ st, ((s.withdrawn e.id v x).target t).extent? c.extent = some st := by
      rw [State.withdrawn_target]
      split
      next h =>
        rw [← h, Target.extent?_setExtent, hst]
        split
        · exact ⟨_, rfl⟩
        · exact ⟨_, rfl⟩
      · exact ⟨_, hst⟩
    obtain ⟨st', hst'⟩ := hsome
    rw [hread, if_pos rfl, hst']
    rfl
  · obtain ⟨st, hst⟩ := Option.ne_none_iff_exists'.mp hx
    rw [hst] at hbad
    rcases hbefore with hless | ⟨rfl, hless⟩
    · rw [hothers v (by rintro rfl; exact absurd hless (lt_irrefl _)), hbad]
      rfl
    · rw [hread, if_neg (by omega), hbad]
      rfl
  · rw [htarget]
    show ((s.withdrawn e.id v x).target t).extents = _
    rw [State.withdrawn_target]
    split
    next h => rw [h]; rfl
    · rfl

end

/-- The part of O42 on the rebuild, in the words of the statement. -/
theorem scan_rebuild {s : State} {t : TargetNo} {c : Scan} {cs : List CoderJob} {ds : List DecRun} {m : List ExtentState}
    (hscan : (s.target t).scan = some c) (hrebuild : c.rebuild = true) (hmore : (s.target t).extents ≠ some (c.extent + 1))
    (hcoder : s.coder = .scan t :: cs) (hds : decodeImage c.buf = .ok ds) (hmap : (s.target t).map = some m)
    (hlen : c.extent < m.length) {e : SegEntry} (he : entryWalked s t c ds = e) :
    ∃ u, exec .decodeComplete s = .next u ∧ u.coder = cs ∧ u.tracker = s.tracker ∧ u.builder = s.builder
      ∧ (∀ id, id ≠ e.id → u.entry? id = s.entry? id)
      ∧ (s.entry? e.id = none → u.entry? e.id = some e ∧ (u.target t).map = some (m.set c.extent .written)
          ∧ ∀ v, v ≠ t → u.target v = s.target v)
      ∧ ∀ old v x, s.entry? e.id = some old → old.place = some (v, x) →
        (t < v ∨ t = v ∧ c.extent < x → u.entry? e.id = some e
          ∧ (u.target t).extent? c.extent = some .written ∧ ((s.target v).extent? x ≠ none → (u.target v).extent? x = some .bad))
        ∧ (¬ (t < v ∨ t = v ∧ c.extent < x) → u.dir = s.dir ∧ (u.target t).map = some m
          ∧ ∀ w, w ≠ t → u.target w = s.target w) := by
  have hextent : (s.target t).extent? c.extent ≠ none := by
    unfold Target.extent?
    rw [hmap, Option.bind_some, List.getElem?_eq_getElem hlen]
    exact nofun
  have hrun : ∀ u c', State.rebuildEntry { s with coder := cs } t e c.extent = u → (u.target t).scan = some c' →
      c'.extent = c.extent → (u.target t).extents = (s.target t).extents →
      exec .decodeComplete s = .next (u.scanMovedOn t) ∧ (u.scanMovedOn t).dir = u.dir := fun u c' hu hscan' hc' hext => by
    subst he
    exact scan_rebuilt hscan hrebuild hmore hcoder hds hu hscan' hc' hext
  have hstays : State.rebuildEntry { s with coder := cs } t e c.extent = { s with coder := cs } →
      ∃ u, exec .decodeComplete s = .next u ∧ u.coder = cs ∧ u.tracker = s.tracker ∧ u.builder = s.builder ∧ u.dir = s.dir
        ∧ (u.target t).map = some m ∧ ∀ w, w ≠ t → u.target w = s.target w := fun hsame => by
    obtain ⟨hexec, hdir⟩ := hrun _ c hsame hscan rfl rfl
    obtain ⟨hmoved, hothers, -, hbuilder, htracker, hcoder', -⟩ := State.scanMoved { s with coder := cs } t
    exact ⟨_, hexec, hcoder', htracker, hbuilder, hdir, hmoved.trans hmap, hothers⟩
  cases hold : s.entry? e.id with
  | none =>
    have hu := State.rebuildEntry_new (cs := cs) hscan hold
    have htarget := State.target_withTarget_same ({ s with coder := cs } : State) t { s.target t with
      map := (s.target t).map.map fun m => m.set c.extent .written, scan := some { c with made := c.made ++ [e.id] } }
    generalize State.rebuildEntry { s with coder := cs } t e c.extent = u at hu hrun
    have hut : u.target t = _ := (congrArg (State.target · t) hu).trans htarget
    have hentry : ∀ id, u.entry? id = if id = e.id then some e else s.entry? id := fun id => by
      rw [hu]
      exact find?_insertEntry e s.dir hold id
    obtain ⟨hexec, hdir⟩ := hrun u { c with made := c.made ++ [e.id] } rfl (by rw [hut]) rfl (by rw [hut])
    obtain ⟨hmoved, hothers, -, hbuilder, htracker, hcoder', -⟩ := u.scanMoved t
    have hdirs : ∀ id, (u.scanMovedOn t).entry? id = u.entry? id := fun id => by
      unfold State.entry?
      rw [hdir]
    refine ⟨_, hexec, by rw [hcoder', hu]; rfl, by rw [htracker, hu]; rfl, by rw [hbuilder, hu]; rfl, fun id hid => ?_,
      fun _ => ⟨?_, ?_, fun v hv => ?_⟩, nofun⟩
    · rw [hdirs, hentry, if_neg hid]
    · rw [hdirs, hentry, if_pos rfl]
    · rw [hmoved, hut, hmap]
      rfl
    · rw [hothers v hv, hu]
      exact (State.target_withTarget _ _ _ _).trans (if_neg hv)
  | some old =>
    cases hplace : old.place with
    | none =>
      have hsame : State.rebuildEntry { s with coder := cs } t e c.extent = { s with coder := cs } := by
        unfold State.rebuildEntry
        rw [show State.entry? { s with coder := cs } e.id = some old from hold]
        dsimp only
        rw [hplace]
      obtain ⟨u, hexec, hcoder', htracker, hbuilder, hdir, -⟩ := hstays hsame
      refine ⟨u, hexec, hcoder', htracker, hbuilder, fun id _ => congrArg _ hdir, nofun, fun old' v x hold' hplace' => ?_⟩
      cases hold'
      rw [hplace] at hplace'
      cases hplace'
    | some place =>
      obtain ⟨v, x⟩ := place
      have hduplicate := State.rebuildEntry_duplicate (s := { s with coder := cs }) (t := t) (c := c) hold hplace
      by_cases hbefore : t < v ∨ t = v ∧ c.extent < x
      · rw [if_pos hbefore] at hduplicate
        obtain ⟨hentry, hwritten, hbad, hscan', hext, htracker, hbuilder, hcoder'⟩ :=
          State.withdrawn_made_spec (s := { s with coder := cs }) (e := e) (x := x) hscan hbefore hextent rfl
        obtain ⟨hexec, hdir⟩ := hrun _ _ hduplicate hscan' rfl hext
        generalize (State.withdrawn { s with coder := cs } e.id v x).makeEntry t e c.extent = u at *
        obtain ⟨hmoved, hothers, -, hbuilder', htracker', hcoder'', -⟩ := u.scanMoved t
        have hdirs : ∀ id, (u.scanMovedOn t).entry? id = u.entry? id := fun id => by
          unfold State.entry?
          rw [hdir]
        have hextents : ∀ w y, ((u.scanMovedOn t).target w).extent? y = (u.target w).extent? y := fun w y => by
          by_cases hw : w = t
          · unfold Target.extent?
            rw [hw, hmoved]
          · rw [hothers w hw]
        refine ⟨_, hexec, hcoder''.trans hcoder', htracker'.trans htracker, hbuilder'.trans hbuilder, fun id hid => ?_, nofun,
          fun old' v' x' hold' hplace' => ?_⟩
        · rw [hdirs, hentry, if_neg hid]
          rfl
        · cases hold'
          rw [hplace] at hplace'
          cases hplace'
          refine ⟨fun _ => ⟨?_, (hextents t c.extent).trans hwritten, fun hx => (hextents v x).trans (hbad hx)⟩,
            (absurd hbefore ·)⟩
          rw [hdirs, hentry, if_pos rfl]
      · rw [if_neg hbefore] at hduplicate
        obtain ⟨u, hexec, hcoder', htracker, hbuilder, hdir, hmap', hothers⟩ := hstays hduplicate
        refine ⟨u, hexec, hcoder', htracker, hbuilder, fun id _ => congrArg _ hdir, nofun,
          fun old' v' x' hold' hplace' => ?_⟩
        cases hold'
        rw [hplace] at hplace'
        cases hplace'
        exact ⟨(absurd · hbefore), fun _ => ⟨hdir, hmap', hothers⟩⟩

end Sys2Proof.Machine
end

section
/-! The end of the rebuild (R177). -/

namespace Sys2Proof.Machine

/-! ### Its targets come ONLINE -/

/-- The target as the end of its scan leaves it. -/
def Target.onlined (k : Target) : Target := { k with state := .online, faults := 0, scan := none }

section
variable {s u : State} {t : TargetNo}

/-- With STORED entries alone none returns to the Commit Queue. -/
theorem State.strandedReturned_stored (h : ∀ e ∈ s.dir, e.state = .stored) : s.strandedReturned = s := by
  have hnone : (s.dir.filter fun e => e.state = .stranded) = [] :=
    List.filter_eq_nil_iff.mpr fun e he => by simp [h e he]
  have hkept : (s.dir.map fun e => if e.state = .stranded then { e with state := .sealed, attempts := 0 } else e) = s.dir := by
    refine (List.map_congr_left fun e he => if_neg ?_).trans (List.map_id' _)
    rw [h e he]
    exact nofun
  unfold State.strandedReturned
  rw [hnone, hkept, List.map_nil, List.append_nil]

/-- The scan of a target ends, and it enters ONLINE. -/
def State.onlinedOne (s : State) (t : TargetNo) : State := (s.onTarget t fun k => { k with scan := none }).enterOnline t

theorem State.onlinedOne_eq (hst : (s.target t).state = .scanning) (hdir : ∀ e ∈ s.dir, e.state = .stored) :
    s.onlinedOne t = (s.withTarget t (s.target t).onlined).pended 3 (be 1 t.val ++ named 3) := by
  unfold State.onlinedOne
  rw [State.enterOnline_eq, State.onTarget_eq, State.target_withTarget_same, State.withTarget_withTarget]
  dsimp only
  rw [if_pos (Or.inl hst)]
  exact State.strandedReturned_stored hdir

/-- The targets `ts` have entered ONLINE, each with its notice. -/
structure State.Onlined (s : State) (ts : List TargetNo) (u : State) : Prop where
  targets : ∀ v, u.target v = if v ∈ ts then (s.target v).onlined else s.target v
  flag : ts ≠ [] → (vget u.notices.sources 3).flag = true
  rest : u = { s with targets := u.targets, notices := u.notices }

theorem State.foldl_onlinedOne {ts : List TargetNo} (hts : ts.Nodup) (hst : ∀ v ∈ ts, (s.target v).state = .scanning)
    (hdir : ∀ e ∈ s.dir, e.state = .stored) : s.Onlined ts (ts.foldl State.onlinedOne s) := by
  induction ts generalizing s with
  | nil => exact ⟨fun v => (if_neg List.not_mem_nil).symm, fun h => absurd rfl h, rfl⟩
  | cons t ts ih =>
    obtain ⟨ht, hts⟩ := List.nodup_cons.mp hts
    rw [List.foldl_cons, State.onlinedOne_eq (hst t List.mem_cons_self) hdir]
    have htarget : ∀ v, ((s.withTarget t (s.target t).onlined).pended 3 (be 1 t.val ++ named 3)).target v
        = if v = t then (s.target t).onlined else s.target v := fun v => State.target_withTarget s t v _
    obtain ⟨htargets, hflag, hrest⟩ := ih (s := (s.withTarget t (s.target t).onlined).pended 3 (be 1 t.val ++ named 3)) hts
      (fun v hv => by
        rw [htarget, if_neg (by rintro rfl; exact ht hv)]
        exact hst v (List.mem_cons_of_mem t hv)) hdir
    refine ⟨fun v => ?_, fun _ => ?_, hrest⟩
    · rw [htargets, htarget]
      by_cases hv : v = t
      · subst hv
        rw [if_neg ht, if_pos rfl, if_pos List.mem_cons_self]
      · rw [if_neg hv]
        simp [hv]
    · cases ts with
      | nil => exact (congrArg NoticeSource.flag (vget_vset_same _ _ _) :)
      | cons v vs => exact hflag (List.cons_ne_nil v vs)

/-- R78: with no buffer in use the flow state is GO while RUNNING. -/
theorem State.flowTested_idle (hengine : s.engine = .running) (hbuffers : s.builder.buffers = []) :
    s.flowTested.port.flow = .go := by
  unfold State.flowTested
  dsimp only
  rw [hbuffers, hengine]
  cases hflow : s.port.flow with
  | go => simp [hflow]
  | pause => simp

end

/-! ### The tables behind it -/

theorem settleDays_getLsbD (d : List SegEntry) (m : BitVec 65536) {day : Nat} (hday : day < 65536) :
    (settleDays d m).getLsbD day = true ↔ m.getLsbD day = true ∨ ∃ e ∈ d, e.day = day := by
  unfold settleDays
  induction d generalizing m with
  | nil => exact ⟨.inl, fun h => h.resolve_right fun ⟨_, he, _⟩ => nomatch he⟩
  | cons e d ih =>
    have hbit : e.day < 65536 ∧ e.day = day ↔ e.day = day := and_iff_right_of_imp fun h => h ▸ hday
    rw [List.foldl_cons, ih, BitVec.getLsbD_or, BitVec.getLsbD_twoPow, Bool.or_eq_true, Bool.and_eq_true, decide_eq_true_eq,
      decide_eq_true_eq, hbit, or_assoc, List.exists_mem_cons_iff]

/-- The next segment id and the Settlement Map as the entries made have them (R177). -/
def State.tabled (o : State) : State :=
  { o with
    builder := { o.builder with nextId := nextAfter (highestId o.dir) }
    tracker := { o.tracker with settled := settleDays o.dir o.tracker.settled } }

/-- What the end of the rebuild leaves, its targets ONLINE in `o` (R177). -/
def State.rebuilt (s o : State) (ts : List TargetNo) (r : ScanReply) : State :=
  let told := o.tabled.recorded
    { code := .rebuilt, state := .point, cause := none, source := none, day := none, slot := none, segId := none,
      target := none, figure := some s.dir.length, time := s.clock.reading }
  let running := ({ told with engine := .running } : State).flowTested
  (running.pended 7 (be 4 s.dir.length ++ be 4 o.onlineCount)).settledWith r.tag .done false (o.rebuildFigures ts)

theorem State.rebuildEnd_eq {s o : State} {ts : List TargetNo} {r : ScanReply} (hts : s.rebuildTargets = ts)
    (ho : s.Onlined ts o) (hfold : ts.foldl State.onlinedOne s = o)
    (hreply : (ts.filterMap fun t => (s.target t).scan.bind Scan.reply).head? = some r) :
    s.rebuildEnd = s.rebuilt o ts r := by
  unfold State.rebuildEnd
  rw [hts]
  dsimp only
  rw [hreply]
  have htables : s.rebuildTables ts = o.tabled := by
    unfold State.rebuildTables
    rw [← hfold]
    rfl
  rw [htables]
  have hclock : o.clock = s.clock := by rw [ho.rest]
  have hdir : o.dir = s.dir := by rw [ho.rest]
  dsimp only
  have hrun : ∀ x : State, x.targets = o.targets → x.dir = s.dir →
      (((x.setEngine .running).checkFlow.notify noticeStart (be 4 (x.setEngine .running).checkFlow.dir.length
        ++ be 4 (x.setEngine .running).checkFlow.onlineCount)).completeWith r.tag .done
          (((x.setEngine .running).checkFlow.notify noticeStart (be 4 (x.setEngine .running).checkFlow.dir.length
            ++ be 4 (x.setEngine .running).checkFlow.onlineCount)).rebuildFigures ts))
      = (({ x with engine := .running } : State).flowTested.pended 7 (be 4 s.dir.length ++ be 4 o.onlineCount)).settledWith
          r.tag .done false (o.rebuildFigures ts) := fun x htargets hxdir => by
    have hflow : (x.setEngine .running).checkFlow = ({ x with engine := .running } : State).flowTested := State.checkFlow_eq _
    have hkept : ({ x with engine := .running } : State).flowTested.targets = o.targets := by
      rw [State.flowTested_rest]
      exact htargets
    have hdirs : ({ x with engine := .running } : State).flowTested.dir = s.dir := by
      rw [State.flowTested_rest]
      exact hxdir
    rw [hflow, State.notify_eq, State.completeWith_eq, hdirs]
    have hcount : ∀ y : State, y.targets = o.targets → y.onlineCount = o.onlineCount := fun y hy => by
      unfold State.onlineCount State.target
      rw [hy]
    have hfigures : ∀ y : State, y.targets = o.targets → y.rebuildFigures ts = o.rebuildFigures ts := fun y hy => by
      unfold State.rebuildFigures State.target
      rw [hy]
    rw [hcount _ hkept, hfigures (State.pended _ _ _) hkept]
  have htold : ∀ x : State, x.clock = s.clock → x.dir = s.dir → x.raise { x.event .rebuilt .point with figure := some x.dir.length }
      = x.recorded
        { code := .rebuilt, state := .point, cause := none, source := none, day := none, slot := none, segId := none,
          target := none, figure := some s.dir.length, time := s.clock.reading } := fun x hx hxdir => by
    rw [State.raise_eq, ← hx, ← hxdir]
    rfl
  rw [htold o.tabled hclock hdir]
  exact hrun (o.tabled.recorded _) rfl hdir

/-- What a flow test, a START notice and a reply leave of a state with no buffer in use. -/
theorem State.started_blocks (s : State) (hengine : s.engine = .running) (hbuffers : s.builder.buffers = [])
    (snapshot : List Byte) (r : ScanReply) (figs : List Byte) :
    let u := (s.flowTested.pended 7 snapshot).settledWith r.tag .done false figs
    u.targets = s.targets ∧ u.builder = s.builder ∧ u.tracker = s.tracker ∧ u.dir = s.dir ∧ u.audit = s.audit
    ∧ u.engine = s.engine ∧ u.port.flow = .go ∧ u.notices = (s.pended 7 snapshot).notices
    ∧ u.port.reserved = s.port.reserved.erase r.tag
    ∧ u.port.replies = s.port.replies ++ [{ tag := r.tag, result := .done, clamped := false, figures := figs }] := by
  have hgo := State.flowTested_idle hengine hbuffers
  have hflow := State.flowTested_flow s
  dsimp only
  rw [State.flowTested_rest]
  refine ⟨rfl, rfl, rfl, rfl, rfl, rfl, hgo, rfl, ?_, ?_⟩
  · exact (congrArg (fun p : Port => p.reserved.erase r.tag) hflow :)
  · exact (congrArg (fun p : Port => p.replies ++
      [{ tag := r.tag, result := .done, clamped := false, figures := figs }]) hflow :)

/-- What the end of the rebuild leaves, block by block. -/
theorem State.rebuilt_blocks (s o : State) (ts : List TargetNo) (r : ScanReply) (hbuffers : o.builder.buffers = []) :
    let u := s.rebuilt o ts r
    let told := o.recorded
      { code := .rebuilt, state := .point, cause := none, source := none, day := none, slot := none, segId := none,
        target := none, figure := some s.dir.length, time := s.clock.reading }
    u.targets = o.targets ∧ u.builder = o.tabled.builder ∧ u.tracker = o.tabled.tracker ∧ u.dir = o.dir
    ∧ u.audit = told.audit ∧ u.engine = .running ∧ u.port.flow = .go
    ∧ u.notices = (told.pended 7 (be 4 s.dir.length ++ be 4 o.onlineCount)).notices
    ∧ u.port.reserved = o.port.reserved.erase r.tag
    ∧ u.port.replies = o.port.replies ++
      [{ tag := r.tag, result := .done, clamped := false, figures := o.rebuildFigures ts }] :=
  State.started_blocks { o.tabled.recorded
    { code := .rebuilt, state := .point, cause := none, source := none, day := none, slot := none, segId := none,
      target := none, figure := some s.dir.length, time := s.clock.reading } with engine := .running } rfl hbuffers
    (be 4 s.dir.length ++ be 4 o.onlineCount) r (o.rebuildFigures ts)

/-! ### The last extent of the rebuild -/

section
variable {s : State} {t : TargetNo} {c : Scan}

/-- The scans of the rebuild that have an extent left are none but the one at its last extent. -/
theorem State.scanNext_rebuildEnd (hscan : (s.target t).scan = some c) (hrebuild : c.rebuild = true)
    (hlast : (s.target t).extents = some (c.extent + 1))
    (hdone : ∀ v k, v ≠ t → (s.target v).scan = some k → k.rebuild = true ∧ (s.target v).extents = some k.extent) :
    s.scanNext t = (s.withTarget t ((s.target t).scanWaits c)).rebuildEnd := by
  have hwaits : s.onTarget t (fun k => { k with scan := some { c with extent := c.extent + 1, buf := [] }, xfer := none })
      = s.withTarget t ((s.target t).scanWaits c) := s.onTarget_eq t _
  have htarget := State.target_withTarget s t
  unfold State.scanNext
  rw [hscan]
  dsimp only
  rw [hwaits, State.target_withTarget_same]
  rw [if_pos (by exact hlast), if_pos hrebuild]
  refine if_pos (List.all_eq_true.mpr fun v _ => ?_)
  rw [htarget]
  by_cases hv : v = t
  · rw [if_pos hv]
    simp [Target.rebuildDone, Target.scanWaits, hlast]
  · rw [if_neg hv]
    unfold Target.rebuildDone
    cases hk : (s.target v).scan with
    | none => rfl
    | some k => simp [(hdone v k hv hk).2]

theorem State.rebuildTargets_eq (hall : ∀ v k, (s.target v).scan = some k → k.rebuild = true) :
    s.rebuildTargets = [(0 : TargetNo), 1, 2, 3].filter fun v => (s.target v).scan ≠ none := by
  refine List.filter_congr fun v _ => ?_
  cases hk : (s.target v).scan with
  | none => rfl
  | some k => simp [hall v k hk]

/-- The reply that the scans of the rebuild carry. -/
theorem State.rebuildReply (hscan : (s.target t).scan = some c) {r : ScanReply}
    (hreply : ∀ v k, (s.target v).scan = some k → k.reply = some r) :
    ((([(0 : TargetNo), 1, 2, 3].filter fun v => (s.target v).scan ≠ none).filterMap fun v =>
      (s.target v).scan.bind Scan.reply).head?) = some r := by
  have hall : ∀ x ∈ ([(0 : TargetNo), 1, 2, 3].filter fun v => (s.target v).scan ≠ none).filterMap fun v =>
      (s.target v).scan.bind Scan.reply, x = r := fun x hx => by
    obtain ⟨v, -, hv⟩ := List.mem_filterMap.mp hx
    cases hk : (s.target v).scan with
    | none =>
      rw [hk] at hv
      cases hv
    | some k =>
      rw [hk, Option.bind_some, hreply v k hk] at hv
      exact (Option.some.inj hv).symm
  have hsome : r ∈ ([(0 : TargetNo), 1, 2, 3].filter fun v => (s.target v).scan ≠ none).filterMap fun v =>
      (s.target v).scan.bind Scan.reply := by
    refine List.mem_filterMap.mpr ⟨t, List.mem_filter.mpr ⟨mem_allTargets t, by simp [hscan]⟩, ?_⟩
    rw [hscan, Option.bind_some, hreply t c hscan]
  generalize ([(0 : TargetNo), 1, 2, 3].filter fun v => (s.target v).scan ≠ none).filterMap (fun v =>
    (s.target v).scan.bind Scan.reply) = rs at hall hsome
  cases rs with
  | nil => exact nomatch hsome
  | cons x rs => rw [List.head?_cons, hall x List.mem_cons_self]

end

/-- The part of O42 on the end of the rebuild. -/
theorem rebuild_ends {s : State} {t : TargetNo} {c : Scan} {x : Xfer} {r : ScanReply} (hscan : (s.target t).scan = some c)
    (hrebuild : c.rebuild = true) (hlast : (s.target t).extents = some (c.extent + 1))
    (hdone : ∀ v k, v ≠ t → (s.target v).scan = some k → k.rebuild = true ∧ (s.target v).extents = some k.extent)
    (hreply : ∀ v k, (s.target v).scan = some k → k.reply = some r ∧ (s.target v).state = .scanning)
    (hx : (s.target t).xfer = some x) (hk : x.kind = .scan) (hdir : ∀ e ∈ s.dir, e.state = .stored) {ts : List TargetNo}
    (hts : ([(0 : TargetNo), 1, 2, 3].filter fun v => (s.target v).scan ≠ none) = ts) :
    ∃ o, (s.withTarget t ((s.target t).scanWaits c)).Onlined ts o ∧ t ∈ ts
      ∧ exec (.beatError t .live) s = .next ((s.withTarget t ((s.target t).scanWaits c)).rebuilt o ts r) := by
  generalize hw : s.withTarget t ((s.target t).scanWaits c) = w
  have htarget : ∀ v, w.target v = if v = t then (s.target t).scanWaits c else s.target v := fun v => by
    rw [← hw]
    exact State.target_withTarget s t v _
  have hscans : ∀ v, ((w.target v).scan ≠ none ↔ (s.target v).scan ≠ none)
      ∧ ((w.target v).scan.any Scan.rebuild = (s.target v).scan.any Scan.rebuild)
      ∧ (w.target v).scan.bind Scan.reply = (s.target v).scan.bind Scan.reply ∧ (w.target v).state = (s.target v).state :=
    fun v => by
      rw [htarget]
      by_cases hv : v = t
      · rw [if_pos hv, hv, hscan]
        exact ⟨⟨fun _ => nofun, fun _ => nofun⟩, rfl, rfl, rfl⟩
      · rw [if_neg hv]
        exact ⟨.rfl, rfl, rfl, rfl⟩
  have hall : ∀ v k, (s.target v).scan = some k → k.rebuild = true := fun v k hk => by
    by_cases hv : v = t
    · rw [hv, hscan] at hk
      cases hk
      exact hrebuild
    · exact (hdone v k hv hk).1
  have htargets : w.rebuildTargets = ts := by
    rw [← hts, ← State.rebuildTargets_eq hall]
    exact List.filter_congr fun v _ => (hscans v).2.1
  have hmem : ∀ v ∈ ts, (s.target v).state = .scanning := fun v hv => by
    rw [← hts] at hv
    obtain ⟨k, hk⟩ := Option.ne_none_iff_exists'.mp (of_decide_eq_true (List.mem_filter.mp hv).2)
    exact (hreply v k hk).2
  have hnodup : ts.Nodup := by
    rw [← hts]
    exact List.Nodup.filter _ (by decide)
  have honlined := State.foldl_onlinedOne (s := w) hnodup (fun v hv => (hscans v).2.2.2.trans (hmem v hv))
    (by rw [← hw]; exact hdir)
  refine ⟨_, honlined, ?_, ?_⟩
  · rw [← hts]
    exact List.mem_filter.mpr ⟨mem_allTargets t, by simp [hscan]⟩
  refine congrArg Host.Outcome.next ((beatError_live hx).trans ?_)
  rw [State.failBeat_scan hk, State.scanNext_rebuildEnd hscan hrebuild hlast hdone, hw]
  refine State.rebuildEnd_eq htargets honlined rfl ?_
  rw [← State.rebuildReply hscan fun v k hk => (hreply v k hk).1, hts]
  exact congrArg List.head? (List.filterMap_congr fun v _ => (hscans v).2.2.1)

/-- Settles O42: the classification, a scan in RUNNING, one of the rebuild, and the rebuild's end. -/
theorem scanMadeInRunning : Obligations.ScanMadeInRunning := by
  refine ⟨fun s t c x hscan hx hk hgoes => ?_, fun s t c cs f hscan hgoes hcoder hf => scan_malformed hscan hgoes hcoder hf,
    fun s t c hscan hrebuild => ⟨fun cs hcoder => ?_, fun cs ds m hcoder hds => ?_⟩,
    fun s t c cs ds m hscan hrebuild hmore hcoder hds hmap hlen => ?_,
    fun s t c x r hscan hrebuild hlast hdone hreply hx hk hdir hbuffers => ?_⟩
  · obtain ⟨herror, htimer⟩ := scan_beatFails hscan hx hk hgoes
    exact ⟨herror, htimer, fun data hlen => ⟨scan_classifies hscan hx hk hgoes hlen, scan_collects hscan hx hk hlen⟩⟩
  · intro h s1 ds hds
    exact ⟨scan_refused hscan hrebuild hcoder hds, scan_made hscan hrebuild hcoder hds⟩
  · intro h hnone hroom hmap _ hday
    exact scan_running hscan hrebuild hcoder hds hnone hroom hmap hday
  · exact scan_rebuild hscan hrebuild hmore hcoder hds hmap hlen rfl
  · intro scanned highest figures
    obtain ⟨o, ⟨htargets, hflag, hrest⟩, ht, hexec⟩ := rebuild_ends hscan hrebuild hlast hdone hreply hx hk hdir (ts := scanned) rfl
    have htarget := State.target_withTarget s t
    have hbuffers' : o.builder.buffers = [] := by
      rw [hrest]
      exact hbuffers
    obtain ⟨hu, hbuilder, htracker, hudir, haudit, hengine, hgo, hnotices, hreserved, hreplies⟩ :=
      (s.withTarget t ((s.target t).scanWaits c)).rebuilt_blocks o scanned r hbuffers'
    generalize (s.withTarget t ((s.target t).scanWaits c)).rebuilt o scanned r = u at *
    have hut : ∀ v, u.target v = o.target v := fun v => by
      unfold State.target
      rw [hu]
    have hodir : o.dir = s.dir := by rw [hrest]; rfl
    have honline : be 4 o.onlineCount = be 4 (([(0 : TargetNo), 1, 2, 3].filter fun v => (u.target v).state = .online).length) := by
      simp only [hut]
      rfl
    have hcounts : ∀ v ∈ scanned, (o.target v).scanCounts = figures v := fun v _ => by
      rw [htargets, htarget]
      unfold Target.scanCounts figures
      simp only [List.countP_eq_length_filter]
      by_cases hv : v = t
      · subst hv
        split_ifs <;> rfl
      · rw [if_neg hv]
        split_ifs <;> rfl
    have hfigures : o.rebuildFigures scanned = be 2 scanned.length ++ scanned.flatMap figures := by
      unfold State.rebuildFigures
      rw [List.map_congr_left hcounts]
      unfold listOctets
      rw [List.length_map, List.flatMap_def]
    refine ⟨u, hexec, fun v hv => ?_, fun v hv => ?_, ?_, fun d hd => ?_, hudir.trans hodir, ?_, hengine, hgo, ?_, ?_, ?_, ?_, ?_⟩
    · rw [hut, htargets, if_pos hv, htarget]
      by_cases hvt : v = t
      · subst hvt
        rw [if_pos rfl, if_pos rfl]
        rfl
      · rw [if_neg hvt, if_neg hvt]
        rfl
    · rw [hut, htargets, if_neg hv, htarget, if_neg (by rintro rfl; exact hv ht)]
    · rw [hbuilder, hrest]
      rfl
    · unfold State.isSettled
      rw [htracker]
      refine (settleDays_getLsbD o.dir o.tracker.settled hd).trans ?_
      rw [hodir, hrest]
      exact Iff.rfl
    · rw [haudit, hrest]
      rfl
    · have hne : scanned ≠ [] := List.ne_nil_of_mem ht
      rw [hnotices]
      refine (congrArg NoticeSource.flag ((vget_vset _ 7 3 _).trans (if_neg (by decide)))).trans ?_
      exact (congrArg NoticeSource.flag ((vget_vset _ 0 3 _).trans (if_neg (by decide)))).trans (hflag hne)
    · rw [hnotices]
      exact congrArg NoticeSource.flag (vget_vset_same _ _ _)
    · rw [hnotices, ← honline]
      exact congrArg NoticeSource.snapshot (vget_vset_same _ _ _)
    · rw [hreserved, hrest]
      rfl
    · rw [hreplies, hfigures, hrest]
      rfl

end Sys2Proof.Machine
end

section
/-! The engine reset (R178), first part: what the aborts of the open files (R22) do to the Directory and the replies. -/

namespace Sys2Proof.Machine

/-! ### Directories that keep their order -/

/-- The entries of `d'` are those of `d` in their order, each as `R` lets it change, less those of the ids not kept. -/
def Follows (R : SegEntry → SegEntry → Prop) (d d' : List SegEntry) : Prop :=
  ∃ (f : SegEntry → SegEntry) (keep : Nat → Bool), d' = (d.filter fun e => keep e.id).map f ∧ ∀ e, R e (f e)

namespace Follows

variable {R : SegEntry → SegEntry → Prop} {d d' d'' : List SegEntry}

theorem refl (hrefl : ∀ e, R e e) (d : List SegEntry) : Follows R d d :=
  ⟨id, fun _ => true, by rw [List.filter_true, List.map_id], hrefl⟩

theorem trans (hid : ∀ e e', R e e' → e'.id = e.id) (htrans : ∀ a b c, R a b → R b c → R a c) (h : Follows R d d')
    (h' : Follows R d' d'') : Follows R d d'' := by
  obtain ⟨f, keep, rfl, hf⟩ := h
  obtain ⟨g, keep', rfl, hg⟩ := h'
  refine ⟨g ∘ f, fun i => keep i && keep' i, ?_, fun e => htrans _ _ _ (hf e) (hg _)⟩
  have hkeep : ((fun e : SegEntry => keep' e.id) ∘ f) = fun e => keep' e.id := funext fun e => by
    rw [Function.comp_apply, hid _ _ (hf e)]
  rw [List.filter_map, hkeep, List.filter_filter, List.map_map]
  simp only [Bool.and_comm]

theorem mem (h : Follows R d d') {e' : SegEntry} (he : e' ∈ d') : ∃ e ∈ d, R e e' := by
  obtain ⟨f, keep, rfl, hf⟩ := h
  obtain ⟨e, hmem, rfl⟩ := List.mem_map.mp he
  exact ⟨e, (List.mem_filter.mp hmem).1, hf e⟩

theorem find? (hid : ∀ e e', R e e' → e'.id = e.id) (h : Follows R d d') {i : Nat} {e' : SegEntry}
    (he : d'.find? (fun e => e.id = i) = some e') : ∃ e, d.find? (fun e => e.id = i) = some e ∧ R e e' := by
  obtain ⟨f, keep, rfl, hf⟩ := h
  rw [find?_map_of_keeps (fun e => by rw [hid _ _ (hf e)])] at he
  obtain ⟨e, hfind, rfl⟩ := Option.map_eq_some_iff.mp he
  refine ⟨e, ?_, hf e⟩
  have hkept : keep i = true := by
    have hmem := (List.mem_filter.mp (List.mem_of_find?_eq_some hfind)).2
    have hi : e.id = i := by simpa using List.find?_some hfind
    rwa [hi] at hmem
  rw [List.find?_filter] at hfind
  rw [← hfind]
  refine congrArg (fun p => List.find? p d) (funext fun e => ?_)
  by_cases h : e.id = i
  · simp [h, hkept]
  · simp [h]

/-- An id kept is found as it was. -/
theorem find?_kept (hid : ∀ e e', R e e' → e'.id = e.id) {f : SegEntry → SegEntry} {keep : Nat → Bool} (hf : ∀ e, R e (f e))
    {i : Nat} (hi : keep i = true) : ((d.filter fun e => keep e.id).map f).find? (fun e => e.id = i)
      = (d.find? fun e => e.id = i).map f := by
  rw [find?_map_of_keeps (fun e => by rw [hid _ _ (hf e)]), List.find?_filter]
  refine congrArg (fun p => (List.find? p d).map f) (funext fun e => ?_)
  by_cases h : e.id = i
  · simp [h, hi]
  · simp [h]

end Follows

/-! ### Entries as the aborts leave them -/

/-- What an abort leaves of an entry's identity and pins; it makes no run FIRM. -/
def SegEntry.Voided (e e' : SegEntry) : Prop :=
  e'.id = e.id ∧ e'.cls = e.cls ∧ e'.day = e.day ∧ e'.pins = e.pins
  ∧ ((∃ r ∈ e'.runs, r.status = .firm) → ∃ r ∈ e.runs, r.status = .firm)

namespace SegEntry.Voided

theorem refl (e : SegEntry) : e.Voided e := ⟨rfl, rfl, rfl, rfl, fun h => h⟩

theorem id_eq (e e' : SegEntry) (h : e.Voided e') : e'.id = e.id := h.1

theorem trans (a b c : SegEntry) (h : a.Voided b) (h' : b.Voided c) : a.Voided c := by
  obtain ⟨hid, hcls, hday, hpins, hfirm⟩ := h
  obtain ⟨hid', hcls', hday', hpins', hfirm'⟩ := h'
  exact ⟨hid'.trans hid, hcls'.trans hcls, hday'.trans hday, hpins'.trans hpins, fun h => hfirm (hfirm' h)⟩

/-- Whether a run is FIRM is read off the facts of the runs. -/
theorem firm_of_facts {e e' : SegEntry} (h : e'.runs.map RunRec.facts = e.runs.map RunRec.facts)
    (hfirm : ∃ r ∈ e'.runs, r.status = .firm) : ∃ r ∈ e.runs, r.status = .firm := by
  obtain ⟨r', hr', hst⟩ := hfirm
  have hmem : r'.facts ∈ e.runs.map RunRec.facts := h ▸ List.mem_map_of_mem hr'
  obtain ⟨r, hr, hfacts⟩ := List.mem_map.mp hmem
  exact ⟨r, hr, (congrArg (fun x => x.2.2.2.1) hfacts).trans hst⟩

theorem of_seal (e : SegEntry) (bits : List BufRun) (reason : SealReason) : e.Voided (e.seal bits reason) :=
  ⟨rfl, rfl, rfl, rfl, firm_of_facts (fixDigests_facts _ _)⟩

theorem of_resolve (e : SegEntry) (l : LaneNo) : e.Voided (e.resolve l .void) := by
  refine ⟨rfl, rfl, rfl, rfl, fun ⟨r', hr', hst⟩ => ?_⟩
  obtain ⟨r, hr, rfl⟩ := List.mem_map.mp hr'
  unfold RunRec.resolve at hst
  split at hst
  · cases hst
  · exact ⟨r, hr, hst⟩

end SegEntry.Voided

/-! ### What an abort leaves where no FLUSH waits -/

/-- No FLUSH and no reply comes about, the Directory keeps its order, and a COMMITTING entry stays one. -/
structure State.Quiet (s t : State) : Prop where
  replies : s.builder.flush = none →
    t.builder.flush = none ∧ t.port.replies = s.port.replies ∧ t.port.reserved = s.port.reserved
  dir : Follows SegEntry.Voided s.dir t.dir
  committing : ∀ id e, s.entry? id = some e → e.state = .committing →
    ∃ e', t.entry? id = some e' ∧ e'.state = .committing ∧ e'.place = e.place ∧ e'.attempts = e.attempts

namespace State.Quiet

variable {s t u : State}

theorem of_same (hdir : t.dir = s.dir) (hflush : t.builder.flush = s.builder.flush) (hreplies : t.port.replies = s.port.replies)
    (hreserved : t.port.reserved = s.port.reserved) : s.Quiet t where
  replies h := ⟨hflush.trans h, hreplies, hreserved⟩
  dir := hdir ▸ Follows.refl SegEntry.Voided.refl s.dir
  committing id e he hst := ⟨e, by unfold State.entry? at *; rw [hdir]; exact he, hst, rfl, rfl⟩

theorem refl (s : State) : s.Quiet s := of_same rfl rfl rfl rfl

theorem trans (h : s.Quiet t) (h' : t.Quiet u) : s.Quiet u where
  replies hnone := by
    obtain ⟨hflush, hreplies, hreserved⟩ := h.replies hnone
    obtain ⟨hflush', hreplies', hreserved'⟩ := h'.replies hflush
    exact ⟨hflush', hreplies'.trans hreplies, hreserved'.trans hreserved⟩
  dir := h.dir.trans SegEntry.Voided.id_eq SegEntry.Voided.trans h'.dir
  committing id e he hst := by
    obtain ⟨e', he', hst', hplace, hattempts⟩ := h.committing id e he hst
    obtain ⟨e'', he'', hst'', hplace', hattempts'⟩ := h'.committing id e' he' hst'
    exact ⟨e'', he'', hst'', hplace'.trans hplace, hattempts'.trans hattempts⟩

theorem foldl {α : Type} {f : State → α → State} (hf : ∀ (s : State) a, s.Quiet (f s a)) (l : List α) (s : State) :
    s.Quiet (l.foldl f s) := by
  induction l generalizing s with
  | nil => exact refl s
  | cons a l ih => exact (hf s a).trans (ih _)

/-- A change of the entries of one id. -/
theorem onEntry (s : State) (id : Nat) {f : SegEntry → SegEntry} (hf : ∀ e : SegEntry, e.Voided (f e))
    (hkeeps : ∀ e, s.entry? id = some e → e.state = .committing →
      (f e).state = .committing ∧ (f e).place = e.place ∧ (f e).attempts = e.attempts) : s.Quiet (s.onEntry id f) where
  replies h := ⟨h, rfl, rfl⟩
  dir := ⟨fun e => if e.id = id then f e else e, fun _ => true, by rw [List.filter_true]; rfl, fun e => by
    dsimp only
    split
    · exact hf e
    · exact .refl e⟩
  committing j e he hst := by
    refine ⟨_, (State.entry?_onEntry s id j fun e => (hf e).1).trans (congrArg (Option.map _) he), ?_⟩
    dsimp only
    by_cases hid : e.id = id
    · rw [if_pos hid]
      have hj : e.id = j := by simpa using List.find?_some he
      exact hkeeps e (by rw [← hid, hj]; exact he) hst
    · rw [if_neg hid]
      exact ⟨hst, rfl, rfl⟩

theorem checkFlow (s : State) : s.Quiet s.checkFlow := by
  unfold State.checkFlow
  dsimp only
  split
  · exact refl s
  · exact of_same rfl rfl rfl rfl

theorem flushEnd_dir_replies (s : State) (id : Nat) (k : FlushEnd) (h : s.builder.flush = none) : s.flushEnd id k = s := by
  unfold State.flushEnd
  rw [h]

theorem sealSegment (s : State) (reason : SealReason) (id : Nat)
    (hid : ∀ e, s.entry? id = some e → e.state ≠ .committing) : s.Quiet (s.sealSegment reason id) :=
  (onEntry s id (fun e => .of_seal e (((s.buffer? id).map Buffer.runs).getD []) reason)
    fun e he hst => absurd hst (hid e he)).trans (of_same rfl rfl rfl rfl)

theorem discardSegment (s : State) (id : Nat) (hid : ∀ e, s.entry? id = some e → e.state ≠ .committing) :
    s.Quiet (s.discardSegment id) where
  replies h := by
    unfold State.discardSegment
    rw [flushEnd_dir_replies _ id .discarded (by exact h)]
    exact (checkFlow _).replies h
  dir := by
    rw [State.discardSegment_dir]
    exact ⟨fun e => e, fun i => decide (i ≠ id), (List.map_id' _).symm, SegEntry.Voided.refl⟩
  committing j e he hst := by
    have hj : j ≠ id := fun h => hid e (h ▸ he) hst
    refine ⟨e, ?_, hst, rfl, rfl⟩
    unfold State.entry?
    rw [State.discardSegment_dir]
    have hkept := Follows.find?_kept (d := s.dir) (f := fun e => e) (keep := fun i => decide (i ≠ id))
      SegEntry.Voided.id_eq SegEntry.Voided.refl (decide_eq_true hj)
    rw [List.map_id', Option.map_id'] at hkept
    exact hkept.trans he

theorem testSegment (s : State) (id : Nat) : s.Quiet (s.testSegment id) := by
  unfold State.testSegment
  split
  · exact refl s
  next e he =>
    have hother : ∀ st : SegState, e.state = st → st ≠ .committing → ∀ y, s.entry? id = some y → y.state ≠ .committing :=
      fun st hst hne y hy => by
        rw [he] at hy
        cases hy
        rw [hst]
        exact hne
    split
    next h => exact discardSegment s id (h.1.elim (hother _ · nofun) (hother _ · nofun))
    split
    next h =>
      exact onEntry s id (fun e => ⟨rfl, rfl, rfl, rfl, fun h => h⟩) fun y hy hst => absurd hst (hother _ h.1 nofun y hy)
    split
    next h => exact sealSegment s _ id (hother _ h.1 nofun)
    exact refl s

theorem resolveIn (s : State) (l : LaneNo) (id : Nat) : s.Quiet (s.resolveIn l .void id) := by
  unfold State.resolveIn
  split
  · exact refl s
  · refine (of_same rfl rfl rfl rfl : s.Quiet (s.onBuffer id _)).trans ((onEntry _ id (fun e => .of_resolve e l) ?_).trans
      (testSegment _ id))
    exact fun e _ hst => ⟨hst, rfl, rfl⟩

theorem resolveRuns (s : State) (l : LaneNo) : s.Quiet (s.resolveRuns l .void) := foldl (fun s id => resolveIn s l id) _ s

theorem abortFile (s : State) (l : LaneNo) (cause : AbortCause) : s.Quiet (s.abortFile l cause) := by
  cases hopen : (s.lane l).hasFile with
  | false => exact (State.abortFile_of_not_hasFile hopen cause).symm ▸ refl s
  | true =>
    cases hf : (s.lane l).file with
    | none =>
      have hsame : s.abortFile l cause = s := by
        unfold State.abortFile
        rw [hopen, hf]
      exact hsame.symm ▸ refl s
    | some f =>
      rw [State.abortFile_of_file hopen hf cause]
      exact (resolveRuns s l).trans (of_same rfl rfl rfl rfl)

theorem abortAll (s : State) : s.Quiet s.abortAll := foldl (fun s l => abortFile s l .reset) allLanes s

end State.Quiet

end Sys2Proof.Machine
end

section
/-! The engine reset (R178), second part: commit path, links and scans, as the statements have them (R102, R87). -/

namespace Sys2Proof.Machine

section
variable (s : State) (t : TargetNo)

/-! ### The current commit and the links -/

theorem State.resetCommit_eq : s.resetCommit = s.commitReset := by
  unfold State.resetCommit State.commitReset
  cases hcurrent : s.commit.current with
  | none => rfl
  | some c =>
    have hrequeue : ∀ u : State, u.commit = s.commit → u.onCommit CommitEngine.requeue
        = { u with commit := { s.commit with queue := c :: s.commit.queue, current := none } } := fun u hu => by
      unfold State.onCommit CommitEngine.requeue
      rw [hu, hcurrent]
      rfl
    dsimp only
    cases (s.entry? c.segId).bind SegEntry.place with
    | none => exact hrequeue _ rfl
    | some p => exact hrequeue _ rfl

/-- The target with its transfers abandoned and no erase issued. -/
def Target.linkIdle (k : Target) : Target :=
  { k with erase := none, waitWrite := false, waitRead := none, xfer := none, expired := 0 }

/-- What R102 covers: a hold or the Guard Window, with the oldest day of the Directory as it stands. -/
def State.protects (y : SegEntry) : Bool :=
  (s.hold.holds.any fun h => h.covers y.day y.cls) || s.hold.guard.covers s.now.day (oldestDay s.dir) y.day

theorem State.linkReset_idle {k : Target} (hk : s.target t = k) (herase : k.erase = none) :
    s.linkReset t = s.withTarget t k.linkIdle := by
  unfold State.linkReset
  rw [hk]
  dsimp only
  rw [if_pos herase]
  rfl

theorem State.linkReset_empty {k : Target} (hk : s.target t = k) (hqueue : k.queue = []) :
    s.linkReset t = s.withTarget t k.linkIdle := by
  unfold State.linkReset
  rw [hk]
  dsimp only
  rw [hqueue, List.head?_nil, ite_self]
  rfl

theorem State.linkReset_issued {k : Target} (hk : s.target t = k) {y : EraseSlot} (herase : k.erase = some y) {e : EraseEntry}
    {q : List EraseEntry} (hqueue : k.queue = e :: q) :
    s.linkReset t = (s.withTarget t (k.withExtents (e.members.map Prod.fst) .written).linkIdle).walkedOver t
      (s.covering s.protects) [] [e] q := by
  unfold State.linkReset
  rw [hk]
  dsimp only
  rw [if_neg (by rw [herase]; exact nofun), hqueue]
  rfl

/-- One entry walked over. -/
theorem State.walkedOver_head (c : Nat → Bool) (e : EraseEntry) (q : List EraseEntry) : s.walkedOver t c [] [e] q
    = { s.withTarget t { (s.target t).withExtents (if e.segments.any c then e.fillers else []) .free with
          queue := e.replaced c q.length ++ q } with
        dir := s.dir.map fun y =>
          if (returnedOf c (e, e.replaced c q.length)).contains y.id then { y with state := .stored } else y } := by
  have hone : replacements c (([] : List EraseEntry).length + q.length) [e] = [(e, e.replaced c q.length)] := by
    rw [replacements_cons, List.length_nil, Nat.zero_add, Nat.add_zero]
    rfl
  have hfillers : ([(e, e.replaced c q.length)].flatMap fun p : EraseEntry × List EraseEntry =>
      if p.2 = [p.1] then [] else p.1.fillers) = if e.segments.any c then e.fillers else [] := by
    rw [List.flatMap_singleton]
    by_cases h : e.segments.any c
    · rw [if_pos h]
      exact if_neg (EraseEntry.replaced_ne_self h _)
    · rw [if_neg h]
      exact if_pos (EraseEntry.replaced_kept h _)
  unfold State.walkedOver
  dsimp only
  rw [hone, hfillers, List.flatMap_singleton, List.flatMap_singleton, List.nil_append]

theorem State.rescueHead_eq {e : EraseEntry} {q : List EraseEntry} (hqueue : (s.target t).queue = e :: q) :
    s.rescueHead t = s.walkedOver t (s.covering s.protects) [] [e] q := by
  have hcovered : s.coveredBy s.keptByHold = s.covering s.protects := State.coveredBy_eq s
  rw [State.walkedOver_head]
  unfold State.rescueHead
  rw [hqueue]
  dsimp only
  rw [hcovered, EraseEntry.rescue_eq]
  generalize s.covering s.protects = c
  unfold State.applyRescue
  by_cases h : e.segments.any c
  · rw [if_pos h, if_pos h, returnedOf_replaced h, State.onTarget_onTarget, Target.setExtents_withExtents, hqueue]
    rfl
  · rw [if_neg h, if_neg h, returnedOf_kept h, EraseEntry.replaced_kept h, State.onTarget_onTarget,
      Target.setExtents_withExtents, hqueue]
    rfl

theorem State.resetTarget_eq : s.resetTarget t = s.linkReset t := by
  have hidle : ∀ k : Target, s.target t = k → k.unissue = { k with erase := none } → k.erase.isSome = false ∨ k.queue = [] →
      s.resetTarget t = s.withTarget t k.linkIdle := fun k hk hunissue hdone => by
    unfold State.resetTarget
    rw [State.onTarget_onTarget, hk, hunissue]
    dsimp only
    rcases hdone with herase | hqueue
    · rw [herase]
      rfl
    · have hsame : (s.withTarget t k.linkIdle).rescueHead t = s.withTarget t k.linkIdle := by
        unfold State.rescueHead
        rw [State.target_withTarget_same, show k.linkIdle.queue = [] from hqueue]
      exact (ite_congr rfl (fun _ => hsame) fun _ => rfl).trans (ite_self _)
  generalize hk : s.target t = k
  cases herase : k.erase with
  | none =>
    rw [State.linkReset_idle s t hk herase]
    refine hidle k hk ?_ (.inl (by rw [herase]; rfl))
    unfold Target.unissue
    rw [herase]
  | some y =>
    cases hqueue : k.queue with
    | nil =>
      rw [State.linkReset_empty s t hk hqueue]
      refine hidle k hk ?_ (.inr hqueue)
      unfold Target.unissue
      rw [herase, hqueue]
    | cons e q =>
      have hunissue : k.unissue.resetLink = (k.withExtents (e.members.map Prod.fst) .written).linkIdle := by
        unfold Target.unissue
        rw [herase, hqueue]
        dsimp only
        rw [Target.setExtents_withExtents]
        rfl
      rw [State.linkReset_issued s t hk herase hqueue]
      unfold State.resetTarget
      rw [State.onTarget_onTarget, hk, hunissue, herase]
      refine (if_pos rfl).trans (State.rescueHead_eq _ _ ?_)
      rw [State.target_withTarget_same]
      exact hqueue

theorem State.resetTargets_eq : s.resetTargets = [(0 : TargetNo), 1, 2, 3].foldl State.linkReset s := by
  have hreset : State.resetTarget = State.linkReset := funext fun s => funext fun t => s.resetTarget_eq t
  unfold State.resetTargets
  rw [hreset]
  rfl

/-! ### Scans begun again -/

theorem Target.startScan_begunAgain {k : Target} {c : Scan} (h : k.scan = some c) :
    k.startScan false none = k.scanBegunAgain := by
  rw [Target.startScan_eq]
  unfold Target.scanBegunAgain
  rw [h]
  dsimp only
  cases k.unitSize with
  | none => rfl
  | some unit => cases k.gather <;> rfl

/-- An entry that no scan of the targets `l` has made. -/
def State.unmade (s : State) (l : List TargetNo) (e : SegEntry) : Bool :=
  l.all fun v => (s.target v).scan.all fun c => !c.made.contains e.id

/-- The scan of one target begins again. -/
def State.rescanned : State := { s.withTarget t (s.target t).scanBegunAgain with dir := s.dir.filter (s.unmade [t]) }

theorem State.restartScan_eq : s.restartScan t = s.rescanned t := by
  unfold State.restartScan State.rescanned State.unmade
  simp only [List.all_cons, List.all_nil, Bool.and_true]
  cases h : (s.target t).scan with
  | none =>
    have hkept : (s.target t).scanBegunAgain = s.target t := by
      unfold Target.scanBegunAgain
      rw [h]
    simp only [hkept, State.withTarget_self, Option.all_none, List.filter_true]
  | some c =>
    dsimp only
    rw [State.onTarget_eq]
    exact congrArg (fun k => ({ s.withTarget t k with dir := s.dir.filter fun e => !c.made.contains e.id } : State))
      (Target.startScan_begunAgain h)

/-- The scans of the targets `l` have begun again. -/
structure State.Rescanned (s : State) (l : List TargetNo) (u : State) : Prop where
  targets : ∀ v, u.target v = if v ∈ l then (s.target v).scanBegunAgain else s.target v
  dir : u.dir = s.dir.filter (s.unmade l)
  rest : u = { s with dir := u.dir, targets := u.targets }

theorem State.foldl_restartScan {l : List TargetNo} (hl : l.Nodup) : s.Rescanned l (l.foldl State.restartScan s) := by
  induction l generalizing s with
  | nil => exact ⟨fun v => (if_neg List.not_mem_nil).symm, (List.filter_true _).symm, rfl⟩
  | cons t l ih =>
    obtain ⟨ht, hl⟩ := List.nodup_cons.mp hl
    rw [List.foldl_cons, State.restartScan_eq]
    have htarget : ∀ v, (s.rescanned t).target v = if v = t then (s.target t).scanBegunAgain else s.target v := fun v =>
      State.target_withTarget s t v _
    obtain ⟨htargets, hdir, hrest⟩ := ih (s.rescanned t) hl
    refine ⟨fun v => ?_, ?_, hrest⟩
    · rw [htargets, htarget]
      by_cases hv : v = t
      · subst hv
        rw [if_neg ht, if_pos rfl, if_pos List.mem_cons_self]
      · rw [if_neg hv]
        simp [hv]
    · have hone : (s.rescanned t).dir = s.dir.filter (s.unmade [t]) := rfl
      rw [hdir, hone, List.filter_filter]
      refine List.filter_congr fun e _ => ?_
      have hothers : (s.rescanned t).unmade l e = s.unmade l e := by
        unfold State.unmade
        rw [Bool.eq_iff_iff, List.all_eq_true, List.all_eq_true]
        refine forall₂_congr fun v hv => ?_
        rw [htarget, if_neg (by rintro rfl; exact ht hv)]
      rw [hothers, Bool.and_comm]
      simp only [State.unmade, List.all_cons, List.all_nil, Bool.and_true]

theorem vget_ext {α : Type} {n : Nat} {a b : Vector α n} (h : ∀ i, vget a i = vget b i) : a = b :=
  Vector.ext fun i hi => h ⟨i, hi⟩

/-- What an engine reset makes of scans. -/
theorem State.resetEngine_eq : s.resetEngine = match s.engine with
    | .unconfigured => s
    | .rebuilding => { s with
        engine := .unconfigured, dir := [], builder := { s.builder with nextId := some 1 }, expiry := { s.expiry with cursor := 1 }
        targets := s.targets.map fun k => { k with state := .absent, map := none, scan := none, xfer := none } }
    | .running => { s with
        dir := s.dir.filter (s.unmade [0, 1, 2, 3]), targets := s.targets.map Target.scanBegunAgain } := by
  unfold State.resetEngine
  cases hengine : s.engine with
  | unconfigured => rfl
  | rebuilding => rfl
  | running =>
    obtain ⟨htargets, hdir, hrest⟩ := s.foldl_restartScan (l := allTargets) (by decide)
    have hall : (allTargets.foldl State.restartScan s).targets = s.targets.map Target.scanBegunAgain := vget_ext fun v => by
      rw [vget_map]
      exact (htargets v).trans (if_pos (mem_allTargets v))
    dsimp only
    rw [hrest, hdir, hall, hengine]
    rfl

end

end Sys2Proof.Machine
end

section
/-! The engine reset (R178), third part: what R102 leaves of each target and of the Directory. -/

namespace Sys2Proof.Machine

/-! ### Segments that return to STORED -/

/-- Some entries of ids that `P` allows are STORED now; nothing else changes. -/
def Returned (P : Nat → Prop) (d d' : List SegEntry) : Prop :=
  ∃ back : Nat → Bool, d' = d.map (fun y => if back y.id then { y with state := .stored } else y) ∧ ∀ i, back i = true → P i

/-- The entry with another state and place. -/
def SegEntry.Moved (e e' : SegEntry) : Prop := e' = { e with state := e'.state, place := e'.place }

namespace SegEntry.Moved

theorem refl (e : SegEntry) : e.Moved e := rfl

theorem id_eq (e e' : SegEntry) (h : e.Moved e') : e'.id = e.id := by rw [h]

theorem trans (a b c : SegEntry) (h : a.Moved b) (h' : b.Moved c) : a.Moved c := by
  unfold Moved at *
  rw [h', h]

theorem voided {e e' : SegEntry} (h : e.Moved e') : e.Voided e' := by
  rw [h]
  exact ⟨rfl, rfl, rfl, rfl, fun h => h⟩

end SegEntry.Moved

theorem find?_id {d : List SegEntry} {i : Nat} {e : SegEntry} (h : d.find? (fun e => e.id = i) = some e) : e.id = i := by
  simpa using List.find?_some h

namespace Returned

variable {P Q : Nat → Prop} {d d' d'' : List SegEntry}

theorem refl (d : List SegEntry) : Returned P d d := ⟨fun _ => false, (List.map_id' d).symm, fun _ h => nomatch h⟩

theorem trans (h : Returned P d d') (h' : Returned P d' d'') : Returned P d d'' := by
  obtain ⟨back, rfl, hback⟩ := h
  obtain ⟨back', rfl, hback'⟩ := h'
  refine ⟨fun i => back i || back' i, ?_, fun i h => (Bool.or_eq_true_iff.mp h).elim (hback i) (hback' i)⟩
  rw [List.map_map]
  refine List.map_congr_left fun y _ => ?_
  cases h : back y.id <;> cases h' : back' y.id <;> simp [h, h']

theorem mono (hPQ : ∀ i, P i → Q i) (h : Returned P d d') : Returned Q d d' := by
  obtain ⟨back, hd, hback⟩ := h
  exact ⟨back, hd, fun i hi => hPQ i (hback i hi)⟩

theorem follows (h : Returned P d d') : Follows SegEntry.Moved d d' := by
  obtain ⟨back, rfl, -⟩ := h
  refine ⟨fun y => if back y.id then { y with state := .stored } else y, fun _ => true, by rw [List.filter_true], fun e => ?_⟩
  dsimp only
  split <;> rfl

theorem ids (h : Returned P d d') : d'.map SegEntry.id = d.map SegEntry.id := by
  obtain ⟨back, rfl, -⟩ := h
  rw [List.map_map]
  refine List.map_congr_left fun y _ => ?_
  rw [Function.comp_apply]
  split <;> rfl

/-- An id that `P` does not allow is found as it was. -/
theorem find?_other (h : Returned P d d') {i : Nat} (hi : ¬ P i) :
    d'.find? (fun e => e.id = i) = d.find? fun e => e.id = i := by
  obtain ⟨back, rfl, hback⟩ := h
  rw [find?_map_of_keeps (fun e => by split <;> rfl)]
  cases hfind : d.find? (fun e => e.id = i) with
  | none => rfl
  | some e =>
    rw [Option.map_some, find?_id hfind, if_neg fun h => hi (hback i h)]

end Returned

/-! ### One target -/

/-- R102: what is left of a target of whose members `c` names the covered ones. -/
def Target.freed (c : Nat → Bool) (k : Target) : Target :=
  match k.erase, k.queue with
  | some _, e :: q =>
    { ((k.withExtents (e.members.map Prod.fst) .written).withExtents (if e.segments.any c then e.fillers else []) .free).linkIdle
      with queue := e.replaced c q.length ++ q }
  | _, _ => k.linkIdle

/-- R102: the segments of a returned erase that are STORED again. -/
def Target.returned (c : Nat → Bool) (k : Target) : List Nat :=
  match k.erase, k.queue with
  | some _, e :: q => returnedOf c (e, e.replaced c q.length)
  | _, _ => []

/-- A segment that an erase entry of one of the targets `l` names. -/
def State.named (s : State) (l : List TargetNo) (i : Nat) : Prop := ∃ v ∈ l, ∃ q ∈ (s.target v).queue, i ∈ q.segments

section
variable (s : State) (t : TargetNo)

theorem State.linkReset_eq : s.linkReset t = { s.withTarget t ((s.target t).freed (s.covering s.protects)) with
    dir := s.dir.map fun y =>
      if ((s.target t).returned (s.covering s.protects)).contains y.id then { y with state := .stored } else y } := by
  have hidle : (s.target t).freed (s.covering s.protects) = (s.target t).linkIdle →
      (s.target t).returned (s.covering s.protects) = [] → s.linkReset t = s.withTarget t (s.target t).linkIdle →
      s.linkReset t = { s.withTarget t ((s.target t).freed (s.covering s.protects)) with
        dir := s.dir.map fun y =>
          if ((s.target t).returned (s.covering s.protects)).contains y.id then { y with state := .stored } else y } :=
    fun hfreed hreturned h => by
      rw [h, hfreed, hreturned]
      exact congrArg (fun d => ({ s.withTarget t (s.target t).linkIdle with dir := d } : State)) (List.map_id' _).symm
  cases herase : (s.target t).erase with
  | none =>
    refine hidle ?_ ?_ (State.linkReset_idle s t rfl herase)
    · unfold Target.freed
      rw [herase]
    · unfold Target.returned
      rw [herase]
  | some y =>
    cases hqueue : (s.target t).queue with
    | nil =>
      refine hidle ?_ ?_ (State.linkReset_empty s t rfl hqueue)
      · unfold Target.freed
        rw [herase, hqueue]
      · unfold Target.returned
        rw [herase, hqueue]
    | cons e q =>
      unfold Target.freed Target.returned
      rw [State.linkReset_issued s t rfl herase hqueue, State.walkedOver_head, herase, hqueue, State.target_withTarget_same,
        State.withTarget_withTarget]
      rfl

theorem returnedOf_segments (c : Nat → Bool) (e : EraseEntry) (others i : Nat)
    (h : i ∈ returnedOf c (e, e.replaced c others)) : i ∈ e.segments := by
  by_cases hc : e.segments.any c
  · rw [returnedOf_replaced hc] at h
    rcases List.mem_append.mp h with h | h
    · exact (List.mem_filter.mp h).1
    · exact (List.mem_filter.mp (List.mem_of_mem_drop h)).1
  · rw [returnedOf_kept hc] at h
    exact nomatch h

theorem State.linkReset_returned : Returned (s.named [t]) s.dir (s.linkReset t).dir := by
  rw [State.linkReset_eq]
  refine ⟨fun i => ((s.target t).returned (s.covering s.protects)).contains i, rfl, fun i hi => ?_⟩
  have hmem := List.contains_iff_mem.mp hi
  unfold Target.returned at hmem
  split at hmem
  next e q _ hqueue =>
    exact ⟨t, List.mem_singleton_self t, e, by rw [hqueue]; exact List.mem_cons_self, returnedOf_segments _ _ _ _ hmem⟩
  · exact nomatch hmem

theorem State.linkReset_target (v : TargetNo) :
    (s.linkReset t).target v = if v = t then (s.target t).freed (s.covering s.protects) else s.target v := by
  rw [State.linkReset_eq]
  exact State.target_withTarget s t v _

theorem State.linkReset_rest : s.linkReset t = { s with dir := (s.linkReset t).dir, targets := (s.linkReset t).targets } := by
  rw [State.linkReset_eq]
  rfl

/-! ### The targets one after another -/

/-- The targets `l` have been freed in turn, each in the state `m` that those before it have left. -/
structure State.LinksReset (s : State) (l : List TargetNo) (u : State) : Prop where
  freed : ∀ v ∈ l, ∃ m : State, u.target v = (s.target v).freed (m.covering m.protects) ∧ m.hold = s.hold ∧ m.clock = s.clock
    ∧ Follows SegEntry.Moved s.dir m.dir ∧ Follows SegEntry.Moved m.dir u.dir
  others : ∀ v, v ∉ l → u.target v = s.target v
  returned : Returned (s.named l) s.dir u.dir
  rest : u = { s with dir := u.dir, targets := u.targets }

theorem State.foldl_linkReset {l : List TargetNo} (hl : l.Nodup) : s.LinksReset l (l.foldl State.linkReset s) := by
  induction l generalizing s with
  | nil => exact ⟨fun v hv => absurd hv List.not_mem_nil, fun _ _ => rfl, Returned.refl _, rfl⟩
  | cons t l ih =>
    obtain ⟨ht, hl⟩ := List.nodup_cons.mp hl
    rw [List.foldl_cons]
    obtain ⟨hfreed, hothers, hreturned, hrest⟩ := ih (s.linkReset t) hl
    have hone := s.linkReset_returned t
    have htarget : ∀ v ∈ l, (s.linkReset t).target v = s.target v := fun v hv => by
      rw [State.linkReset_target, if_neg (by rintro rfl; exact ht hv)]
    have hnamed : ∀ i, (s.linkReset t).named l i → s.named (t :: l) i := by
      rintro i ⟨v, hv, q, hq, hi⟩
      exact ⟨v, List.mem_cons_of_mem t hv, q, by rwa [htarget v hv] at hq, hi⟩
    have hlater := hreturned.mono hnamed
    have hrest' := s.linkReset_rest t
    refine ⟨fun v hv => ?_, fun v hv => ?_, .trans (hone.mono ?_) hlater, ?_⟩
    · rcases List.mem_cons.mp hv with rfl | hv
      · exact ⟨s, by rw [hothers v ht, State.linkReset_target, if_pos rfl], rfl, rfl, .refl SegEntry.Moved.refl _,
          hone.follows.trans SegEntry.Moved.id_eq SegEntry.Moved.trans hlater.follows⟩
      · obtain ⟨m, hm, hhold, hclock, hbefore, hafter⟩ := hfreed v hv
        rw [htarget v hv] at hm
        refine ⟨m, hm, hhold.trans ?_, hclock.trans ?_,
          hone.follows.trans SegEntry.Moved.id_eq SegEntry.Moved.trans hbefore, hafter⟩
        · rw [hrest']
        · rw [hrest']
    · rw [hothers v (List.not_mem_of_not_mem_cons hv), State.linkReset_target, if_neg (List.ne_of_not_mem_cons hv)]
    · rintro i ⟨v, hv, q, hq, hi⟩
      rw [List.mem_singleton] at hv
      exact ⟨v, hv ▸ List.mem_cons_self, q, hq, hi⟩
    · rw [hrest, hrest']

end

end Sys2Proof.Machine
end

section
/-! The engine reset (R178), fourth part: the whole reset, block by block. -/

namespace Sys2Proof.Machine

/-! ### The stores after the whole reset -/

section
variable (s : State)

theorem State.commitReset_rest : s.commitReset = { s with
    dir := s.commitReset.dir, targets := s.commitReset.targets
    commit := { s.commit with queue := s.commit.current.toList ++ s.commit.queue, current := none } } := by
  unfold State.commitReset
  cases hcurrent : s.commit.current with
  | none =>
    have hsame : ({ s.commit with queue := s.commit.queue, current := none } : CommitEngine) = s.commit := by rw [← hcurrent]
    exact congrArg (fun c => ({ s with commit := c } : State)) hsame.symm
  | some c =>
    dsimp only
    cases (s.entry? c.segId).bind SegEntry.place <;> rfl

/-- Directory and targets once R102 has been followed. -/
def State.linksReset : State := [(0 : TargetNo), 1, 2, 3].foldl State.linkReset s.commitReset

theorem State.linksReset_from : s.commitReset.LinksReset [0, 1, 2, 3] s.linksReset := State.foldl_linkReset _ (by decide)

theorem State.linksReset_rest : s.linksReset = { s with
    dir := s.linksReset.dir, targets := s.linksReset.targets
    commit := { s.commit with queue := s.commit.current.toList ++ s.commit.queue, current := none } } := by
  rw [s.linksReset_from.rest, s.commitReset_rest]

theorem State.storesReset_eq : s.storesReset = match s.engine with
    | .unconfigured => s.linksReset
    | .rebuilding => { s.linksReset with
        dir := []
        targets := s.linksReset.targets.map fun k => { k with state := .absent, map := none, scan := none, xfer := none } }
    | .running => { s.linksReset with
        dir := s.linksReset.dir.filter (s.linksReset.unmade [0, 1, 2, 3])
        targets := s.linksReset.targets.map Target.scanBegunAgain } := by
  unfold State.storesReset
  cases s.engine <;> rfl

/-- R102, R87, R178 on every block. -/
theorem State.resets_eq : s.resetCommit.resetTargets.resetEngine = { s with
    engine := if s.engine = .rebuilding then .unconfigured else s.engine
    dir := s.storesReset.dir, targets := s.storesReset.targets
    commit := { s.commit with queue := s.commit.current.toList ++ s.commit.queue, current := none }
    builder := { s.builder with nextId := if s.engine = .rebuilding then some 1 else s.builder.nextId }
    expiry := { s.expiry with cursor := if s.engine = .rebuilding then 1 else s.expiry.cursor } } := by
  have hrest := s.linksReset_rest
  rw [State.resetCommit_eq, State.resetTargets_eq, State.storesReset_eq]
  change s.linksReset.resetEngine = _
  generalize s.linksReset = u at hrest ⊢
  have hengine : u.engine = s.engine := by rw [hrest]
  rw [State.resetEngine_eq, hengine]
  cases h : s.engine with
  | unconfigured =>
    rw [hrest, h]
    rfl
  | rebuilding =>
    rw [hrest]
    rfl
  | running =>
    rw [hrest, h]
    rfl

end

/-! ### The File Assembler plays no part in them -/

section
variable (s : State) (g : Assembler → Assembler)

theorem State.commitReset_onAsm : (s.onAsm g).commitReset = s.commitReset.onAsm g := by
  have hentry : ∀ id, (s.onAsm g).entry? id = s.entry? id := fun _ => rfl
  unfold State.commitReset
  dsimp only
  rw [show (s.onAsm g).commit = s.commit from rfl]
  cases s.commit.current with
  | none => rfl
  | some c =>
    dsimp only
    rw [hentry]
    cases (s.entry? c.segId).bind SegEntry.place <;> rfl

theorem State.linkReset_onAsm (t : TargetNo) : (s.onAsm g).linkReset t = (s.linkReset t).onAsm g := by
  rw [State.linkReset_eq, State.linkReset_eq]
  rfl

theorem State.linksReset_onAsm : (s.onAsm g).linksReset = s.linksReset.onAsm g := by
  unfold State.linksReset
  rw [State.commitReset_onAsm]
  generalize s.commitReset = u
  generalize [(0 : TargetNo), 1, 2, 3] = l
  induction l generalizing u with
  | nil => rfl
  | cons t l ih => rw [List.foldl_cons, List.foldl_cons, State.linkReset_onAsm, ih]

theorem State.storesReset_onAsm : (s.onAsm g).storesReset.dir = s.storesReset.dir
    ∧ (s.onAsm g).storesReset.targets = s.storesReset.targets := by
  rw [State.storesReset_eq, State.storesReset_eq, State.linksReset_onAsm]
  rw [show (s.onAsm g).engine = s.engine from rfl]
  generalize s.linksReset = u
  cases s.engine <;> exact ⟨rfl, rfl⟩

end

/-! ### The whole reset -/

/-- The state in which the aborts of the open files find an engine reset (R22). -/
def State.resetBegun (s : State) : State := { s with
  port := { s.port with
    fifo := [], directives := [], replies := [], reserved := s.hold.programTag, placeDue := false
    sending := s.port.sending.map Sending.orphan }
  notices := { s.notices with sources := s.notices.sources.map fun n =>
    { n with flag := false, snapshot := [], time := none, count := 0 } }
  coder := [], current := none, asm := { s.asm with hand := none }
  builder := { s.builder with flush := none }, dir := s.dir.map fun e => { e with pins := 0 }
  audit := { s.audit with requests := [], active := none, readBuffer := [], output := [] } }

/-- The state in which the aborts leave it. -/
def State.filesReset (s : State) : State := s.resetBegun.abortAll

/-- What an engine reset makes of the state in which the aborts have left it. -/
def State.finishReset (b : State) : State :=
  let engine : EngineState := if b.engine = .rebuilding then .unconfigured else b.engine
  let flow : Flow := flowRecompute engine b.builder.buffers.length b.port.flow
  { b with
    engine := engine
    port := { b.port with flow := flow, flowSlot := some flow }
    asm := { b.asm with lanes := b.asm.lanes.map Lane.afterReset }
    builder := { b.builder with nextId := if b.engine = .rebuilding then some 1 else b.builder.nextId }
    dir := b.storesReset.dir
    targets := b.storesReset.targets
    commit := { b.commit with queue := b.commit.current.toList ++ b.commit.queue, current := none }
    expiry := { b.expiry with pass := none, count := 0, cursor := if b.engine = .rebuilding then 1 else b.expiry.cursor } }

theorem State.engineReset_finished (s : State) : s.engineReset = s.filesReset.finishReset := by
  have hlanes : s.portsReset.resetLanes = s.filesReset.onAsm fun a => { a with lanes := a.lanes.map Lane.afterReset } := rfl
  rw [State.engineReset_eq, hlanes]
  generalize s.filesReset = b
  obtain ⟨hdir, htargets⟩ := b.storesReset_onAsm fun a => { a with lanes := a.lanes.map Lane.afterReset }
  rw [State.resets_eq, hdir, htargets]
  rfl

end Sys2Proof.Machine
end

section
/-! The engine reset (R178), fifth part: targets, extents and entries after it. -/

namespace Sys2Proof.Machine

/-! ### States of extents -/

theorem Target.extent?_withExtents (k : Target) (xs : List Nat) (st : ExtentState) (x : Nat) : (k.withExtents xs st).extent? x
    = if x ∈ xs then (k.extent? x).map fun _ => st else k.extent? x := by
  induction xs generalizing k with
  | nil =>
    have hsame : k.withExtents [] st = k := congrArg (fun m => { k with map := m }) Option.map_id'
    rw [hsame, if_neg List.not_mem_nil]
  | cons y xs ih =>
    have hstep : k.withExtents (y :: xs) st = (Target.setExtent y st k).withExtents xs st := by
      unfold Target.withExtents Target.setExtent
      rw [Option.map_map]
      rfl
    rw [hstep, ih, Target.extent?_setExtent]
    by_cases hy : x = y
    · subst hy
      rw [if_pos rfl, if_pos List.mem_cons_self, Option.map_map]
      split <;> rfl
    · simp [hy]

section
variable (s : State)

/-! ### Targets -/

/-- Where the current commit writes. -/
def State.commitPlace : Option (TargetNo × Nat) := s.commit.current.bind fun c => (s.entry? c.segId).bind SegEntry.place

/-- The extent that a target loses to the abandoned commit, if any. -/
def State.abandonedOn (v : TargetNo) : List Nat := (s.commitPlace.toList.filter fun p => p.1 = v).map Prod.snd

theorem State.commitReset_target (v : TargetNo) :
    s.commitReset.target v = (s.target v).withExtents (s.abandonedOn v) .bad := by
  have hnone : (s.target v).withExtents [] .bad = s.target v :=
    congrArg (fun m => ({ s.target v with map := m } : Target)) Option.map_id'
  unfold State.commitReset State.abandonedOn State.commitPlace
  cases s.commit.current with
  | none => exact hnone.symm
  | some c =>
    rw [Option.bind_some]
    dsimp only
    cases (s.entry? c.segId).bind SegEntry.place with
    | none => exact hnone.symm
    | some p =>
      have htarget := State.target_withTarget s p.1 v
        { s.target p.1 with map := (s.target p.1).map.map fun m => m.set p.2 .bad }
      by_cases hv : v = p.1
      · subst hv
        rw [if_pos rfl] at htarget
        rw [show ((some p).toList.filter fun q => q.1 = p.1).map Prod.snd = [p.2] by simp]
        exact htarget
      · rw [if_neg hv] at htarget
        rw [show ((some p).toList.filter fun q => q.1 = v).map Prod.snd = [] by simp [Ne.symm hv], hnone]
        exact htarget

theorem Target.freed_rest (c : Nat → Bool) (k : Target) :
    k.freed c = { k.linkIdle with map := (k.freed c).map, queue := (k.freed c).queue } := by
  unfold Target.freed
  split <;> rfl

theorem State.linksReset_target (v : TargetNo) : s.linksReset.target v
    = { (s.target v).linkIdle with map := (s.linksReset.target v).map, queue := (s.linksReset.target v).queue } := by
  obtain ⟨m, hm, -⟩ := s.linksReset_from.freed v (mem_allTargets v)
  rw [hm, Target.freed_rest, s.commitReset_target]
  rfl

/-- What the whole reset leaves of a target. -/
theorem State.storesReset_target (v : TargetNo) : s.storesReset.target v = match s.engine with
    | .unconfigured => s.linksReset.target v
    | .rebuilding => { s.linksReset.target v with state := .absent, map := none, scan := none, xfer := none }
    | .running => (s.linksReset.target v).scanBegunAgain := by
  rw [State.storesReset_eq]
  cases s.engine with
  | unconfigured => rfl
  | rebuilding => exact vget_map _ _ v
  | running => exact vget_map _ _ v

theorem Target.scanBegunAgain_none {k : Target} (h : k.scan = none) : k.scanBegunAgain = k := by
  unfold Target.scanBegunAgain
  rw [h]

theorem Target.scanBegunAgain_some {k : Target} {c : Scan} (h : k.scan = some c) : k.scanBegunAgain = { k with
    state := .scanning
    map := k.extents.map fun n => List.replicate n .bad
    scan := some { rebuild := false, extent := 0, buf := [], made := [], reply := none }
    xfer := match k.unitSize, k.gather with
      | some unit, some gather => some (unitZeroRead 0 unit gather k.ackMs)
      | _, _ => k.xfer } :=
  (Target.startScan_begunAgain h).symm.trans (Target.startScan_eq false none k)

theorem Target.scanBegunAgain_idle (k : Target) : k.scanBegunAgain.erase = k.erase
    ∧ k.scanBegunAgain.waitWrite = k.waitWrite ∧ k.scanBegunAgain.waitRead = k.waitRead
    ∧ k.scanBegunAgain.expired = k.expired ∧ k.scanBegunAgain.queue = k.queue
    ∧ (k.xfer = none → ∀ x, k.scanBegunAgain.xfer = some x → x.kind = .scan) := by
  cases h : k.scan with
  | none =>
    rw [Target.scanBegunAgain_none h]
    exact ⟨rfl, rfl, rfl, rfl, rfl, fun h x hx => by rw [h] at hx; cases hx⟩
  | some c =>
    rw [Target.scanBegunAgain_some h]
    refine ⟨rfl, rfl, rfl, rfl, rfl, fun h x hx => ?_⟩
    dsimp only at hx
    split at hx
    · cases hx
      rfl
    · rw [h] at hx
      cases hx

/-- R102: no transfer, no erase and no answer is outstanding after the reset but the read of a scan. -/
theorem State.storesReset_idle (v : TargetNo) : (s.storesReset.target v).erase = none
    ∧ (s.storesReset.target v).waitWrite = false ∧ (s.storesReset.target v).waitRead = none
    ∧ (s.storesReset.target v).expired = 0 ∧ ∀ x, (s.storesReset.target v).xfer = some x → x.kind = .scan := by
  have hidle := s.linksReset_target v
  have hnone : (s.linksReset.target v).xfer = none := by rw [hidle]; rfl
  rw [State.storesReset_target]
  cases s.engine with
  | unconfigured =>
    refine ⟨?_, ?_, ?_, ?_, fun x hx => by rw [hnone] at hx; cases hx⟩ <;> rw [hidle] <;> rfl
  | rebuilding => refine ⟨?_, ?_, ?_, ?_, fun x hx => nomatch hx⟩ <;> rw [hidle] <;> rfl
  | running =>
    obtain ⟨herase, hwrite, hread, hexpired, -, hxfer⟩ := (s.linksReset.target v).scanBegunAgain_idle
    refine ⟨herase.trans ?_, hwrite.trans ?_, hread.trans ?_, hexpired.trans ?_, hxfer hnone⟩ <;> rw [hidle] <;> rfl

/-! ### The Directory -/

theorem State.commitReset_follows : Follows SegEntry.Moved s.dir s.commitReset.dir := by
  unfold State.commitReset
  cases s.commit.current with
  | none => exact .refl SegEntry.Moved.refl _
  | some c =>
    refine ⟨fun y => if y.id = c.segId then { y with state := .sealed, place := none } else y, fun _ => true, ?_, fun e => ?_⟩
    · rw [List.filter_true]
    · dsimp only
      split <;> rfl

theorem State.linksReset_follows : Follows SegEntry.Moved s.dir s.linksReset.dir :=
  s.commitReset_follows.trans SegEntry.Moved.id_eq SegEntry.Moved.trans s.linksReset_from.returned.follows

/-- An id that no scan of RUNNING has made is kept. -/
theorem State.storesReset_kept (h : s.engine ≠ .rebuilding) : ∃ keep : Nat → Bool,
    s.storesReset.dir = s.linksReset.dir.filter (fun e => keep e.id)
    ∧ ∀ i, keep i = (s.engine = .unconfigured || [(0 : TargetNo), 1, 2, 3].all fun v =>
        (s.target v).scan.all fun k => !k.made.contains i) := by
  have hscan : ∀ v, (s.linksReset.target v).scan = (s.target v).scan := fun v => by
    rw [s.linksReset_target]
    rfl
  refine ⟨_, ?_, fun i => rfl⟩
  rw [State.storesReset_eq]
  cases hengine : s.engine with
  | unconfigured => simp
  | rebuilding => exact absurd hengine h
  | running =>
    refine List.filter_congr fun e _ => ?_
    unfold State.unmade
    simp only [hscan]
    simp

theorem State.storesReset_follows : Follows SegEntry.Moved s.dir s.storesReset.dir := by
  by_cases h : s.engine = .rebuilding
  · rw [State.storesReset_eq, h]
    exact ⟨fun e => e, fun _ => false, by simp, SegEntry.Moved.refl⟩
  · obtain ⟨keep, hkeep, -⟩ := s.storesReset_kept h
    refine s.linksReset_follows.trans SegEntry.Moved.id_eq SegEntry.Moved.trans ⟨fun e => e, keep, ?_, SegEntry.Moved.refl⟩
    rw [hkeep, List.map_id']

theorem State.commitReset_ids : s.commitReset.dir.map SegEntry.id = s.dir.map SegEntry.id := by
  unfold State.commitReset
  cases s.commit.current with
  | none => rfl
  | some c =>
    dsimp only
    rw [List.map_map]
    refine List.map_congr_left fun y _ => ?_
    rw [Function.comp_apply]
    split <;> rfl

theorem State.storesReset_ids (h : s.engine ≠ .rebuilding) : s.storesReset.dir.map SegEntry.id
    = (s.dir.filter fun e => s.engine = .unconfigured || [(0 : TargetNo), 1, 2, 3].all fun v =>
        (s.target v).scan.all fun k => !k.made.contains e.id).map SegEntry.id := by
  obtain ⟨keep, hdir, hkeep⟩ := s.storesReset_kept h
  have hfilter : ∀ d : List SegEntry, (d.filter fun e => keep e.id).map SegEntry.id = (d.map SegEntry.id).filter keep :=
    fun d => List.filter_map.symm
  have hids : s.linksReset.dir.map SegEntry.id = s.dir.map SegEntry.id :=
    s.linksReset_from.returned.ids.trans s.commitReset_ids
  rw [hdir, hfilter, hids, ← hfilter]
  simp only [hkeep]

end

end Sys2Proof.Machine
end

section
/-! The engine reset (R178), sixth part: the commit, the erases and the scans that it finds in hand (R102, R87). -/

namespace Sys2Proof.Machine

section
variable {s : State}

/-! ### Targets without a scan -/

theorem State.linksReset_scan (s : State) (v : TargetNo) : (s.linksReset.target v).scan = (s.target v).scan := by
  rw [s.linksReset_target]
  rfl

theorem State.storesReset_scanless (h : s.engine ≠ .rebuilding) {v : TargetNo} (hscan : (s.target v).scan = none) :
    s.storesReset.target v = s.linksReset.target v := by
  rw [State.storesReset_target]
  cases hengine : s.engine with
  | unconfigured => rfl
  | rebuilding => exact absurd hengine h
  | running => exact Target.scanBegunAgain_none ((s.linksReset_scan v).trans hscan)

theorem State.scan_of_storesReset (h : s.engine ≠ .rebuilding) {v : TargetNo} (hscan : (s.storesReset.target v).scan = none) :
    (s.target v).scan = none := by
  rw [State.storesReset_target] at hscan
  rw [← s.linksReset_scan v]
  cases hengine : s.engine with
  | unconfigured =>
    rw [hengine] at hscan
    exact hscan
  | rebuilding => exact absurd hengine h
  | running =>
    rw [hengine] at hscan
    cases hk : (s.linksReset.target v).scan with
    | none => rfl
    | some c =>
      rw [Target.scanBegunAgain_some hk] at hscan
      cases hscan

/-! ### The commit in hand -/

theorem State.commitReset_entry? {c : CommitEntry} (hcurrent : s.commit.current = some c) :
    s.commitReset.entry? c.segId = (s.entry? c.segId).map fun e => { e with state := .sealed, place := none } := by
  unfold State.commitReset
  rw [hcurrent]
  refine (find?_map_of_keeps (p := fun e : SegEntry => decide (e.id = c.segId)) (fun e => by split <;> rfl) s.dir).trans ?_
  exact Option.map_congr fun e he => if_pos (find?_id he)

/-- An id that no erase entry names and no scan has made is found as R102 leaves it. -/
theorem State.storesReset_entry? (h : s.engine ≠ .rebuilding) {i : Nat}
    (hnamed : ∀ v, ∀ q ∈ (s.target v).queue, i ∉ q.segments) (hmade : ∀ v k, (s.target v).scan = some k → i ∉ k.made) :
    s.storesReset.entry? i = s.commitReset.entry? i := by
  obtain ⟨keep, hdir, hkeep⟩ := s.storesReset_kept h
  have hi : keep i = true := by
    rw [hkeep, Bool.or_eq_true_iff]
    refine .inr (List.all_eq_true.mpr fun v _ => ?_)
    cases hk : (s.target v).scan with
    | none => rfl
    | some k => simpa using hmade v k hk
  have hfound : s.storesReset.entry? i = s.linksReset.entry? i := by
    have hkept := Follows.find?_kept (d := s.linksReset.dir) (f := fun e => e) (keep := keep) SegEntry.Moved.id_eq
      SegEntry.Moved.refl hi
    rw [List.map_id', Option.map_id', ← hdir] at hkept
    exact hkept
  rw [hfound]
  refine s.linksReset_from.returned.find?_other ?_
  rintro ⟨v, -, q, hq, hmem⟩
  rw [s.commitReset_target] at hq
  exact hnamed v q hq hmem

theorem Target.freed_extent? (c : Nat → Bool) (k : Target) {x : Nat} (hx : ∀ q ∈ k.queue, x ∉ q.extents) :
    (k.freed c).extent? x = k.extent? x := by
  unfold Target.freed
  split
  next e q _ hqueue =>
    have hnot := hx e (by rw [hqueue]; exact List.mem_cons_self)
    unfold EraseEntry.extents at hnot
    rw [List.mem_append, not_or] at hnot
    obtain ⟨hmembers, hfillers⟩ := hnot
    refine (Target.extent?_withExtents _ _ .free x).trans ((if_neg ?_).trans ((Target.extent?_withExtents k _ .written x).trans
      (if_neg hmembers)))
    split
    · exact hfillers
    · exact List.not_mem_nil
  · rfl

theorem State.storesReset_committing {c : CommitEntry} {e : SegEntry} {v : TargetNo} {x : Nat} (h : s.engine ≠ .rebuilding)
    (hcurrent : s.commit.current = some c) (he : s.entry? c.segId = some e) (hplace : e.place = some (v, x))
    (hmade : ∀ u k, (s.target u).scan = some k → c.segId ∉ k.made) (hextents : ∀ q ∈ (s.target v).queue, x ∉ q.extents)
    (hnamed : ∀ u, ∀ q ∈ (s.target u).queue, c.segId ∉ q.segments) :
    s.storesReset.entry? c.segId = some { e with state := .sealed, place := none }
    ∧ ((s.target v).extent? x ≠ none → (s.storesReset.target v).scan = none →
        (s.storesReset.target v).extent? x = some .bad) := by
  refine ⟨?_, fun hin hscan => ?_⟩
  · rw [State.storesReset_entry? h hnamed hmade, State.commitReset_entry? hcurrent, he]
    rfl
  · have hlost : s.abandonedOn v = [x] := by
      unfold State.abandonedOn State.commitPlace
      rw [hcurrent, Option.bind_some, he, Option.bind_some, hplace]
      simp
    obtain ⟨m, hm, -⟩ := s.linksReset_from.freed v (mem_allTargets v)
    rw [State.storesReset_scanless h (State.scan_of_storesReset h hscan), hm, Target.freed_extent? _ _ ?_,
      s.commitReset_target, hlost, Target.extent?_withExtents, if_pos (List.mem_singleton_self x)]
    · obtain ⟨st, hst⟩ := Option.ne_none_iff_exists'.mp hin
      rw [hst]
      rfl
    · rw [s.commitReset_target]
      exact hextents

/-! ### An erase in hand -/

/-- What R102 leaves of a target with an erase issued: the coverage tested is that of the entries as `m` holds them. -/
theorem State.storesReset_issued {u : TargetNo} {y : EraseSlot} {q : EraseEntry} {rest : List EraseEntry}
    (h : s.engine ≠ .rebuilding) (herase : (s.target u).erase = some y) (hqueue : (s.target u).queue = q :: rest)
    (hscan : (s.target u).scan = none) :
    ∃ m : State, m.hold = s.hold ∧ m.clock = s.clock ∧ Follows SegEntry.Moved s.dir m.dir
      ∧ Follows SegEntry.Moved m.dir s.storesReset.dir
      ∧ (s.storesReset.target u).queue = q.replaced (m.covering m.protects) rest.length ++ rest
      ∧ ∀ x ∈ q.members.map Prod.fst, (s.target u).extent? x ≠ none → q.segments.any (m.covering m.protects) = false →
          (s.storesReset.target u).extent? x = some .written := by
  obtain ⟨m, hm, hhold, hclock, hbefore, hafter⟩ := s.linksReset_from.freed u (mem_allTargets u)
  have hfreed : (s.commitReset.target u).freed (m.covering m.protects)
      = { (((s.commitReset.target u).withExtents (q.members.map Prod.fst) .written).withExtents
          (if q.segments.any (m.covering m.protects) then q.fillers else []) .free).linkIdle
        with queue := q.replaced (m.covering m.protects) rest.length ++ rest } := by
    have herase' : (s.commitReset.target u).erase = some y := by
      rw [s.commitReset_target]
      exact herase
    have hqueue' : (s.commitReset.target u).queue = q :: rest := by
      rw [s.commitReset_target]
      exact hqueue
    unfold Target.freed
    rw [herase', hqueue']
  have hkept : Follows SegEntry.Moved s.linksReset.dir s.storesReset.dir := by
    obtain ⟨keep, hkeep, -⟩ := s.storesReset_kept h
    exact ⟨fun e => e, keep, by rw [hkeep, List.map_id'], SegEntry.Moved.refl⟩
  rw [State.storesReset_scanless h hscan, hm, hfreed]
  refine ⟨m, ?_, ?_, s.commitReset_follows.trans SegEntry.Moved.id_eq SegEntry.Moved.trans hbefore,
    hafter.trans SegEntry.Moved.id_eq SegEntry.Moved.trans hkept, rfl, fun x hx hin huncovered => ?_⟩
  · rw [hhold, s.commitReset_rest]
  · rw [hclock, s.commitReset_rest]
  · refine (Target.extent?_withExtents _ _ .free x).trans ?_
    rw [huncovered, if_neg (by rw [if_neg Bool.false_ne_true]; exact List.not_mem_nil), Target.extent?_withExtents, if_pos hx,
      s.commitReset_target, Target.extent?_withExtents]
    obtain ⟨st, hst⟩ := Option.ne_none_iff_exists'.mp hin
    rw [hst]
    split <;> rfl

/-! ### A scan in hand -/

theorem State.storesReset_scanning {u : TargetNo} {k : Scan} (h : s.engine = .running) (hscan : (s.target u).scan = some k) :
    (s.storesReset.target u).state = .scanning ∧ (∀ e ∈ s.storesReset.dir, e.id ∉ k.made)
    ∧ (s.storesReset.target u).scan = some { rebuild := false, extent := 0, buf := [], made := [], reply := none }
    ∧ (s.storesReset.target u).map = (s.target u).extents.map (fun n => List.replicate n .bad)
    ∧ ∀ unit gather, (s.target u).unitSize = some unit → (s.target u).gather = some gather →
        (s.storesReset.target u).xfer = some (unitZeroRead 0 unit gather (s.target u).ackMs) := by
  have htarget : s.storesReset.target u = (s.linksReset.target u).scanBegunAgain := by
    rw [State.storesReset_target, h]
  have hrest := s.linksReset_target u
  have hsame : (s.linksReset.target u).extents = (s.target u).extents ∧ (s.linksReset.target u).unitSize = (s.target u).unitSize
      ∧ (s.linksReset.target u).gather = (s.target u).gather ∧ (s.linksReset.target u).ackMs = (s.target u).ackMs := by
    rw [hrest]
    exact ⟨rfl, rfl, rfl, rfl⟩
  obtain ⟨hextents, hunit, hgather, hack⟩ := hsame
  rw [htarget, Target.scanBegunAgain_some ((s.linksReset_scan u).trans hscan)]
  refine ⟨rfl, fun e he hmade => ?_, rfl, congrArg (Option.map _) hextents, fun unit gather hu hg => ?_⟩
  · obtain ⟨keep, hdir, hkeep⟩ := s.storesReset_kept (by rw [h]; exact nofun)
    rw [hdir] at he
    have hkept := (List.mem_filter.mp he).2
    rw [hkeep, h, Bool.or_eq_true_iff] at hkept
    have hall := List.all_eq_true.mp (hkept.resolve_left (by decide)) u (mem_allTargets u)
    rw [hscan, Option.all_some] at hall
    simp [hmade] at hall
  · dsimp only
    rw [hunit, hu, hgather, hg, hack]

end

end Sys2Proof.Machine
end

section
/-! The engine reset (R178), last part: O5. -/

namespace Sys2Proof.Machine

/-! ### The state in which the aborts leave the part -/

/-- `b` is the state in which the aborts of an engine reset of `s` leave the part (R22). -/
structure State.FilesReset (s b : State) : Prop where
  ending : s.resetBegun.Ending b
  quiet : s.resetBegun.Quiet b
  aborts : State.ResetAborts s.resetBegun b

theorem State.filesReset_to (s : State) : s.FilesReset s.filesReset :=
  ⟨State.Ending.abortAll _, State.Quiet.abortAll _, State.abortAll_resetAborts _⟩

theorem State.resetBegun_entry? (s : State) (i : Nat) :
    s.resetBegun.entry? i = (s.entry? i).map fun e => { e with pins := 0 } :=
  find?_map_of_keeps (f := fun e : SegEntry => { e with pins := 0 }) (p := fun e : SegEntry => decide (e.id = i))
    (fun _ => rfl) s.dir

theorem State.Quiet.entry? {s t : State} (h : s.Quiet t) {i : Nat} {e : SegEntry} (he : t.entry? i = some e) :
    ∃ e0, s.entry? i = some e0 ∧ e0.Voided e :=
  h.dir.find? SegEntry.Voided.id_eq he

namespace State.FilesReset

variable {s b : State}

theorem blocks (hb : s.FilesReset b) : b.pending = s.pending ∧ b.engine = s.engine ∧ b.current = none ∧ b.clock = s.clock
    ∧ b.tables = s.tables ∧ b.hold = s.hold ∧ b.targets = s.targets ∧ b.expiry = s.expiry ∧ b.coder = []
    ∧ b.commit.current = s.commit.current := by
  have hcommit := (congrArg CommitEngine.current hb.ending.commit :)
  rw [hb.ending.rest]
  exact ⟨rfl, rfl, rfl, rfl, rfl, rfl, rfl, rfl, rfl, hcommit⟩

theorem engine (hb : s.FilesReset b) : b.engine = s.engine := by
  obtain ⟨-, hengine, -⟩ := hb.blocks
  exact hengine

theorem current (hb : s.FilesReset b) : b.commit.current = s.commit.current := by
  obtain ⟨-, -, -, -, -, -, -, -, -, hcommit⟩ := hb.blocks
  exact hcommit

theorem hold (hb : s.FilesReset b) : b.hold = s.hold := by
  obtain ⟨-, -, -, -, -, hhold, -⟩ := hb.blocks
  exact hhold

theorem clock (hb : s.FilesReset b) : b.clock = s.clock := by
  obtain ⟨-, -, -, hclock, -⟩ := hb.blocks
  exact hclock

theorem target (hb : s.FilesReset b) (v : TargetNo) : b.target v = s.target v := by
  obtain ⟨-, -, -, -, -, -, htargets, -⟩ := hb.blocks
  unfold State.target
  rw [htargets]

/-- An entry that the aborts leave was there, with its class and day, and a FIRM run is none that they have made. -/
theorem entry? (hb : s.FilesReset b) {i : Nat} {e : SegEntry} (h : b.entry? i = some e) :
    ∃ e0, s.entry? i = some e0 ∧ e.cls = e0.cls ∧ e.day = e0.day
      ∧ ((∃ r ∈ e.runs, r.status = .firm) → ∃ r ∈ e0.runs, r.status = .firm) := by
  obtain ⟨e1, he1, -, hcls, hday, -, hfirm⟩ := hb.quiet.entry? h
  obtain ⟨e0, he0, rfl⟩ := Option.map_eq_some_iff.mp ((s.resetBegun_entry? i).symm.trans he1)
  exact ⟨e0, he0, hcls, hday, hfirm⟩

theorem committing (hb : s.FilesReset b) {i : Nat} {e : SegEntry} (he : s.entry? i = some e) (hst : e.state = .committing) :
    ∃ e', b.entry? i = some e' ∧ e'.place = e.place ∧ e'.attempts = e.attempts := by
  have hbegun : s.resetBegun.entry? i = some { e with pins := 0 } := by
    rw [State.resetBegun_entry?, he]
    rfl
  obtain ⟨e', he', -, hplace, hattempts⟩ := hb.quiet.committing i _ hbegun hst
  exact ⟨e', he', hplace, hattempts⟩

theorem pins (hb : s.FilesReset b) {e : SegEntry} (h : e ∈ b.dir) : e.pins = 0 := by
  obtain ⟨e1, he1, -, -, -, hpins, -⟩ := hb.quiet.dir.mem h
  obtain ⟨e0, -, rfl⟩ := List.mem_map.mp he1
  exact hpins

end State.FilesReset

/-! ### What a hold or the Guard Window covers -/

theorem State.covering_protects_iff {m : State} {i : Nat} : m.covering m.protects i = true ↔ ∃ e, m.entry? i = some e
    ∧ ((∃ h ∈ m.hold.holds, h.covers e.day e.cls = true) ∨ m.hold.guard.covers m.now.day (oldestDay m.dir) e.day = true)
    ∧ ∃ r ∈ e.runs, r.status = .firm := by
  unfold State.covering State.protects
  rw [Option.any_eq_true]
  simp

section
variable {s b : State} {u : TargetNo} {q : EraseEntry} {rest : List EraseEntry} {m : State}

/-- R102: with no member that a hold or the window covers the entry goes back as it was. -/
theorem State.none_covered (hb : s.FilesReset b) (hhold : m.hold = b.hold) (hclock : m.clock = b.clock)
    (hfollows : Follows SegEntry.Moved b.dir m.dir)
    (hfree : ∀ id ∈ q.segments, ∀ e, s.entry? id = some e → (∃ r ∈ e.runs, r.status = .firm) →
      (∀ h ∈ s.hold.holds, h.covers e.day e.cls = false)
      ∧ ∀ oldest, s.hold.guard.covers s.now.day oldest e.day = false) :
    q.segments.any (m.covering m.protects) = false := by
  rw [Bool.eq_false_iff]
  intro hany
  obtain ⟨id, hid, hcovered⟩ := List.any_eq_true.mp hany
  obtain ⟨e, he, hcovers, hfirm⟩ := State.covering_protects_iff.mp hcovered
  obtain ⟨e1, he1, hmoved⟩ := hfollows.find? SegEntry.Moved.id_eq he
  obtain ⟨-, hcls1, hday1, -, hfirm1⟩ := hmoved.voided
  obtain ⟨e0, he0, hcls0, hday0, hfirm0⟩ := hb.entry? he1
  obtain ⟨hholds, hguard⟩ := hfree id hid e0 he0 (hfirm0 (hfirm1 hfirm))
  have hnow : m.now = s.now := congrArg (fun c : Clock => c.reading.getD Config.unsetReading) (hclock.trans hb.clock)
  rw [hhold, hb.hold, hnow, hday1.trans hday0, hcls1.trans hcls0] at hcovers
  rcases hcovers with ⟨h, hh, hc⟩ | hc
  · rw [hholds h hh] at hc
    cases hc
  · rw [hguard] at hc
    cases hc

/-- R102: what stands in the place of the returned erase names members alone that no hold covers. -/
theorem State.front_uncovered (hb : s.FilesReset b) {t : State} (hhold : m.hold = b.hold)
    (hfollows : Follows SegEntry.Moved m.dir t.dir) {z : EraseEntry} {others : Nat}
    (hz : z ∈ q.replaced (m.covering m.protects) others) {id : Nat} (hid : id ∈ z.segments) :
    id ∈ q.segments ∧ ∀ e, t.entry? id = some e → (∃ r ∈ e.runs, r.status = .firm) →
      ∀ h ∈ s.hold.holds, h.covers e.day e.cls = false := by
  have hmember : id ∈ q.segments ∧ m.covering m.protects id = false := by
    unfold EraseEntry.replaced at hz
    split at hz
    next hany =>
      obtain ⟨p, hp, rfl⟩ := List.mem_map.mp hz
      obtain ⟨hp, hfree⟩ := List.mem_filter.mp (List.mem_of_mem_take hp)
      have hone : id = p.2 := by simpa [EraseEntry.segments, EraseEntry.members] using hid
      rw [hone]
      exact ⟨List.mem_map_of_mem hp, by simpa using hfree⟩
    next hnone =>
      rw [List.mem_singleton] at hz
      subst hz
      exact ⟨hid, by simpa using fun hc => hnone (List.any_eq_true.mpr ⟨id, hid, hc⟩)⟩
  refine ⟨hmember.1, fun e he hfirm h hh => ?_⟩
  obtain ⟨e1, he1, hmoved⟩ := hfollows.find? SegEntry.Moved.id_eq he
  obtain ⟨-, hcls, hday, -, hfirm1⟩ := hmoved.voided
  rw [Bool.eq_false_iff]
  intro hc
  refine Bool.eq_false_iff.mp hmember.2 (State.covering_protects_iff.mpr ⟨e1, he1, .inl ⟨h, ?_, ?_⟩, hfirm1 hfirm⟩)
  · rw [hhold, hb.hold]
    exact hh
  · rw [← hcls, ← hday]
    exact hc

/-! ### The parts of O5 -/

theorem State.finishReset_port (hb : s.FilesReset b) : b.finishReset.port = { s.port with
    fifo := [], directives := [], replies := [], reserved := s.hold.programTag, placeDue := false
    flow := b.finishReset.port.flow, flowSlot := some b.finishReset.port.flow
    sending := s.port.sending.map Sending.orphan } := by
  obtain ⟨-, hreplies, hreserved⟩ := hb.quiet.replies rfl
  have hport := hb.ending.port
  generalize hf : b.finishReset.port.flow = f
  have hfinish : b.finishReset.port = { b.port with flow := f, flowSlot := some f } := by
    rw [← hf]
    rfl
  rw [hfinish, hport]
  unfold Port.withReplies
  rw [hreplies, hreserved]
  rfl

theorem State.finishReset_sources (hb : s.FilesReset b) (i : Fin 8) (hi : 2 ≤ i.val) :
    (vget b.notices.sources i).flag = false ∧ (vget b.notices.sources i).count = 0
    ∧ (vget b.notices.sources i).enable = (vget s.notices.sources i).enable := by
  have hcleared : vget s.resetBegun.notices.sources i
      = { vget s.notices.sources i with flag := false, snapshot := [], time := none, count := 0 } := vget_map _ _ i
  rw [hb.ending.sources i hi, hcleared]
  exact ⟨rfl, rfl, rfl⟩

theorem State.flow_paused (h : b.finishReset.engine ≠ .running ∨ 30 ≤ b.finishReset.builder.buffers.length) :
    b.finishReset.port.flow = .pause := if_pos h

theorem State.flow_goes (h : b.finishReset.engine = .running ∧ b.finishReset.builder.buffers.length ≤ 26) :
    b.finishReset.port.flow = .go := by
  obtain ⟨hengine, hfew⟩ := h
  refine (if_neg ?_).trans (if_pos hfew)
  rintro (h | h)
  · exact h hengine
  · exact absurd (Nat.le_trans h hfew) (by decide)

theorem State.flow_stays (h : b.finishReset.engine = .running ∧ 26 < b.finishReset.builder.buffers.length
    ∧ b.finishReset.builder.buffers.length < 30) : b.finishReset.port.flow = b.port.flow := by
  obtain ⟨hengine, hlow, hhigh⟩ := h
  refine (if_neg ?_).trans (if_neg (Nat.not_le.mpr hlow))
  rintro (h | h)
  · exact h hengine
  · exact absurd hhigh (Nat.not_lt.mpr h)

theorem State.finishReset_commit (hb : s.FilesReset b) : b.finishReset.commit
    = { b.commit with queue := s.commit.current.toList ++ b.commit.queue, current := none } := by
  rw [← hb.current]
  rfl

/-- R178: a reset during REBUILDING. -/
theorem State.finishReset_rebuild (hb : s.FilesReset b) (h : s.engine = .rebuilding) :
    b.finishReset.dir = [] ∧ b.finishReset.builder.nextId = some 1
    ∧ ∀ u, (b.finishReset.target u).state = .absent ∧ (b.finishReset.target u).map = none
      ∧ (b.finishReset.target u).scan = none := by
  have hengine := hb.engine.trans h
  refine ⟨?_, if_pos hengine, fun u => ?_⟩
  · show b.storesReset.dir = []
    rw [State.storesReset_eq, hengine]
  · show (b.storesReset.target u).state = .absent ∧ (b.storesReset.target u).map = none ∧ (b.storesReset.target u).scan = none
    rw [State.storesReset_target, hengine]
    exact ⟨rfl, rfl, rfl⟩

/-- R102 on the commit in hand. -/
theorem State.finishReset_committing (hb : s.FilesReset b) (hr : s.engine ≠ .rebuilding) {c : CommitEntry} {e : SegEntry}
    {v : TargetNo} {x : Nat} (hcurrent : s.commit.current = some c) (he : s.entry? c.segId = some e)
    (hst : e.state = .committing) (hplace : e.place = some (v, x))
    (hmade : ∀ u k, (s.target u).scan = some k → c.segId ∉ k.made) (hextents : ∀ q ∈ (s.target v).queue, x ∉ q.extents)
    (hnamed : ∀ u, ∀ q ∈ (s.target u).queue, c.segId ∉ q.segments) :
    b.finishReset.commit.queue.head? = some c
    ∧ (∃ e', b.finishReset.entry? c.segId = some e' ∧ e'.state = .sealed ∧ e'.place = none ∧ e'.attempts = e.attempts)
    ∧ ((s.target v).extent? x ≠ none → (b.finishReset.target v).scan = none →
        (b.finishReset.target v).extent? x = some .bad) := by
  obtain ⟨e', he', hplace', hattempts⟩ := hb.committing he hst
  obtain ⟨hentry, hbad⟩ := State.storesReset_committing (by rw [hb.engine]; exact hr) (hb.current.trans hcurrent) he'
    (hplace'.trans hplace) (fun u k => by rw [hb.target]; exact hmade u k) (by rw [hb.target]; exact hextents)
    fun u => by rw [hb.target]; exact hnamed u
  refine ⟨?_, ⟨_, hentry, rfl, rfl, hattempts⟩, ?_⟩
  · rw [State.finishReset_commit hb, hcurrent]
    rfl
  · rw [← hb.target]
    exact hbad

/-- R102 on an erase in hand. -/
theorem State.finishReset_issued (hb : s.FilesReset b) (hr : s.engine ≠ .rebuilding) {y : EraseSlot}
    (herase : (s.target u).erase = some y) (hqueue : (s.target u).queue = q :: rest) (hscan : (s.target u).scan = none) :
    ((∀ id ∈ q.segments, ∀ e, s.entry? id = some e → (∃ r ∈ e.runs, r.status = .firm) →
          (∀ h ∈ s.hold.holds, h.covers e.day e.cls = false)
          ∧ ∀ oldest, s.hold.guard.covers s.now.day oldest e.day = false) →
      (b.finishReset.target u).queue = q :: rest
      ∧ ∀ x ∈ q.members.map Prod.fst, (s.target u).extent? x ≠ none → (b.finishReset.target u).extent? x = some .written)
    ∧ ∃ front, (b.finishReset.target u).queue = front ++ rest
      ∧ ∀ z ∈ front, ∀ id ∈ z.segments, id ∈ q.segments
        ∧ ∀ e, b.finishReset.entry? id = some e → (∃ r ∈ e.runs, r.status = .firm) →
            ∀ h ∈ s.hold.holds, h.covers e.day e.cls = false := by
  obtain ⟨m, hhold, hclock, hbefore, hafter, hleft, hwritten⟩ := State.storesReset_issued (s := b) (u := u) (y := y) (q := q)
    (rest := rest) (by rw [hb.engine]; exact hr) (by rw [hb.target]; exact herase) (by rw [hb.target]; exact hqueue)
    (by rw [hb.target]; exact hscan)
  refine ⟨fun hfree => ?_, _, hleft, fun z hz id hid => State.front_uncovered hb hhold hafter hz hid⟩
  have hnone := State.none_covered hb hhold hclock hbefore hfree
  refine ⟨hleft.trans ?_, fun x hx hin => hwritten x hx (by rw [hb.target]; exact hin) hnone⟩
  rw [EraseEntry.replaced_kept (by rw [hnone]; exact Bool.false_ne_true)]
  rfl

theorem State.engineReset_of_takes {tag : Tag} {rest : List Directive} (h : s.Takes 0x19 tag [] rest) :
    engineResetDirective s = (s.engineReset).replied tag .done false [] := by
  have hcurrent : s.engineReset.current = none := by
    obtain ⟨-, -, hcurrent, -⟩ := s.filesReset_to.blocks
    rw [State.engineReset_finished]
    generalize s.filesReset = b at hcurrent ⊢
    exact hcurrent
  refine (State.directive_of_takes h readNothing_nil _).trans ?_
  have hsame : (s.takeDirective { code := 0x19, tag := tag, payload := [] }).engineReset = s.engineReset := rfl
  rw [hsame]
  generalize s.engineReset = x at hcurrent ⊢
  rw [State.answer_eq]
  exact congrArg (fun c => ({ x.replied tag .done false [] with current := c } : State)) hcurrent.symm

end

/-- Settles O5. -/
theorem engineResetEffect : Obligations.EngineResetEffect := by
  intro s
  refine ⟨s.engineReset, rfl, fun tag rest h => congrArg Host.Outcome.next (State.engineReset_of_takes h), ?_⟩
  have hb := s.filesReset_to
  rw [State.engineReset_finished]
  generalize s.filesReset = b at hb ⊢
  obtain ⟨hpending, hengine, hcurrent, hclock, htables, hhold, htargets, hexpiry, hcoder, hcommit⟩ := hb.blocks
  have hrequests := hb.ending.audit
  have hstores : ∀ e' ∈ b.storesReset.dir, ∃ e ∈ b.dir, e.Moved e' := fun e' he' => b.storesReset_follows.mem he'
  refine ⟨hclock, htables, hhold, hpending, hcurrent, ?_, State.finishReset_rebuild hb, State.finishReset_port hb,
    State.flow_paused, State.flow_goes, fun l => ?_, ?_, (hb.quiet.replies rfl).1, rfl, hcoder,
    (congrArg Audit.requests hrequests :), (congrArg Audit.active hrequests :), (congrArg Audit.output hrequests :),
    fun e he => ?_, ?_, b.storesReset_idle, hb.ending.notices, fun i hi => (State.finishReset_sources hb i hi :),
    ⟨s.resetBegun, b, hb.aborts, rfl, rfl, rfl, rfl, rfl, rfl, State.flow_stays, ?_, State.finishReset_commit hb,
      fun hr => ?_, fun e' he' => ?_⟩,
    fun hr => ⟨fun c e v x hc he hst hplace hmade hextents hnamed =>
        State.finishReset_committing hb hr hc he hst hplace hmade hextents hnamed,
      fun u y q rest herase hqueue hscan => ?_⟩,
    fun hr u k hscan => ?_⟩
  · rw [← hengine]
    rfl
  · have hlane : b.finishReset.lane l = Lane.afterReset (b.lane l) := vget_map _ _ l
    rw [hlane]
    exact ⟨rfl, rfl, rfl, rfl, rfl, rfl⟩
  · exact (congrArg (fun a : Assembler => { a with lanes := b.asm.lanes.map Lane.afterReset }) hb.ending.asm :)
  · obtain ⟨e0, he0, hmoved⟩ := hstores e he
    obtain ⟨-, -, -, hpins, -⟩ := hmoved.voided
    exact hpins.trans (hb.pins he0)
  · rw [← hexpiry, ← hengine]
    rfl
  · rw [← hengine]
    rfl
  · rw [← hengine]
    have hscans : ∀ v, (s.target v).scan = (b.target v).scan := fun v => by rw [hb.target]
    simp only [hscans]
    exact b.storesReset_ids (by rw [hengine]; exact hr)
  · obtain ⟨e, he, hmoved⟩ := hstores e' he'
    refine ⟨e, he, ?_⟩
    rw [hmoved]
    exact ⟨rfl, rfl, rfl⟩
  · obtain ⟨hback, hfront⟩ := State.finishReset_issued hb hr herase hqueue hscan
    exact ⟨fun hfree => ⟨(hback hfree).1, fun x hx hin _ => (hback hfree).2 x hx hin⟩, hfront⟩
  · rw [← hb.target] at hscan ⊢
    exact State.storesReset_scanning (hengine.trans hr) hscan

end Sys2Proof.Machine
end

section
/-! Frames and parameters: what stands where in octets laid end to end, and the readers of the directives (R179). -/

namespace Sys2Proof.Machine

/-! ### Parts of octets laid end to end -/

section
variable {a r : List Byte} {off n : Nat}

@[simp] theorem slice_append_left (h : off + n ≤ a.length) : slice (a ++ r) off n = slice a off n := by
  unfold slice
  rw [List.drop_append_of_le_length (by omega), List.take_append_of_le_length (by rw [List.length_drop]; omega)]

@[simp] theorem slice_append_right (h : a.length ≤ off) : slice (a ++ r) off n = slice r (off - a.length) n := by
  unfold slice
  rw [List.drop_append, List.drop_eq_nil_of_le h, List.nil_append]

@[simp] theorem slice_whole (h : a.length = n) : slice a 0 n = a := by
  rw [← h, slice, List.drop_zero, List.take_length]

end

/-! ### Lengths and values of the encodings -/

@[simp] theorem length_named (n : Nat) : (named n).length = 1 := length_be 1 n

@[simp] theorem length_flagOctet (b : Bool) : (flagOctet b).length = 1 := by cases b <;> rfl

@[simp] theorem length_optNum (w : Nat) (x : Option Nat) : (optNum w x).length = w + 1 := by
  cases x <;> simp [optNum]

@[simp] theorem beNat_be1 {v : Nat} (h : v < 256) : beNat (be 1 v) = v := beNat_be h
@[simp] theorem beNat_be2 {v : Nat} (h : v < 65536) : beNat (be 2 v) = v := beNat_be h
@[simp] theorem beNat_be4 {v : Nat} (h : v < 4294967296) : beNat (be 4 v) = v := beNat_be h
@[simp] theorem beNat_named {v : Nat} (h : v < 256) : beNat (named v) = v := beNat_be h

theorem flagAt_of_slice {l : List Byte} {off : Nat} {b : Bool} (h : slice l off 1 = flagOctet b) : flagAt l off = some b := by
  unfold flagAt octetAt fieldAt
  rw [h]
  cases b <;> rfl

/-- A field that may be absent is read back at its offset. -/
theorem optAt_of_slice {l : List Byte} {off w : Nat} {x : Option Nat} (h : slice l off (w + 1) = optNum w x)
    (hx : ∀ v, x = some v → v < 256 ^ w) : optAt l off w = some x := by
  have hmark : slice l off 1 = slice (optNum w x) 0 1 := by
    rw [← h, slice_slice l (by omega)]
    rfl
  have hvalue : slice l (off + 1) w = slice (optNum w x) 1 w := by
    rw [← h, slice_slice l (by omega)]
  unfold optAt octetAt fieldAt
  rw [hmark, hvalue]
  cases x with
  | none => rfl
  | some v =>
    have hbe : slice (optNum w (some v)) 1 w = be w v := slice_whole (length_be w v)
    rw [hbe, beNat_be (hx v rfl)]
    rfl

/-! ### Directives with a fixed layout -/

section
variable {a b c d n : Nat} {flag other : Bool} (ha : a < 4294967296) (hb : b < 4294967296) (hc : c < 4294967296)
  (hd : d < 4294967296)

include hb in
theorem readSetClock_octets (ha : a < 65536) : readSetClock (be 2 a ++ be 4 b) = some { day := a, second := b } := by
  simp [readSetClock, fieldAt, ha, hb]

include ha hb hc in
theorem readSetDayPolicy_octets : readSetDayPolicy (be 4 a ++ be 4 b ++ be 4 c)
    = some { closeDelay := a, acceptWindow := b, laneTimeout := c } := by
  simp [readSetDayPolicy, fieldAt, ha, hb, hc]

include ha hb hc in
theorem readSetSweep_octets {m : SweepMode} (hm : sweepModeOf n = some m) (hn : n < 256) (flag : Bool) :
    readSetSweep (named n ++ flagOctet flag ++ be 4 a ++ be 4 b ++ be 4 c)
      = some { mode := m, alternate := flag, interval := a, batch := b, scrubBatch := c } := by
  unfold readSetSweep
  rw [if_pos (by simp), flagAt_of_slice (b := flag) (by simp)]
  simp [octetAt, fieldAt, hn, hm, ha, hb, hc]

theorem readSetGuard_octets {m : Anchor} (hm : anchorOf n = some m) (hn : n < 256) (ha : a ≤ 4095) (flag : Bool) :
    readSetGuard (named n ++ be 4 a ++ flagOctet flag) = some { anchor := m, span := a, complement := flag } := by
  have ha' : a < 4294967296 := by omega
  unfold readSetGuard
  rw [if_pos (by simp), flagAt_of_slice (b := flag) (by simp)]
  simp [octetAt, fieldAt, hn, hm, ha, ha']

theorem readNumber_octets {w : Nat} (h : a < 256 ^ w) : readNumber w (be w a) = some a := by
  unfold readNumber fieldAt
  rw [if_pos (length_be w a), slice_whole (length_be w a), beNat_be h]

theorem readReadContinuity_octets (ha : a < 65536) (hb : b < 65536) :
    readReadContinuity (be 2 a ++ be 2 b) = some (a, b) := by
  simp [readReadContinuity, fieldAt, ha, hb]

include ha in
theorem readRetrieve_octets {x : Option Nat} (hx : ∀ v, x = some v → v < 256 ^ 2) :
    readRetrieve (be 4 a ++ optNum 2 x) = some (a, x) := by
  unfold readRetrieve
  rw [if_pos (by simp), optAt_of_slice (x := x) (by simp) hx]
  simp [fieldAt, ha]

theorem readWaive_octets (ha : a < 65536) (hb : b < 65536) {x : Option Nat} (hx : ∀ v, x = some v → v < 256 ^ 1) :
    readWaive (be 2 a ++ be 2 b ++ optNum 1 x) = some { source := a, day := b, slot := x } := by
  unfold readWaive
  rw [if_pos (by simp), optAt_of_slice (x := x) (by simp) hx]
  simp [fieldAt, ha, hb]

include ha hb hc hd in
theorem readLoadTarget_octets (hn : n < 256) (flag : Bool) :
    readLoadTarget (be 1 n ++ be 4 a ++ be 4 b ++ flagOctet flag ++ be 4 c ++ be 4 d)
      = some { target := n, extents := a, unitSize := b, gather := flag, ackMs := c, eraseSecs := d } := by
  unfold readLoadTarget
  rw [if_pos (by simp), flagAt_of_slice (b := flag) (by simp)]
  simp [octetAt, fieldAt, hn, ha, hb, hc, hd]

theorem readSetTarget_octets (hn : n < 256) (flag : Bool) :
    readSetTarget (be 1 n ++ named (if flag then 3 else 5)) = some (n, flag) := by
  unfold readSetTarget
  rw [if_pos (by simp)]
  cases flag <;> simp [octetAt, fieldAt, hn]

theorem readSetNotices_octets {m : NoticeMode} {k : Nat} (hm : noticeModeOf k = some m) (hk : k < 256) (hn : n < 256)
    (flag : Bool) (promoted : Fin 8) : readSetNotices (be 1 n ++ flagOctet flag ++ named k ++ be 1 promoted.val)
      = some { enables := n, master := flag, mode := m, promoted := promoted } := by
  have hp : promoted.val < 256 := by omega
  unfold readSetNotices
  rw [if_pos (by simp), flagAt_of_slice (b := flag) (by simp)]
  simp [octetAt, fieldAt, hn, hk, hm, hp]

theorem readSetProtectMode_octets {m : ProtectMode} {v : Level} {k : Nat} (hm : protectModeOf k = some m) (hk : k < 256)
    (hv : levelOf n = some v) (hn : n < 256) : readSetProtectMode (named k ++ named n) = some (m, v) := by
  unfold readSetProtectMode
  simp [octetAt, fieldAt, hn, hk, hm, hv]

theorem readFlush_octets {x y : Option Nat} (hx : ∀ v, x = some v → v < 256 ^ 1) (hy : ∀ v, y = some v → v < 256 ^ 2)
    (wait : Bool) : readFlush (optNum 1 x ++ optNum 2 y ++ flagOctet wait) = some { cls := x, day := y, wait := wait } := by
  unfold readFlush
  rw [if_pos (by simp), optAt_of_slice (x := x) (by simp) hx, optAt_of_slice (x := y) (by simp) hy,
    flagAt_of_slice (b := wait) (by simp)]

theorem readReadLink_octets (flag : Bool) : readReadLink (flagOctet flag) = some flag := by
  unfold readReadLink
  rw [if_pos (by simp), flagAt_of_slice (b := flag) (by simp)]

theorem readAddHold_octets {h : Hold} {k : Nat} (hk : holdKindOf k = some h.kind) (hlt : k < 256) (hlo : 1 ≤ h.id)
    (hhi : h.id ≤ 65535) (hdays : h.firstDay ≤ h.lastDay) (hlast : h.lastDay < 65536) (hmarked : h.marked = false)
    (hrelease : h.kind = .revocable ∧ h.release = none
      ∨ h.kind = .irrevocable ∧ ∃ d, h.release = some d ∧ h.lastDay ≤ d ∧ d < 65536) :
    readAddHold (be 4 h.id ++ be 2 h.firstDay ++ be 2 h.lastDay ++ be 2 h.classMask.toNat ++ named k ++ optNum 2 h.release)
      = some h := by
  have hid : h.id < 4294967296 := by omega
  have hfirst : h.firstDay < 65536 := by omega
  have hmask : h.classMask.toNat < 65536 := h.classMask.isLt
  have hdue : ∀ v, h.release = some v → v < 256 ^ 2 := fun v hv => by
    rcases hrelease with ⟨-, hnone⟩ | ⟨-, d, hd, -, hlt⟩
    · rw [hnone] at hv
      cases hv
    · rw [hd] at hv
      cases hv
      exact hlt
  have hkept : (if h.kind = .irrevocable then h.release else none) = h.release := by
    rcases hrelease with ⟨hkind, hnone⟩ | ⟨hkind, -⟩
    · rw [hkind, hnone]
      rfl
    · rw [if_pos hkind]
  have hsound : h.sound = true := by
    refine (Hold.sound_iff h).mpr ⟨by omega, hhi, hdays, ?_⟩
    rcases hrelease with ⟨hkind, -⟩ | ⟨-, d, hd, hle, -⟩
    · exact .inl hkind
    · exact .inr ⟨d, hd, hle⟩
  have hheld : ({ id := h.id, firstDay := h.firstDay, lastDay := h.lastDay, classMask := BitVec.ofNat 16 h.classMask.toNat,
                  kind := h.kind, release := h.release, marked := false } : Hold) = h := by
    rw [BitVec.ofNat_toNat, BitVec.setWidth_eq, ← hmarked]
  generalize hl : be 4 h.id ++ be 2 h.firstDay ++ be 2 h.lastDay ++ be 2 h.classMask.toNat ++ named k ++ optNum 2 h.release = l
  have hfields : fieldAt l 0 4 = h.id ∧ fieldAt l 4 2 = h.firstDay ∧ fieldAt l 6 2 = h.lastDay
      ∧ fieldAt l 8 2 = h.classMask.toNat ∧ octetAt l 10 = k := by
    rw [← hl]
    simp [octetAt, fieldAt, hid, hfirst, hlast, hmask, hlt]
  obtain ⟨hfid, hffirst, hflast, hfmask, hfkind⟩ := hfields
  unfold readAddHold
  rw [if_pos (by simp [← hl]), optAt_of_slice (x := h.release) (by simp [← hl]) hdue, hfid, hffirst, hflast, hfmask, hfkind, hk]
  dsimp only
  rw [hkept, hheld, if_pos hsound]

end

/-! ### Lists -/

theorem pieces_flatten {size : Nat} (items : List (List Byte)) (h : ∀ x ∈ items, x.length = size) :
    pieces items.length size items.flatten = items := by
  induction items with
  | nil => rfl
  | cons x items ih =>
    have hx := h x List.mem_cons_self
    rw [List.length_cons, pieces, List.flatten_cons, List.take_left' hx, List.drop_left' hx,
      ih fun y hy => h y (List.mem_cons_of_mem x hy)]

theorem itemsAt_listOctets {front : List Byte} {off size : Nat} (hoff : front.length = off) (items : List (List Byte))
    (hlen : items.length < 65536) (h : ∀ x ∈ items, x.length = size) :
    itemsAt (front ++ listOctets items) off size = some items := by
  have hcount : fieldAt (front ++ listOctets items) off 2 = items.length := by
    unfold fieldAt listOctets
    rw [slice_append_right hoff.le, hoff, Nat.sub_self, slice_append_left (length_be 2 _).ge, slice_whole (length_be 2 _),
      beNat_be2 hlen]
  have hflat : items.flatten.length = items.length * size := by
    rw [List.length_flatten, List.map_congr_left h, List.map_const', List.sum_replicate, smul_eq_mul]
  have hrest : (front ++ listOctets items).drop (off + 2) = items.flatten := by
    unfold listOctets
    rw [← List.append_assoc]
    exact List.drop_left' (by rw [List.length_append, length_be, hoff])
  unfold itemsAt
  dsimp only
  rw [hcount, hrest, pieces_flatten items h]
  refine if_pos ?_
  unfold listOctets
  rw [List.length_append, List.length_append, length_be, hflat, hoff, Nat.add_assoc]

theorem readAll_map {α : Type} {f : List Byte → Option α} {g : α → List Byte} (items : List α)
    (h : ∀ i ∈ items, f (g i) = some i) : readAll f (items.map g) = some items := by
  induction items with
  | nil => rfl
  | cons i items ih =>
    rw [List.map_cons, readAll, h i List.mem_cons_self, ih fun j hj => h j (List.mem_cons_of_mem i hj)]

/-- A list whose items are read one by one is read back. -/
theorem readItems_listOctets {α : Type} {f : List Byte → Option α} {g : α → List Byte} {size : Nat} (items : List α)
    (hlen : items.length < 65536) (hsize : ∀ i ∈ items, (g i).length = size) (h : ∀ i ∈ items, f (g i) = some i) :
    (itemsAt (listOctets (items.map g)) 0 size).bind (readAll f) = some items := by
  have hitems := itemsAt_listOctets (front := []) (off := 0) (size := size) rfl (items.map g) (by rwa [List.length_map])
    fun x hx => by
      obtain ⟨i, hi, rfl⟩ := List.mem_map.mp hx
      exact hsize i hi
  rw [List.nil_append] at hitems
  rw [hitems, Option.bind_some, readAll_map items h]

theorem readLoadTypeMap_octets (items : List (Nat × Option Nat)) (hlen : items.length < 65536)
    (h : ∀ i ∈ items, i.1 < 256 ∧ ∀ c, i.2 = some c → c < 256) :
    readLoadTypeMap (listOctets (items.map fun i => be 1 i.1 ++ optNum 1 i.2)) = some items := by
  refine readItems_listOctets items hlen (fun i _ => by simp) fun i hi => ?_
  obtain ⟨hcode, hcls⟩ := h i hi
  unfold readTypeItem
  rw [optAt_of_slice (x := i.2) (by simp) hcls]
  simp [octetAt, fieldAt, hcode]

theorem readLoadClasses_octets (items : List ClassItem) (hlen : items.length < 65536)
    (h : ∀ i ∈ items, i.cls < 256 ∧ i.retention < 4294967296 ∧ i.target < 256 ∧ i.group < 256) :
    readLoadClasses (listOctets (items.map fun i =>
      be 1 i.cls ++ be 4 i.retention ++ be 1 i.target ++ be 1 i.group ++ flagOctet i.enable)) = some items := by
  refine readItems_listOctets items hlen (fun i _ => by simp) fun i hi => ?_
  obtain ⟨hcls, hretention, htarget, hgroup⟩ := h i hi
  unfold readClassItem
  rw [flagAt_of_slice (b := i.enable) (by simp)]
  simp [octetAt, fieldAt, hcls, hretention, htarget, hgroup]

theorem readLoadSources_octets (items : List SourceItem) (hlen : items.length < 65536)
    (h : ∀ i ∈ items, i.source < 65536 ∧ i.filesPerDay < 4294967296) :
    readLoadSources (listOctets (items.map fun i =>
      be 2 i.source ++ flagOctet i.active ++ be 4 i.filesPerDay ++ flagOctet i.clearTracking)) = some items := by
  refine readItems_listOctets items hlen (fun i _ => by simp) fun i hi => ?_
  obtain ⟨hsource, hfiles⟩ := h i hi
  unfold readSourceItem
  rw [flagAt_of_slice (b := i.active) (by simp), flagAt_of_slice (b := i.clearTracking) (by simp)]
  simp [fieldAt, hsource, hfiles]

/-- A dictionary place is read back. -/
theorem placeOctets_read {p : List Nat} (hlen : p.length ≤ 12) (hp : ∀ d ∈ p, d ≤ 15) :
    (placeOctets p).length = 7 ∧ octetAt (placeOctets p) 0 = p.length ∧ placeDigits (placeOctets p) = p := by
  have hdigits : ∀ d ∈ p, d < 16 := fun d hd => Nat.lt_succ_of_le (hp d hd)
  have hwidth : (bcdField 6 p).length = 6 := length_bcdField hlen hdigits
  have hfirst : octetAt (placeOctets p) 0 = p.length := by
    unfold octetAt fieldAt
    rw [show slice (placeOctets p) 0 1 = [BitVec.ofNat 8 p.length] from rfl, beNat_singleton, BitVec.toNat_ofNat,
      Nat.mod_eq_of_lt (by omega)]
  refine ⟨congrArg (· + 1) hwidth, hfirst, ?_⟩
  unfold placeDigits
  rw [hfirst, show slice (placeOctets p) 1 6 = bcdField 6 p from slice_whole hwidth, nibbles_bcdField hlen hdigits,
    List.take_left' rfl]

theorem readLoadDictionary_octets (g : Nat) (ps : List (List Nat)) (hg : g < 256) (hlen : ps.length < 65536)
    (h : ∀ p ∈ ps, p.length ≤ 12 ∧ ∀ d ∈ p, d ≤ 15) :
    readLoadDictionary (be 1 g ++ listOctets (ps.map placeOctets))
      = some { group := g, prefixes := ps.map fun p => (p.length, p) } := by
  have hread : ∀ p ∈ ps, (placeOctets p).length = 7 ∧ octetAt (placeOctets p) 0 = p.length ∧ placeDigits (placeOctets p) = p :=
    fun p hp => placeOctets_read (h p hp).1 (h p hp).2
  have hgroup : octetAt (be 1 g ++ listOctets (ps.map placeOctets)) 0 = g := by
    simp [octetAt, fieldAt, hg]
  unfold readLoadDictionary
  rw [itemsAt_listOctets (length_be 1 g) (ps.map placeOctets) (by rwa [List.length_map]) fun x hx => by
    obtain ⟨p, hp, rfl⟩ := List.mem_map.mp hx
    exact (hread p hp).1]
  rw [Option.map_some, hgroup, List.map_map]
  refine congrArg (fun x => some ({ group := g, prefixes := x } : DictLoad)) (List.map_congr_left fun p hp => ?_)
  obtain ⟨-, hfirst, hdigits⟩ := hread p hp
  rw [Function.comp_apply, hfirst, hdigits]

end Sys2Proof.Machine
end

section
/-! The octets of frames in either direction (R180), and O60. -/

namespace Sys2Proof.Machine

/-! ### The layout of a frame -/

/-- What stands where in a frame. -/
structure FrameLaidOut (o : List Byte) (family kind tag : Nat) (payload : List Byte) : Prop where
  length : o.length = 12 + payload.length
  len : fieldAt o 4 2 = payload.length
  family : octetAt o 0 = family
  kind : octetAt o 1 = kind
  tag : fieldAt o 2 2 = tag
  reserved : fieldAt o 6 2 = 0
  check : fieldAt o (8 + payload.length) 4 = (crc32 (o.take (8 + payload.length))).toNat
  within : ∀ i n, i + n ≤ payload.length → slice o (8 + i) n = slice payload i n

theorem frameOctets_laidOut {family kind tag : Nat} {payload : List Byte} (hfamily : family < 256) (hkind : kind < 256)
    (htag : tag < 65536) (hlen : payload.length < 65536) :
    FrameLaidOut (frameOctets family kind tag payload) family kind tag payload := by
  have hcheck : (crcOctets (crc32 (be 1 family ++ be 1 kind ++ be 2 tag ++ be 2 payload.length ++ be 2 0 ++ payload))).length
      = 4 := length_be 4 _
  have hhead : (be 1 family ++ be 1 kind ++ be 2 tag ++ be 2 payload.length ++ be 2 0).length = 8 := by simp
  have hfront : (be 1 family ++ be 1 kind ++ be 2 tag ++ be 2 payload.length ++ be 2 0 ++ payload).length
      = 8 + payload.length := by rw [List.length_append, hhead]
  have hfields : ∀ (rest : List Byte) (i n : Nat), i + n ≤ 8 →
      slice (be 1 family ++ be 1 kind ++ be 2 tag ++ be 2 payload.length ++ be 2 0 ++ payload ++ rest) i n
        = slice (be 1 family ++ be 1 kind ++ be 2 tag ++ be 2 payload.length ++ be 2 0) i n := fun rest i n h => by
    rw [slice_append_left (by rw [hfront]; omega), slice_append_left (by rw [hhead]; exact h)]
  unfold frameOctets
  dsimp only
  refine ⟨?_, ?_, ?_, ?_, ?_, ?_, ?_, fun i n h => ?_⟩
  · rw [List.length_append, hfront, hcheck]
    omega
  · rw [fieldAt, hfields _ 4 2 (by decide)]
    simp [hlen]
  · rw [octetAt, fieldAt, hfields _ 0 1 (by decide)]
    simp [hfamily]
  · rw [octetAt, fieldAt, hfields _ 1 1 (by decide)]
    simp [hkind]
  · rw [fieldAt, hfields _ 2 2 (by decide)]
    simp [htag]
  · rw [fieldAt, hfields _ 6 2 (by decide)]
    simp
  · rw [List.take_left' hfront, fieldAt, slice_append_right hfront.le, hfront, Nat.sub_self, slice_whole hcheck, beNat_crcOctets]
  · rw [slice_append_left (by rw [hfront]; omega), slice_append_right (by rw [hhead]; omega), hhead, Nat.add_sub_cancel_left]

namespace FrameLaidOut

variable {o payload : List Byte} {family kind tag : Nat}

theorem payload_eq (h : FrameLaidOut o family kind tag payload) : (o.drop 8).take payload.length = payload :=
  (h.within 0 payload.length (by omega)).trans (slice_whole rfl)

theorem field (h : FrameLaidOut o family kind tag payload) {i n : Nat} (hi : i + n ≤ payload.length) :
    fieldAt o (8 + i) n = fieldAt payload i n := congrArg beNat (h.within i n hi)

theorem whole (h : FrameLaidOut o family kind tag payload) :
    (8 ≤ o.length ∧ 12 + fieldAt o 4 2 ≤ o.length)
    ∧ fieldAt o (8 + fieldAt o 4 2) 4 = (crc32 (o.take (8 + fieldAt o 4 2))).toNat := by
  rw [h.len, h.length]
  exact ⟨⟨by omega, by omega⟩, h.check⟩

/-- The finding of a FILE frame. -/
theorem file (h : FrameLaidOut o 1 kind tag payload) (l : LaneNo) (hl : tag = l.val) (hkind : 1 ≤ kind ∧ kind ≤ 4)
    (hfits : payload.length ≤ 8192 ∧ (kind = 1 ∨ kind = 3 → payload.length = 8) ∧ (kind = 4 → payload.length = 0)) :
    frameFinding o = .sound (.file l (fileBodyOf o)) := by
  obtain ⟨hwhole, hchecked⟩ := h.whole
  obtain ⟨-, -, -, -, -, hfile⟩ := frameFinding_iff o
  refine (hfile l _).mpr ⟨hwhole, hchecked, ⟨h.len ▸ hfits.1, fun _ _ => ?_⟩, .inr ⟨h.family, ?_, ?_⟩, h.family, ?_, rfl⟩
  · rw [h.kind, h.len]
    exact hfits.2
  · rw [h.tag, hl]
    exact Nat.le_of_lt_succ l.isLt
  · rw [h.kind]
    exact hkind
  · rw [h.tag, hl]

/-- The finding of a frame of the directive family. -/
theorem directive (h : FrameLaidOut o 2 kind tag payload) (hlen : payload.length ≤ 8192) :
    (kind = 0 → frameFinding o = .sound .linkReset)
    ∧ (kind ≠ 0 → frameFinding o
      = .sound (.directive { code := kind, tag := BitVec.ofNat 16 tag, payload := payload })) := by
  obtain ⟨hwhole, hchecked⟩ := h.whole
  obtain ⟨-, -, -, hreset, hdirective, -⟩ := frameFinding_iff o
  have hfits : fieldAt o 4 2 ≤ 8192 ∧ (octetAt o 0 = 1 → fieldAt o 2 2 ≤ 7 →
      (octetAt o 1 = 1 ∨ octetAt o 1 = 3 → fieldAt o 4 2 = 8) ∧ (octetAt o 1 = 4 → fieldAt o 4 2 = 0)) := by
    rw [h.len, h.family]
    exact ⟨hlen, fun h => absurd h (by decide)⟩
  refine ⟨fun hk => hreset.mpr ⟨hwhole, hchecked, hfits, h.family, h.kind.trans hk⟩,
    fun hk => (hdirective _).mpr ⟨hwhole, hchecked, hfits, h.family, fun h0 => hk (h.kind.symm.trans h0), ?_⟩⟩
  rw [h.kind, h.tag, h.len, h.payload_eq]

end FrameLaidOut

/-! ### The kinds of FILE frame -/

theorem frameFinding_opening (l : LaneNo) {source day slot seq : Nat} (hsource : source < 65536) (hday : day < 65536)
    (hslot : slot < 256) (hseq : seq < 65536) :
    frameFinding (frameOctets 1 1 l.val (be 2 source ++ be 2 day ++ be 1 slot ++ be 1 0 ++ be 2 seq))
      = .sound (.file l (.opening source day slot seq)) := by
  have hlen : (be 2 source ++ be 2 day ++ be 1 slot ++ be 1 0 ++ be 2 seq).length = 8 := by simp
  have h : FrameLaidOut (frameOctets 1 1 l.val (be 2 source ++ be 2 day ++ be 1 slot ++ be 1 0 ++ be 2 seq)) 1 1 l.val
      (be 2 source ++ be 2 day ++ be 1 slot ++ be 1 0 ++ be 2 seq) :=
    frameOctets_laidOut (by decide) (by decide) (by omega) (by omega)
  rw [h.file l rfl (by decide) (by omega)]
  unfold fileBodyOf
  rw [if_pos h.kind, h.field (i := 0) (by omega), h.field (i := 2) (by omega), h.field (i := 6) (by omega),
    octetAt, h.field (i := 4) (by omega)]
  simp [fieldAt, hsource, hday, hslot, hseq]

theorem frameFinding_data (l : LaneNo) {payload : List Byte} (hlen : payload.length ≤ 8192) :
    frameFinding (frameOctets 1 2 l.val payload) = .sound (.file l (.data payload)) := by
  have h : FrameLaidOut (frameOctets 1 2 l.val payload) 1 2 l.val payload :=
    frameOctets_laidOut (by decide) (by decide) (by omega) (by omega)
  rw [h.file l rfl (by decide) (by omega)]
  unfold fileBodyOf
  rw [if_neg (by rw [h.kind]; decide), if_pos h.kind, h.len, h.payload_eq]

theorem frameFinding_closing (l : LaneNo) {declared : Nat} (hdeclared : declared < 2 ^ 32) (crc : Crc) :
    frameFinding (frameOctets 1 3 l.val (be 4 declared ++ crcOctets crc)) = .sound (.file l (.closing declared crc)) := by
  have hcrc : (crcOctets crc).length = 4 := length_be 4 _
  have hlen : (be 4 declared ++ crcOctets crc).length = 8 := by rw [List.length_append, length_be, hcrc]
  have h : FrameLaidOut (frameOctets 1 3 l.val (be 4 declared ++ crcOctets crc)) 1 3 l.val (be 4 declared ++ crcOctets crc) :=
    frameOctets_laidOut (by decide) (by decide) (by omega) (by omega)
  rw [h.file l rfl (by decide) (by omega)]
  unfold fileBodyOf
  rw [if_neg (by rw [h.kind]; decide), if_neg (by rw [h.kind]; decide), if_pos h.kind, h.field (i := 0) (by omega),
    h.field (i := 4) (by omega)]
  have hd : declared < 4294967296 := hdeclared
  simp [fieldAt, hcrc, hd, beNat_crcOctets]

theorem frameFinding_aborting (l : LaneNo) : frameFinding (frameOctets 1 4 l.val []) = .sound (.file l .aborting) := by
  have h : FrameLaidOut (frameOctets 1 4 l.val []) 1 4 l.val [] :=
    frameOctets_laidOut (by decide) (by decide) (by omega) (by decide)
  rw [h.file l rfl (by decide) (by decide)]
  unfold fileBodyOf
  rw [if_neg (by rw [h.kind]; decide), if_neg (by rw [h.kind]; decide), if_neg (by rw [h.kind]; decide)]

/-! ### The frames that the part sends -/

theorem returnFrame_laidOut {family tag : Nat} {payload : List Byte} (hfamily : family < 256) (htag : tag < 65536)
    (hlen : payload.length < 65536) : FrameLaidOut (returnFrameOctets family tag payload) family
      (Config.returnKind family).toNat tag payload :=
  frameOctets_laidOut hfamily (Config.returnKind family).isLt htag hlen

theorem length_recordsFlatten {records : List (List Byte)} (h : ∀ r ∈ records, r.length = 49) :
    records.flatten.length = 49 * records.length := by
  rw [List.length_flatten, List.map_congr_left h, List.map_const', List.sum_replicate, smul_eq_mul, Nat.mul_comm]

/-- The record of a place stands behind those before it. -/
theorem slice_recordsFlatten {records : List (List Byte)} (h : ∀ r ∈ records, r.length = 49) {i : Nat} {r : List Byte}
    (hi : records[i]? = some r) : slice records.flatten (49 * i) 49 = r := by
  induction records generalizing i with
  | nil => simp at hi
  | cons x records ih =>
    have hx := h x List.mem_cons_self
    rw [List.flatten_cons]
    cases i with
    | zero =>
      obtain rfl : x = r := by simpa using hi
      rw [Nat.mul_zero, slice_append_left (by omega), slice_whole hx]
    | succ i =>
      rw [slice_append_right (by omega), hx, Nat.mul_succ, Nat.add_sub_cancel]
      exact ih (fun y hy => h y (List.mem_cons_of_mem x hy)) (by simpa using hi)

/-- A frame as the statement has it. -/
theorem FrameLaidOut.framed {o payload : List Byte} {family kind tag len : Nat} (h : FrameLaidOut o family kind tag payload)
    (hlen : payload.length = len) : o.length = 12 + len ∧ fieldAt o 4 2 = len ∧ octetAt o 0 = family ∧ fieldAt o 2 2 = tag
      ∧ fieldAt o 6 2 = 0 ∧ fieldAt o (8 + len) 4 = (crc32 (o.take (8 + len))).toNat ∧ octetAt o 1 = kind := by
  subst hlen
  exact ⟨h.length, h.len, h.family, h.tag, h.reserved, h.check, h.kind⟩

theorem replyOctets_laidOut (r : Reply) (placed : Bool) (hlen : r.figures.length < 65534) :
    let o := (Sending.reply r placed).octets
    FrameLaidOut o 4 (Config.returnKind 4).toNat r.tag.toNat (be 1 r.result.code ++ flagOctet r.clamped ++ r.figures)
    ∧ octetAt o 8 = r.result.code ∧ octetAt o 9 = (if r.clamped then 1 else 0) ∧ slice o 10 r.figures.length = r.figures := by
  intro o
  have hpayload : (be 1 r.result.code ++ flagOctet r.clamped ++ r.figures).length = 2 + r.figures.length := by simp; omega
  have h : FrameLaidOut o 4 (Config.returnKind 4).toNat r.tag.toNat (be 1 r.result.code ++ flagOctet r.clamped ++ r.figures) :=
    returnFrame_laidOut (by decide) r.tag.isLt (by omega)
  have hcode : r.result.code < 256 := by cases r.result <;> decide
  have hflag : beNat (flagOctet r.clamped) = if r.clamped then 1 else 0 := by cases r.clamped <;> rfl
  refine ⟨h, (h.field (i := 0) (n := 1) (by omega)).trans ?_, (h.field (i := 1) (n := 1) (by omega)).trans ?_,
    (h.within 2 _ (by omega)).trans ?_⟩
  · simp [fieldAt, hcode]
  · simp [fieldAt, hflag]
  · simp

theorem noticeOctets_laidOut (src : Fin 8) (count : Nat) (time : Option Time) (snap : List Byte) (hlen : snap.length < 65526)
    (hcount : count < 256) : let o := (Sending.notice src count time snap).octets
    FrameLaidOut o 5 (Config.returnKind 5).toNat 0 (be 1 src.val ++ be 1 count ++ timeOctets time ++ be 2 snap.length ++ snap)
    ∧ octetAt o 8 = src.val ∧ octetAt o 9 = count ∧ slice o 10 6 = timeOctets time ∧ fieldAt o 16 2 = snap.length
    ∧ slice o 18 snap.length = snap := by
  intro o
  have htime : (timeOctets time).length = 6 := by cases time <;> simp [timeOctets]
  have hpayload : (be 1 src.val ++ be 1 count ++ timeOctets time ++ be 2 snap.length ++ snap).length = 10 + snap.length := by
    simp [htime]
    omega
  have h : FrameLaidOut o 5 (Config.returnKind 5).toNat 0
      (be 1 src.val ++ be 1 count ++ timeOctets time ++ be 2 snap.length ++ snap) :=
    returnFrame_laidOut (by decide) (by decide) (by omega)
  have hsrc : src.val < 256 := by omega
  have hsnap : snap.length < 65536 := by omega
  refine ⟨h, (h.field (i := 0) (n := 1) (by omega)).trans ?_, (h.field (i := 1) (n := 1) (by omega)).trans ?_,
    (h.within 2 6 (by omega)).trans ?_, (h.field (i := 8) (n := 2) (by omega)).trans ?_, (h.within 10 _ (by omega)).trans ?_⟩
  · simp [fieldAt, hsrc]
  · simp [fieldAt, hcount]
  · simp [htime]
  · simp [fieldAt, htime, hsnap]
  · simp [htime]

/-- The header of a RECORDS payload. -/
def RecordsFrame.head (f : RecordsFrame) : List Byte :=
  be 4 f.number ++ be 4 f.segId ++ be 1 f.run ++ flagOctet f.final ++ be 2 f.source ++ be 1 f.slot ++ be 1 0
    ++ be 2 f.records.length

theorem RecordsFrame.length_head (f : RecordsFrame) : f.head.length = 16 := by simp [RecordsFrame.head]

theorem recordsOctets_laidOut (f : RecordsFrame) (live : Bool) (hmany : f.records.length ≤ 167)
    (hrecords : ∀ r ∈ f.records, r.length = 49) (hnumber : f.number < 2 ^ 32) (hsegId : f.segId < 2 ^ 32) (hrun : f.run < 256)
    (hsource : f.source < 2 ^ 16) (hslot : f.slot < 256) : let o := (Sending.records f live).octets
    FrameLaidOut o 6 (Config.returnKind 6).toNat f.tag.toNat f.payload ∧ f.payload.length = 16 + 49 * f.records.length
    ∧ fieldAt o 8 4 = f.number ∧ fieldAt o 12 4 = f.segId ∧ octetAt o 16 = f.run
    ∧ octetAt o 17 = (if f.final then 1 else 0) ∧ fieldAt o 18 2 = f.source ∧ octetAt o 20 = f.slot ∧ octetAt o 21 = 0
    ∧ fieldAt o 22 2 = f.records.length ∧ ∀ i r, f.records[i]? = some r → slice o (24 + 49 * i) 49 = r := by
  intro o
  have hflat := length_recordsFlatten hrecords
  have hpayload : f.payload.length = 16 + 49 * f.records.length := by
    rw [show f.payload = f.head ++ f.records.flatten from rfl, List.length_append, f.length_head, hflat]
  have h : FrameLaidOut o 6 (Config.returnKind 6).toNat f.tag.toNat f.payload :=
    returnFrame_laidOut (by decide) f.tag.isLt (by omega)
  have hhead : ∀ i n, i + n ≤ 16 → fieldAt o (8 + i) n = fieldAt f.head i n := fun i n hi => by
    rw [h.field (by omega)]
    exact congrArg beNat (slice_append_left (a := f.head) (by rw [f.length_head]; exact hi))
  have hn : f.number < 4294967296 := hnumber
  have hs : f.segId < 4294967296 := hsegId
  have hsrc : f.source < 65536 := hsource
  have hcount : f.records.length < 65536 := by omega
  have hflag : beNat (flagOctet f.final) = if f.final then 1 else 0 := by cases f.final <;> rfl
  refine ⟨h, hpayload, (hhead 0 4 (by decide)).trans ?_, (hhead 4 4 (by decide)).trans ?_, (hhead 8 1 (by decide)).trans ?_,
    (hhead 9 1 (by decide)).trans ?_, (hhead 10 2 (by decide)).trans ?_, (hhead 12 1 (by decide)).trans ?_,
    (hhead 13 1 (by decide)).trans ?_, (hhead 14 2 (by decide)).trans ?_, fun i r hi => ?_⟩
  case refine_9 =>
    have hbound : i < f.records.length := (List.getElem?_eq_some_iff.mp hi).1
    have hoff : 24 + 49 * i = 8 + (16 + 49 * i) := by omega
    rw [hoff, h.within _ _ (by omega), show f.payload = f.head ++ f.records.flatten from rfl,
      slice_append_right (by rw [f.length_head]; omega), f.length_head, Nat.add_sub_cancel_left]
    exact slice_recordsFlatten hrecords hi
  all_goals simp [RecordsFrame.head, fieldAt, hn, hs, hrun, hflag, hsrc, hslot, hcount]

/-- Settles O60: by the layout of a frame, reader by reader, and by the layout of each return frame. -/
theorem framesAndParametersRoundTrip : Obligations.FramesAndParametersRoundTrip := by
  refine ⟨fun l source day slot seq declared code crc tag payload hsource hday hslot hseq hdeclared hlen hlo hhi => ?_,
    fun a b c ha hb hc => ?_, fun a b c d n flag other ha hb hc hd hn => ?_,
    fun h hlo hhi hdays hlast hmarked hrelease => readAddHold_octets (by cases h.kind <;> rfl) (by cases h.kind <;> decide) hlo hhi
      hdays hlast hmarked hrelease,
    readLoadTypeMap_octets, readLoadClasses_octets, readLoadSources_octets, readLoadDictionary_octets, fun x => ?_⟩
  · have hreset : FrameLaidOut (frameOctets 2 0 tag.toNat payload) 2 0 tag.toNat payload :=
      frameOctets_laidOut (by decide) (by decide) tag.isLt (by omega)
    have hcode : FrameLaidOut (frameOctets 2 code tag.toNat payload) 2 code tag.toNat payload :=
      frameOctets_laidOut (by decide) hhi tag.isLt (by omega)
    have hdirective := (hcode.directive hlen).2 (by omega)
    rw [BitVec.ofNat_toNat, BitVec.setWidth_eq] at hdirective
    exact ⟨frameFinding_opening l hsource hday hslot hseq, frameFinding_data l hlen, frameFinding_closing l hdeclared crc,
      frameFinding_aborting l, (hreset.directive hlen).1 rfl, hdirective⟩
  · exact ⟨readSetClock_octets hb, readSetDayPolicy_octets ha hb hc, readSetSweep_octets ha hb hc (n := 3) rfl (by decide) true,
      fun h => readSetGuard_octets (n := 2) rfl (by decide) h true, readNumber_octets ha, fun h => readNumber_octets h,
      readReadContinuity_octets, fun h => readRetrieve_octets ha fun v hv => by cases hv; exact h,
      readRetrieve_octets ha fun v hv => (nomatch hv), fun h h' => readWaive_octets h h' fun v hv => (nomatch hv),
      readLoadTarget_octets ha hb hc ha (n := 3) (by decide) true⟩
  · have hslot : ∀ v, (if flag then some n else none) = some v → v < 256 ^ 1 := fun v hv => by
      cases flag
      · cases hv
      · cases hv
        exact hn
    refine ⟨fun m => readSetSweep_octets ha hb hc (by cases m <;> rfl) (by cases m <;> decide) flag,
      fun m h => readSetGuard_octets (by cases m <;> rfl) (by cases m <;> decide) h flag,
      readLoadTarget_octets ha hb hc hd hn flag, readSetTarget_octets hn flag,
      fun m promoted => readSetNotices_octets (by cases m <;> rfl) (by cases m <;> decide) hn flag promoted,
      fun m v => readSetProtectMode_octets (by cases m <;> rfl) (by cases m <;> decide) (by cases v <;> rfl)
        (by cases v <;> decide),
      fun h h' => readWaive_octets h h' hslot, fun h wait => readFlush_octets hslot (fun v hv => ?_) wait,
      readReadLink_octets flag, readNumber_octets hn⟩
    cases other
    · cases hv
    · cases hv
      exact h
  · cases x with
    | flow f =>
      have h : FrameLaidOut (Sending.flow f).octets 3 (Config.returnKind 3).toNat 0 (be 1 f.code) :=
        returnFrame_laidOut (by decide) (by decide) (by rw [length_be]; decide)
      refine ⟨h.framed (length_be 1 _), (h.field (i := 0) (n := 1) (by rw [length_be])).trans ?_⟩
      cases f <;> rfl
    | reply r placed =>
      intro o n framed hlen
      obtain ⟨h, hcode, hclamped, hfigures⟩ := replyOctets_laidOut r placed hlen
      refine ⟨h.framed (by simp; omega), hcode.trans ?_, hclamped, hfigures⟩
      cases r.result <;> rfl
    | notice src count time snap =>
      intro o n framed hlen hcount htime
      obtain ⟨h, hsrc, hnumber, hat, hsnap, hcarried⟩ := noticeOctets_laidOut src count time snap hlen hcount
      refine ⟨h.framed ?_, hsrc, hnumber, fun hnone => ?_, fun t ht => ?_, hsnap, hcarried⟩
      · cases time <;> simp [timeOctets] <;> omega
      · rw [hat, hnone]
        rfl
      · rw [ht] at htime
        rw [Option.all_some, Bool.and_eq_true, decide_eq_true_eq, decide_eq_true_eq] at htime
        exact fieldAt_of_slice_eq_timeOctets (hat.trans (congrArg timeOctets ht)) htime.1 htime.2
    | records f live =>
      intro o n framed hmany hrecords hnumber hsegId hrun hsource hslot
      obtain ⟨h, hlen, hrest⟩ := recordsOctets_laidOut f live hmany hrecords hnumber hsegId hrun hsource hslot
      exact ⟨h.framed hlen, hrest⟩

end Sys2Proof.Machine
end

section
/-! The Record Coder (03): what each field reader of the decoder makes of what the coder wrote. -/

namespace Sys2Proof.Machine

/-! ### Varints and signed steps (R53) -/

theorem getVarintAux_varintAux (f : Nat) {v : Nat} (h : v < 128 ^ (f + 1)) (rest : List Byte) :
    getVarintAux (f + 1) (varintAux f v ++ rest) = some (v, rest) := by
  induction f generalizing v with
  | zero =>
    have hv : v < 128 := by simpa using h
    have hoctet : (BitVec.ofNat 8 (v % 128)).toNat = v := by
      rw [BitVec.toNat_ofNat]
      omega
    rw [varintAux, List.singleton_append, getVarintAux, hoctet, if_pos hv]
  | succ f ih =>
    rw [varintAux]
    by_cases hv : v < 128
    · have hoctet : (BitVec.ofNat 8 v).toNat = v := by
        rw [BitVec.toNat_ofNat]
        omega
      rw [if_pos hv, List.singleton_append, getVarintAux, hoctet, if_pos hv]
    · have hoctet : (BitVec.ofNat 8 (v % 128 + 128)).toNat = v % 128 + 128 := by
        rw [BitVec.toNat_ofNat]
        omega
      have hdiv : v / 128 < 128 ^ (f + 1) := by
        rw [pow_succ] at h
        omega
      rw [if_neg hv, List.cons_append, getVarintAux, hoctet, if_neg (by omega), ih hdiv]
      have hback : v / 128 * 128 + (v % 128 + 128) % 128 = v := by omega
      simp only [hback]

theorem getVarint_varint {v : Nat} (h : v < 2 ^ 42) (rest : List Byte) : getVarint (varint v ++ rest) = some (v, rest) :=
  getVarintAux_varintAux 5 h rest

theorem unzigzag_zigzag (d : Int) : unzigzag (zigzag d) = d := by
  unfold unzigzag zigzag
  by_cases h : 0 ≤ d
  · rw [if_pos h, if_pos (by omega)]
    omega
  · rw [if_neg h, if_neg (by omega)]
    omega

theorem zigzag_lt {d : Int} {n : Nat} (hlo : -(n : Int) ≤ d) (hhi : d < n) : zigzag d < 2 * n := by
  unfold zigzag
  split <;> omega

/-! ### Octets, and fields that may be the same as before (R48) -/

theorem getOctet_be {v : Nat} (h : v < 256) (rest : List Byte) : getOctet (be 1 v ++ rest) = some (v, rest) := by
  have hoctet : (BitVec.ofNat 8 (v / 256 ^ 0)).toNat = v := by
    rw [BitVec.toNat_ofNat]
    simp only [pow_zero, Nat.div_one]
    omega
  exact congrArg (fun n => some (n, rest)) hoctet

theorem getSame_code {v prev : Nat} (h : v < 256) (rest : List Byte) :
    getSame (decide (v = prev)) prev ((if v = prev then [] else be 1 v) ++ rest) = some (v, rest) := by
  unfold getSame
  by_cases hv : v = prev
  · simp [hv]
  · rw [if_neg hv, decide_eq_false hv, if_neg Bool.false_ne_true, getOctet_be h]

theorem getOpt_code {o : Option Nat} {max : Nat} (hmax : max < 2 ^ 42) (h : ∀ v, o = some v → v ≤ max) (rest : List Byte) :
    getOpt o.isSome max (codeOpt o ++ rest) = some (o, rest) := by
  unfold getOpt codeOpt
  cases o with
  | none => rfl
  | some v =>
    have hv := h v rfl
    rw [Option.isSome_some, if_pos rfl, getVarint_varint (by omega)]
    exact if_neg (by omega)

/-! ### Sequence, start and duration (R49, R50) -/

theorem seqStep_bounds (prev cur : Nat) (hprev : prev < 2 ^ 32) (hcur : cur < 2 ^ 32) :
    -(2 ^ 31 : Nat) ≤ seqStep prev cur ∧ seqStep prev cur < (2 ^ 31 : Nat)
    ∧ ((prev : Int) + seqStep prev cur) % 2 ^ 32 = cur := by
  unfold seqStep
  dsimp only
  split <;> omega

theorem getSeq_code {prev cur : Nat} (hprev : prev < 2 ^ 32) (hcur : cur < 2 ^ 32) (rest : List Byte) :
    getSeq (decide (seqStep prev cur = 1)) prev
      ((if seqStep prev cur = 1 then [] else varint (zigzag (seqStep prev cur))) ++ rest) = some (cur, rest) := by
  obtain ⟨hlo, hhi, hback⟩ := seqStep_bounds prev cur hprev hcur
  have hz := zigzag_lt hlo hhi
  unfold getSeq
  by_cases hnext : seqStep prev cur = 1
  · rw [hnext] at hback
    have hcurrent : (prev + 1) % 2 ^ 32 = cur := by omega
    rw [if_pos hnext, decide_eq_true hnext, if_pos rfl, hcurrent, List.nil_append]
  · rw [if_neg hnext, decide_eq_false hnext, if_neg Bool.false_ne_true, getVarint_varint (by omega)]
    dsimp only
    rw [if_neg (by omega), unzigzag_zigzag, hback]
    rfl

theorem getStart_code {prev start : Int} (hprev : -86400 ≤ prev ∧ prev ≤ 86399) (hstart : -86400 ≤ start ∧ start ≤ 86399)
    (rest : List Byte) : getStart prev (varint (zigzag (start - prev)) ++ rest) = some (start, rest) := by
  have hz : zigzag (start - prev) < 2 * 172800 := zigzag_lt (by omega) (by omega)
  have hback : prev + (start - prev) = start := by omega
  unfold getStart
  rw [getVarint_varint (by omega)]
  dsimp only
  rw [unzigzag_zigzag, hback]
  exact if_neg (by omega)

theorem getDuration_code {v : Nat} (h : v < 2 ^ 24) (rest : List Byte) : getDuration (varint v ++ rest) = some (v, rest) := by
  unfold getDuration
  rw [getVarint_varint (by omega)]
  exact if_neg (by omega)

/-! ### Digits (R53) -/

/-- The nibbles of packed digits: an odd count has its filler behind it. -/
theorem nibbles_bcd_filled {d : List Nat} (hd : ∀ x ∈ d, x < 16) :
    nibbles (bcd d) = d ++ List.replicate (d.length % 2) 15 := by
  induction d using bcd.induct with
  | case1 => rfl
  | case2 a =>
    have ha : a < 16 := hd a List.mem_cons_self
    have hhigh : (a * 16 + 15) / 16 = a := by omega
    have hlow : (a * 16 + 15) % 16 = 15 := by omega
    rw [bcd, nibbles, nibblePair_toNat ha (by decide), hhigh, hlow]
    rfl
  | case3 a b t ih =>
    obtain ⟨ha, hb, ht⟩ : a < 16 ∧ b < 16 ∧ ∀ x ∈ t, x < 16 := by simpa using hd
    have hhigh : (a * 16 + b) / 16 = a := by omega
    have hlow : (a * 16 + b) % 16 = b := by omega
    have hodd : (a :: b :: t).length % 2 = t.length % 2 := by
      simp only [List.length_cons]
      omega
    rw [bcd, nibbles, ih ht, nibblePair_toNat ha hb, hhigh, hlow, hodd]
    rfl

theorem length_bcd (d : List Nat) : (bcd d).length = (d.length + 1) / 2 := by
  induction d using bcd.induct with
  | case1 => rfl
  | case2 a => rw [bcd, List.length_singleton, List.length_singleton]
  | case3 a b t ih =>
    rw [bcd, List.length_cons, ih]
    simp only [List.length_cons]
    omega

theorem getDigits_bcd {d : List Nat} (hd : ∀ x ∈ d, x ≤ 9) (rest : List Byte) :
    getDigits d.length (bcd d ++ rest) = some (d, rest) := by
  have hlen := length_bcd d
  have htake : (bcd d ++ rest).take ((d.length + 1) / 2) = bcd d := List.take_left' hlen
  have hdrop : (bcd d ++ rest).drop ((d.length + 1) / 2) = rest := List.drop_left' hlen
  have hnibbles := nibbles_bcd_filled fun x hx => Nat.lt_of_le_of_lt (hd x hx) (by decide : 9 < 16)
  have hdigits : (nibbles (bcd d)).take d.length = d := by rw [hnibbles, List.take_left' rfl]
  have hfill : (nibbles (bcd d)).drop d.length = List.replicate (d.length % 2) 15 := by rw [hnibbles, List.drop_left' rfl]
  unfold getDigits
  dsimp only
  rw [htake, hdrop, hdigits, hfill]
  refine if_neg ?_
  rintro (h | h | h)
  · rw [List.length_append, hlen] at h
    omega
  · obtain ⟨x, hx, hbig⟩ := List.any_eq_true.mp h
    exact absurd (hd x hx) (Nat.not_le.mpr (of_decide_eq_true hbig))
  · obtain ⟨x, hx, hne⟩ := List.any_eq_true.mp h
    exact of_decide_eq_true hne (List.eq_of_mem_replicate hx)

/-! ### The calling number (R51) -/

theorem sharedDigits_spec (prev cur : List Nat) : sharedDigits prev cur ≤ prev.length ∧ sharedDigits prev cur ≤ cur.length
    ∧ prev.take (sharedDigits prev cur) = cur.take (sharedDigits prev cur) := by
  induction prev generalizing cur with
  | nil => exact ⟨Nat.le_refl 0, Nat.zero_le _, rfl⟩
  | cons a s ih =>
    cases cur with
    | nil => exact ⟨Nat.zero_le _, Nat.le_refl 0, rfl⟩
    | cons b t =>
      rw [sharedDigits]
      by_cases h : a = b
      · obtain ⟨hprev, hcur, htake⟩ := ih t
        rw [if_pos h]
        exact ⟨Nat.succ_le_succ hprev, Nat.succ_le_succ hcur, by rw [List.take_succ_cons, List.take_succ_cons, htake, h]⟩
      · rw [if_neg h]
        exact ⟨Nat.zero_le _, Nat.zero_le _, rfl⟩

theorem getCalling_code {prev cur : List Nat} (hlen : cur.length ≤ 20) (hcur : ∀ x ∈ cur, x ≤ 9) (rest : List Byte) :
    getCalling prev (codeCalling prev cur ++ rest) = some (cur, rest) := by
  obtain ⟨hprev, hshared, htake⟩ := sharedDigits_spec prev cur
  unfold getCalling codeCalling
  dsimp only
  generalize sharedDigits prev cur = p at *
  have hdiv : (p * 21 + (cur.length - p)) / 21 = p := by omega
  have hmod : (p * 21 + (cur.length - p)) % 21 = (cur.drop p).length := by
    rw [List.length_drop]
    omega
  have hroom : ¬ (prev.length < p ∨ 20 < p + (cur.drop p).length) := by
    rw [List.length_drop]
    omega
  rw [List.append_assoc, getVarint_varint (by omega)]
  dsimp only
  rw [hdiv, hmod, if_neg hroom, getDigits_bcd fun x hx => hcur x (List.mem_of_mem_drop hx)]
  dsimp only
  rw [htake, List.take_append_drop]

/-! ### The called number (R52) -/

/-- A place of the dictionary copy whose digits begin the number. -/
def PlaceBegins (dict : List (List Nat)) (called : List Nat) (m : Nat × Nat) : Prop :=
  ∃ p, dict[m.1]? = some p ∧ p ≠ [] ∧ p.length = m.2 ∧ p <+: called

theorem longestMatch_begins {all : List (List Nat)} {called : List Nat} (dict : List (List Nat)) (i : Nat)
    (best : Option (Nat × Nat)) (hdict : ∀ j, all[i + j]? = dict[j]?) (hbest : ∀ m, best = some m → PlaceBegins all called m)
    {m : Nat × Nat} (h : longestMatch called dict i best = some m) : PlaceBegins all called m := by
  induction dict generalizing i best with
  | nil => exact hbest m h
  | cons p t ih =>
    rw [longestMatch] at h
    refine ih (i + 1) _ (fun j => ?_) (fun x hx => ?_) h
    · rw [Nat.add_assoc, Nat.add_comm 1 j, hdict (j + 1), List.getElem?_cons_succ]
    · split at hx
      next hbetter =>
        cases hx
        exact ⟨p, by rw [← Nat.add_zero i, hdict 0]; rfl, hbetter.1, rfl, List.isPrefixOf_iff_prefix.mp hbetter.2.1⟩
      · exact hbest x hx

theorem getCalled_code {dict : List (List Nat)} {called : List Nat} (hdict : dict.length ≤ 64) (hlen : called.length ≤ 24)
    (hcalled : ∀ x ∈ called, x ≤ 9) (rest : List Byte) :
    getCalled dict (codeCalled dict called ++ rest) = some (called, rest) := by
  unfold getCalled codeCalled
  cases hmatch : longestMatch called dict 0 none with
  | none =>
    have hdiv : called.length / 25 = 0 := by omega
    have hmod : called.length % 25 = called.length := by omega
    dsimp only
    rw [List.append_assoc, getVarint_varint (by omega)]
    dsimp only
    rw [hdiv, hmod, if_pos rfl, if_neg (by simp [hlen]), getDigits_bcd hcalled]
    rfl
  | some m =>
    obtain ⟨p, hp, hne, hplen, hprefix⟩ := longestMatch_begins (all := dict) dict 0 none (fun j => by rw [Nat.zero_add]) nofun hmatch
    obtain ⟨i, len⟩ := m
    dsimp only at hp hplen ⊢
    obtain ⟨hi, -⟩ := List.getElem?_eq_some_iff.mp hp
    have hle : len ≤ called.length := hplen ▸ hprefix.length_le
    have hdiv : ((i + 1) * 25 + (called.length - len)) / 25 = i + 1 := by omega
    have hmod : ((i + 1) * 25 + (called.length - len)) % 25 = (called.drop len).length := by
      rw [List.length_drop]
      omega
    have hstem : (dict[i + 1 - 1]?).getD [] = p := by rw [Nat.add_sub_cancel, hp, Option.getD_some]
    have hroom : ¬ (64 < i + 1 ∨ i + 1 ≠ 0 ∧ p = [] ∨ 24 < p.length + (called.drop len).length) := by
      rw [List.length_drop]
      rintro (h | h | h)
      · omega
      · exact hne h.2
      · omega
    have hwhole : p ++ called.drop len = called := by
      obtain ⟨t, rfl⟩ := hprefix
      rw [← hplen, List.drop_left' rfl]
    rw [List.append_assoc, getVarint_varint (by omega)]
    dsimp only
    rw [hdiv, hmod, if_neg (Nat.succ_ne_zero i), hstem, if_neg hroom,
      getDigits_bcd fun x hx => hcalled x (List.mem_of_mem_drop hx)]
    dsimp only
    rw [hwhole]

end Sys2Proof.Machine
end

section
/-! Coding undone by decoding (R47 to R52, R61, R62): a record, and the records of a run. -/

namespace Sys2Proof.Machine

/-! ### The control octet (R183) -/

theorem control_bits (a b c d e f : Bool) :
    let n := a.toNat + 2 * b.toNat + 4 * c.toNat + 8 * d.toNat + 16 * e.toNat + 32 * f.toNat
    n < 64 ∧ n.testBit 0 = a ∧ n.testBit 1 = b ∧ n.testBit 2 = c ∧ n.testBit 3 = d ∧ n.testBit 4 = e ∧ n.testBit 5 = f := by
  revert a b c d e f
  decide

/-- The marks of the control octet. -/
theorem controlOctet_bits (x : Ctx) (c : CallRecord) : controlOctet x c < 64
    ∧ (controlOctet x c).testBit 0 = decide (c.typeCode = x.type)
    ∧ (controlOctet x c).testBit 1 = decide (seqStep x.seq c.seq = 1)
    ∧ (controlOctet x c).testBit 2 = decide (c.cause = x.cause)
    ∧ (controlOctet x c).testBit 3 = c.route.isSome ∧ (controlOctet x c).testBit 4 = c.volume.isSome
    ∧ (controlOctet x c).testBit 5 = c.charge.isSome :=
  control_bits _ _ _ _ _ _

/-! ### One record -/

/-- What a context must be for its record to be read back. -/
structure Ctx.InRange (x : Ctx) : Prop where
  seq : x.seq < 2 ^ 32
  start : -86400 ≤ x.start ∧ x.start ≤ 86399

theorem Ctx.inRange_of_ok {x : Ctx} (h : x.ok = true) : x.InRange := by
  simp only [Ctx.ok, Bool.and_eq_true, decide_eq_true_eq] at h
  obtain ⟨⟨⟨⟨-, hseq⟩, hstart⟩, -⟩, -⟩ := h
  exact ⟨hseq, hstart⟩

theorem Ctx.inRange_after {c : CallRecord} (h : c.InRange) : (Ctx.after c).InRange := ⟨h.seq, h.start⟩

/-- A step of the decoder that reads what was written goes on with it. -/
theorem bind_read {α β : Type} {o : Option (α × List Byte)} {v : α} {r : List Byte} (h : o = some (v, r))
    (k : α × List Byte → Option β) : (o >>= k) = k (v, r) := by
  rw [h]
  rfl

theorem decodeRecord_codeRecord {x : Ctx} {dict : List (List Nat)} {c : CallRecord} (hx : x.InRange) (hdict : dict.length ≤ 64)
    (hc : c.InRange) (rest : List Byte) : decodeRecord x dict (codeRecord x dict c ++ rest) = some (c, rest) := by
  obtain ⟨hlt, htype, hnext, hcause, hroute, hvolume, hcharge⟩ := controlOctet_bits x c
  obtain ⟨hcalling, hcallingDigits⟩ := digitsOk_iff.mp hc.calling
  obtain ⟨hcalled, hcalledDigits⟩ := digitsOk_iff.mp hc.called
  have hroutes : ∀ v, c.route = some v → v ≤ 65535 := fun v hv => Nat.le_of_lt_succ (hc.route v hv)
  have hvolumes : ∀ v, c.volume = some v → v ≤ 2 ^ 40 - 1 := fun v hv => Nat.le_pred_of_lt (hc.volume v hv)
  have hcharges : ∀ v, c.charge = some v → v ≤ 2 ^ 32 - 1 := fun v hv => Nat.le_pred_of_lt (hc.charge v hv)
  unfold codeRecord
  simp only [List.append_assoc]
  unfold decodeRecord
  refine (bind_read (getOctet_be (by omega) _) _).trans ((if_neg (by omega)).trans ?_)
  rw [htype, hnext, hcause, hroute, hvolume, hcharge]
  refine (bind_read (getSame_code hc.typeCode _) _).trans ?_
  refine (bind_read (getSeq_code hx.seq hc.seq _) _).trans ?_
  refine (bind_read (getStart_code hx.start hc.start _) _).trans ?_
  refine (bind_read (getDuration_code hc.duration _) _).trans ?_
  refine (bind_read (getCalling_code hcalling hcallingDigits _) _).trans ?_
  refine (bind_read (getCalled_code hdict hcalled hcalledDigits _) _).trans ?_
  refine (bind_read (getSame_code hc.cause _) _).trans ?_
  refine (bind_read (getOpt_code (by decide) hroutes _) _).trans ?_
  refine (bind_read (getOpt_code (by decide) hvolumes _) _).trans ?_
  exact bind_read (getOpt_code (by decide) hcharges _) _

/-! ### The records of a run -/

theorem dictOk_iff {d : List (List Nat)} : dictOk d = true ↔ d.length ≤ 64 ∧ ∀ p ∈ d, p ≠ [] ∧ p.length ≤ 12 ∧ ∀ x ∈ p, x ≤ 9 := by
  simp only [dictOk, Bool.and_eq_true, decide_eq_true_eq, List.all_eq_true, digitsOk_iff]

/-- Records coded one against the other decode to themselves; the octets behind them are left over. -/
theorem decodeRecords_codeRun {dict : List (List Nat)} (hdict : dict.length ≤ 64) {cs : List CallRecord}
    (hcs : ∀ c ∈ cs, c.InRange) {x : Ctx} (hx : x.InRange) (i : Nat) (rest : List Byte) :
    decodeRecords dict cs.length i x (codeRun dict x cs ++ rest) = .ok (cs, rest) := by
  induction cs generalizing x i with
  | nil => rfl
  | cons c cs ih =>
    have hc := hcs c List.mem_cons_self
    rw [codeRun, List.append_assoc, List.length_cons, decodeRecords, decodeRecord_codeRecord hx hdict hc]
    dsimp only
    rw [ih (fun y hy => hcs y (List.mem_cons_of_mem c hy)) (Ctx.inRange_after hc)]

theorem Ctx.inRange_reset : Ctx.reset.InRange := ⟨by decide, by decide⟩

end Sys2Proof.Machine
end

section
/-! The segment image (R184, R185): its header, laid out and read. -/

namespace Sys2Proof.Machine

/-! ### The dictionary copy -/

/-- The 64 places of a dictionary copy. -/
def dictPlaces (dict : List (List Nat)) : List (List Byte) :=
  dict.map placeOctets ++ List.replicate (64 - dict.length) (placeOctets [])

section
variable {dict : List (List Nat)} (hlen : dict.length ≤ 64) (hplaces : ∀ p ∈ dict, p ≠ [] ∧ p.length ≤ 12 ∧ ∀ x ∈ p, x ≤ 9)

include hlen in
theorem length_dictPlaces : (dictPlaces dict).length = 64 := by
  simp only [dictPlaces, List.length_append, List.length_map, List.length_replicate]
  omega

include hplaces in
theorem dictPlaces_sizes : ∀ x ∈ dictPlaces dict, x.length = 7 := by
  intro x hx
  rcases List.mem_append.mp hx with hx | hx
  · obtain ⟨p, hp, rfl⟩ := List.mem_map.mp hx
    obtain ⟨-, hlen, hdigits⟩ := hplaces p hp
    exact (placeOctets_read hlen fun d hd => (hdigits d hd).trans (by decide)).1
  · rw [List.eq_of_mem_replicate hx]
    rfl

include hlen in
theorem getElem?_dictPlaces {i : Nat} (hi : i < 64) : (dictPlaces dict)[i]? = some (placeOctets ((dict[i]?).getD [])) := by
  unfold dictPlaces
  by_cases h : i < dict.length
  · rw [List.getElem?_append_left (by rwa [List.length_map]), List.getElem?_map, List.getElem?_eq_getElem h]
    rfl
  · rw [List.getElem?_append_right (by rw [List.length_map]; omega), List.length_map, List.getElem?_replicate,
      if_pos (by omega), List.getElem?_eq_none (by omega)]
    rfl

/-- Items of one size laid end to end: each at its place. -/
theorem slice_flatten {size : Nat} {items : List (List Byte)} (h : ∀ x ∈ items, x.length = size) (rest : List Byte) {i : Nat}
    {x : List Byte} (hi : items[i]? = some x) : slice (items.flatten ++ rest) (size * i) size = x := by
  induction items generalizing i with
  | nil => simp at hi
  | cons y items ih =>
    have hy := h y List.mem_cons_self
    rw [List.flatten_cons, List.append_assoc]
    cases i with
    | zero =>
      obtain rfl : y = x := by simpa using hi
      rw [Nat.mul_zero, slice_append_left (by omega), slice_whole hy]
    | succ i =>
      rw [slice_append_right (by rw [Nat.mul_succ]; omega), hy, Nat.mul_succ, Nat.add_sub_cancel]
      exact ih (fun z hz => h z (List.mem_cons_of_mem y hz)) (by simpa using hi)

theorem pieces_flatten_take {size n : Nat} {items : List (List Byte)} (h : ∀ x ∈ items, x.length = size)
    (hn : n ≤ items.length) (rest : List Byte) : pieces n size (items.flatten ++ rest) = items.take n := by
  induction n generalizing items with
  | zero => rfl
  | succ n ih =>
    cases items with
    | nil => simp at hn
    | cons x items =>
      have hx := h x List.mem_cons_self
      rw [pieces, List.flatten_cons, List.append_assoc, List.take_left' hx, List.drop_left' hx, List.take_succ_cons,
        ih (fun y hy => h y (List.mem_cons_of_mem x hy)) (Nat.le_of_succ_le_succ hn)]

/-- The nibbles of a place: its digits, then filler. -/
theorem place_nibbles {p : List Nat} (hp : p.length ≤ 12) (hdigits : ∀ x ∈ p, x ≤ 9) {k : Nat} (hk : k < 12) :
    nibbleAt (placeOctets p) 1 k = (p[k]?).getD 15 := by
  have hlt : ∀ x ∈ p, x < 16 := fun x hx => Nat.lt_of_le_of_lt (hdigits x hx) (by decide)
  have hwidth : (bcdField 6 p).length = 6 := length_bcdField hp hlt
  have hplace : slice (placeOctets p) 1 6 = bcdField 6 p := slice_whole hwidth
  have hlen : (placeOctets p).length = 7 := congrArg (· + 1) hwidth
  have hread := nibbles_slice (l := placeOctets p) (off := 1) (w := 6) (by omega)
  rw [hplace, nibbles_bcdField hp hlt] at hread
  have hat := congrArg (fun l : List Nat => l[k]?) hread
  rw [List.getElem?_map, List.getElem?_range (by omega), Option.map_some] at hat
  rw [← Option.some.injEq, ← hat]
  by_cases h : k < p.length
  · rw [List.getElem?_append_left h, List.getElem?_eq_getElem h]
    rfl
  · rw [List.getElem?_append_right (by omega), List.getElem?_replicate, if_pos (by omega), List.getElem?_eq_none (by omega)]
    rfl

end

/-! ### The header -/

section
variable {e : SegEntry} {dict : List (List Nat)} (hlen : dict.length ≤ 64)
  (hplaces : ∀ p ∈ dict, p ≠ [] ∧ p.length ≤ 12 ∧ ∀ x ∈ p, x ≤ 9)

/-- The first 60 octets of a header. -/
def headerFront (e : SegEntry) (dict : List (List Nat)) : List Byte :=
  be 4 e.id ++ be 2 e.day ++ be 1 e.cls.val ++ be 1 ((e.sealReason.map sealCode).getD 0) ++ be 1 e.group
    ++ be 1 e.generation ++ be 1 dict.length ++ be 1 e.runs.length ++ be 4 e.payloadLen
    ++ be 4 (digestNat e.segDigest) ++ List.replicate 40 0

theorem headerBody_eq (e : SegEntry) (dict : List (List Nat)) :
    headerBody e dict = headerFront e dict ++ (dictPlaces dict).flatten := rfl

theorem length_crcOctets (c : Crc) : (crcOctets c).length = 4 := length_be 4 _

theorem length_headerFront (e : SegEntry) (dict : List (List Nat)) : (headerFront e dict).length = 60 := by
  simp [headerFront]

include hlen hplaces in
theorem length_dictFlatten : (dictPlaces dict).flatten.length = 448 := by
  rw [List.length_flatten, List.map_congr_left (dictPlaces_sizes hplaces), List.map_const', List.sum_replicate,
    length_dictPlaces hlen]
  rfl

include hlen hplaces in
theorem length_headerBody : (headerBody e dict).length = 508 := by
  rw [headerBody_eq, List.length_append, length_headerFront, length_dictFlatten hlen hplaces]

include hlen hplaces in
theorem length_headerOctets : (headerOctets e dict).length = 512 := by
  rw [headerOctets, List.length_append, length_headerBody hlen hplaces, length_crcOctets]

/-- What follows the dictionary copy in an image. -/
theorem headerOctets_append (e : SegEntry) (dict : List (List Nat)) (rest : List Byte) : headerOctets e dict ++ rest
    = headerFront e dict ++ ((dictPlaces dict).flatten ++ (crcOctets (crc32 (headerBody e dict)) ++ rest)) := by
  rw [headerOctets, headerBody_eq]
  simp only [List.append_assoc]

/-- The values of a header that fit their fields. -/
structure SegEntry.Fits (e : SegEntry) : Prop where
  id : e.id < 4294967296
  day : e.day < 65536
  group : e.group < 256
  generation : e.generation < 256
  runs : e.runs.length < 256
  payloadLen : e.payloadLen < 4294967296

theorem digestNat_lt (d : Option Crc) : digestNat d < 4294967296 := by
  cases d with
  | none => decide
  | some c => exact c.isLt

theorem sealCode_lt (r : Option SealReason) : (r.map sealCode).getD 0 < 256 := by
  cases r with
  | none => decide
  | some r => cases r <;> decide

include hlen hplaces in
/-- The header is read back, whatever stands behind it. -/
theorem readHeader_headerOctets (he : e.Fits) (rest : List Byte) : readHeader (headerOctets e dict ++ rest) =
    { segId := e.id, day := e.day, cls := e.cls.val, reason := (e.sealReason.map sealCode).getD 0, group := e.group
      generation := e.generation, prefixCount := dict.length, runCount := e.runs.length, payloadLen := e.payloadLen
      digest := digestNat e.segDigest, places := dict.map fun p => (p.length, p) } := by
  have hfields : ∀ i n, i + n ≤ 60 → fieldAt (headerOctets e dict ++ rest) i n = fieldAt (headerFront e dict) i n :=
    fun i n h => by
      rw [headerOctets_append]
      exact congrArg beNat (slice_append_left (by rw [length_headerFront]; exact h))
  have hcls : e.cls.val < 256 := by omega
  have hreason := sealCode_lt e.sealReason
  have hdigest := digestNat_lt e.segDigest
  have hcount : dict.length < 256 := by omega
  have hprefix : fieldAt (headerFront e dict) 10 1 = dict.length := by
    simp [headerFront, fieldAt, hcount]
  have hpieces : (pieces (min dict.length 64) 7 ((headerOctets e dict ++ rest).drop 60)).map
      (fun p => (fieldAt p 0 1, placeDigits p)) = dict.map fun p => (p.length, p) := by
    rw [headerOctets_append, List.drop_left' (length_headerFront e dict), Nat.min_eq_left hlen,
      pieces_flatten_take (dictPlaces_sizes hplaces) (by rw [length_dictPlaces hlen]; exact hlen), dictPlaces,
      List.take_left' (List.length_map _), List.map_map]
    refine List.map_congr_left fun p hp => ?_
    obtain ⟨-, hplen, hdigits⟩ := hplaces p hp
    obtain ⟨-, hfirst, hread⟩ := placeOctets_read hplen fun d hd => (hdigits d hd).trans (by decide)
    rw [Function.comp_apply, hread]
    exact congrArg (·, p) hfirst
  unfold readHeader octetAt
  rw [hfields 0 4 (by decide), hfields 4 2 (by decide), hfields 6 1 (by decide), hfields 7 1 (by decide),
    hfields 8 1 (by decide), hfields 9 1 (by decide), hfields 10 1 (by decide), hfields 11 1 (by decide),
    hfields 12 4 (by decide), hfields 16 4 (by decide), hprefix, hpieces]
  simp [headerFront, fieldAt, he.id, he.day, he.group, he.generation, he.runs, he.payloadLen, hcls, hreason, hdigest]

end

end Sys2Proof.Machine
end

section
/-! The segment image (R184, R61): its payload, laid out and walked, and O58. -/

namespace Sys2Proof.Machine

/-! ### Runs as they are written -/

/-- R184: the status octet of a run of a sealed segment. -/
def RunRec.statusCode (r : RunRec) : Nat := (if r.status = .firm then 1 else 2) + if r.continued then 128 else 0

/-- A run and its records as a commit finds them. -/
structure RunWritten (dict : List (List Nat)) (x : RunRec × List CallRecord) : Prop where
  status : x.1.status ≠ .provisional
  source : x.1.source ≤ 511
  slot : x.1.slot ≤ 95
  records : ∀ c ∈ x.2, c.InRange
  nonempty : x.2 ≠ []
  count : x.1.count = x.2.length
  first : x.2.head?.map CallRecord.seq = some x.1.firstSeq
  digest : x.1.digest = some (runDigest x.2)
  room : (codeRun dict Ctx.reset x.2).length < 4294967296

/-- A run header and its coded records. -/
def runOctets (dict : List (List Nat)) (x : RunRec × List CallRecord) : List Byte :=
  runHeaderOctets x.1 ++ codeRun dict Ctx.reset x.2

/-- A run as it is decoded. -/
def decodedRun (x : RunRec × List CallRecord) : DecRun :=
  { source := x.1.source, slot := x.1.slot, statusOctet := x.1.statusCode, count := x.1.count
    digest := (runDigest x.2).toNat, firstSeq := x.1.firstSeq, records := x.2, recomputed := runDigest x.2 }

/-- Each coded record takes an octet at least. -/
theorem length_le_codeRun (dict : List (List Nat)) (x : Ctx) (cs : List CallRecord) :
    cs.length ≤ (codeRun dict x cs).length := by
  induction cs generalizing x with
  | nil => exact Nat.zero_le _
  | cons c cs ih =>
    have hrest := ih (Ctx.after c)
    have hone : 1 ≤ (codeRecord x dict c).length := by
      simp only [codeRecord, List.length_append, length_be]
      omega
    rw [codeRun, List.length_append, List.length_cons]
    omega

namespace RunWritten

variable {dict : List (List Nat)} {x : RunRec × List CallRecord}

theorem statusOctet (h : RunWritten dict x) : runStatusOctet x.1 = x.1.statusCode := by
  have hst := h.status
  unfold runStatusOctet RunRec.statusCode
  cases hs : x.1.status with
  | provisional => exact absurd hs hst
  | firm => rfl
  | void => rfl

theorem digestNat_eq (h : RunWritten dict x) : digestNat x.1.digest = (runDigest x.2).toNat := by
  rw [h.digest]
  rfl

theorem count_lt (h : RunWritten dict x) : x.1.count < 4294967296 := by
  rw [h.count]
  exact (length_le_codeRun dict Ctx.reset x.2).trans_lt h.room

theorem firstSeq_lt (h : RunWritten dict x) : x.1.firstSeq < 4294967296 := by
  obtain ⟨c, hc, hseq⟩ := Option.map_eq_some_iff.mp h.first
  rw [← hseq]
  exact (h.records c (List.mem_of_mem_head? hc)).seq

theorem length_header (r : RunRec) : (runHeaderOctets r).length = 16 := by simp [runHeaderOctets]

/-- The 16 octets of the run header. -/
theorem headerFields (h : RunWritten dict x) : fieldAt (runHeaderOctets x.1) 0 2 = x.1.source
    ∧ octetAt (runHeaderOctets x.1) 2 = x.1.slot ∧ octetAt (runHeaderOctets x.1) 3 = x.1.statusCode
    ∧ fieldAt (runHeaderOctets x.1) 4 4 = x.1.count ∧ fieldAt (runHeaderOctets x.1) 8 4 = (runDigest x.2).toNat
    ∧ fieldAt (runHeaderOctets x.1) 12 4 = x.1.firstSeq := by
  have hsource : x.1.source < 65536 := Nat.lt_of_le_of_lt h.source (by decide)
  have hslot : x.1.slot < 256 := Nat.lt_of_le_of_lt h.slot (by decide)
  have hcode : x.1.statusCode < 256 := by
    unfold RunRec.statusCode
    split <;> split <;> decide
  have hdigest : (runDigest x.2).toNat < 4294967296 := (runDigest x.2).isLt
  unfold runHeaderOctets
  rw [h.statusOctet, h.digestNat_eq]
  simp [octetAt, fieldAt, hsource, hslot, hcode, h.count_lt, hdigest, h.firstSeq_lt]

theorem statusCode_cases (r : RunRec) : r.statusCode = 1 ∨ r.statusCode = 2 ∨ r.statusCode = 129 ∨ r.statusCode = 130 := by
  unfold RunRec.statusCode
  split <;> split <;> simp

theorem header_sound (h : RunWritten dict x) : runHeaderMalformed (runHeaderOctets x.1) = false := by
  obtain ⟨hsource, hslot, hstatus, hcount, -, -⟩ := h.headerFields
  have hpos : x.1.count ≠ 0 := by
    rw [h.count]
    exact fun h0 => h.nonempty (List.length_eq_zero_iff.mp h0)
  have hsource' := h.source
  have hslot' := h.slot
  unfold runHeaderMalformed
  rw [length_header, hcount, hstatus, hsource, hslot]
  rcases statusCode_cases x.1 with hs | hs | hs | hs <;> simp [hs, hpos, hsource', hslot']

theorem length_runOctets (x : RunRec × List CallRecord) :
    (runOctets dict x).length = 16 + (codeRun dict Ctx.reset x.2).length := by
  rw [runOctets, List.length_append, length_header]

end RunWritten

/-! ### The payload walked -/

section
variable {dict : List (List Nat)} (hdict : dict.length ≤ 64)

include hdict in
theorem decodeRuns_runOctets {rows : List (RunRec × List CallRecord)} (hrows : ∀ x ∈ rows, RunWritten dict x) (i : Nat)
    (rest : List Byte) : decodeRuns dict rows.length i (rows.flatMap (runOctets dict) ++ rest)
      = .ok (rows.map decodedRun, rest) := by
  induction rows generalizing i with
  | nil => rfl
  | cons x rows ih =>
    have hx := hrows x List.mem_cons_self
    obtain ⟨hsource, hslot, hstatus, hcount, hdigest, hfirst⟩ := hx.headerFields
    have hsplit : (x :: rows).flatMap (runOctets dict) ++ rest = runHeaderOctets x.1
        ++ (codeRun dict Ctx.reset x.2 ++ (rows.flatMap (runOctets dict) ++ rest)) := by
      rw [List.flatMap_cons, runOctets]
      simp only [List.append_assoc]
    rw [hsplit, List.length_cons, decodeRuns]
    rw [List.take_left' (RunWritten.length_header x.1), List.drop_left' (RunWritten.length_header x.1), hx.header_sound,
      if_neg Bool.false_ne_true, hcount, hx.count, decodeRecords_codeRun hdict hx.records Ctx.inRange_reset]
    dsimp only
    rw [ih (fun y hy => hrows y (List.mem_cons_of_mem x hy)), hsource, hslot, hstatus, hdigest, hfirst, ← hx.count]
    rfl

end

/-- The payload is the runs laid end to end (log entry 7). -/
theorem payloadOctets_eq {dict : List (List Nat)} {rs : List RunRec} {bs : List BufRun} {css : List (List CallRecord)}
    (hlen : css.length = rs.length) (hcoded : bs.map BufRun.coded = css.map (codeRun dict Ctx.reset)) :
    payloadOctets rs bs = (rs.zip css).flatMap (runOctets dict) := by
  induction rs generalizing bs css with
  | nil => cases bs <;> rfl
  | cons r rs ih =>
    cases css with
    | nil => simp at hlen
    | cons cs css =>
      cases bs with
      | nil => simp at hcoded
      | cons b bs =>
        obtain ⟨hb, hbs⟩ := List.cons.inj hcoded
        rw [payloadOctets, List.zip_cons_cons, List.flatMap_cons, ih (Nat.succ.inj hlen) hbs, hb]
        rfl

/-! ### The comparison with the entry -/

theorem compareRuns_agree {α : Type} {f : α → RunRec} {g : α → DecRun} {rows : List α} (n : Nat)
    (h : ∀ x ∈ rows, runAgrees (f x) (g x) = true ∧ digestAgrees (g x) = true) :
    compareRuns n (rows.map f) (rows.map g) = none := by
  induction rows generalizing n with
  | nil => rfl
  | cons x rows ih =>
    obtain ⟨hrun, hdigest⟩ := h x List.mem_cons_self
    rw [List.map_cons, List.map_cons, compareRuns, if_neg (not_not_intro hrun), if_neg (not_not_intro hdigest),
      ih _ fun y hy => h y (List.mem_cons_of_mem x hy)]

theorem decodedRun_agrees {dict : List (List Nat)} {x : RunRec × List CallRecord} (h : RunWritten dict x) :
    runAgrees x.1 (decodedRun x) = true ∧ digestAgrees (decodedRun x) = true := by
  refine ⟨(runAgrees_iff _ _).mpr ⟨rfl, rfl, h.statusOctet.symm, rfl, h.digestNat_eq.symm, rfl⟩, (digestAgrees_iff _).mpr
    ⟨rfl, ?_⟩⟩
  exact Option.map_eq_some_iff.mp h.first

theorem decodedRun_firm (x : RunRec × List CallRecord) : (decodedRun x).firm = decide (x.1.status = .firm) := by
  show decide (x.1.statusCode % 4 = 1) = decide (x.1.status = .firm)
  unfold RunRec.statusCode
  by_cases h : x.1.status = .firm <;> cases x.1.continued <;> simp [h]

theorem firmCount_decoded (rows : List (RunRec × List CallRecord)) : firmCount (rows.map decodedRun)
    = ((rows.map Prod.fst).map fun r => if r.status = .firm then r.count else 0).sum := by
  unfold firmCount
  rw [List.map_map, List.map_map]
  refine congrArg List.sum (List.map_congr_left fun x _ => ?_)
  rw [Function.comp_apply, Function.comp_apply, decodedRun_firm]
  by_cases h : x.1.status = .firm
  · rw [if_pos h, decide_eq_true h, if_pos rfl]
    rfl
  · rw [if_neg h, decide_eq_false h, if_neg Bool.false_ne_true]

end Sys2Proof.Machine
end

section
/-! The image that a commit writes is read back (O58). -/

namespace Sys2Proof.Machine

section
variable {e : SegEntry} {b : Buffer} {css : List (List CallRecord)} {fill : List Byte}

/-! ### What the entry and its buffer give -/

/-- The header and the runs of an entry as a commit finds them. -/
structure WrittenAs (e : SegEntry) (b : Buffer) (css : List (List CallRecord)) : Prop where
  fits : e.Fits
  idPos : 1 ≤ e.id
  reason : e.sealReason ≠ none
  dictLen : b.dict.length ≤ 64
  places : ∀ p ∈ b.dict, p ≠ [] ∧ p.length ≤ 12 ∧ ∀ x ∈ p, x ≤ 9
  distinct : b.dict.Nodup
  someRun : 1 ≤ e.runs.length
  runs : e.runs.length ≤ 32
  cssLen : css.length = e.runs.length
  coded : b.runs.map BufRun.coded = css.map (codeRun b.dict Ctx.reset)
  rows : ∀ x ∈ e.runs.zip css, RunWritten b.dict x
  len : e.payloadLen = ((e.runs.zip css).flatMap (runOctets b.dict)).length
  small : e.payloadLen ≤ 1048064
  recordCount : e.recordCount = (e.runs.map fun r => if r.status = .firm then r.count else 0).sum
  segDigest : e.segDigest = some (segmentDigest (css.map runDigest))

theorem SegEntry.Written.writtenAs (h : e.Written b css) : WrittenAs e b css := by
  obtain ⟨hid, hidHi, hday, hgroup, hgeneration, hreason, hdict, hnodup, hrun, hruns, hcss, hcoded, hrows, hlen, hsmall, hcount,
    hdigest⟩ := h
  obtain ⟨hdictLen, hplaces⟩ := dictOk_iff.mp hdict
  have hsum : e.payloadLen = ((e.runs.zip css).flatMap (runOctets b.dict)).length := by
    rw [hlen, List.length_flatMap]
    exact congrArg List.sum (List.map_congr_left fun x _ => (RunWritten.length_runOctets x).symm)
  have hroom : ∀ x ∈ e.runs.zip css, (codeRun b.dict Ctx.reset x.2).length < 4294967296 := fun x hx => by
    have hle := List.single_le_sum (fun n _ => Nat.zero_le n) _ (List.mem_map_of_mem (f := fun x : RunRec × List CallRecord =>
      16 + (codeRun b.dict Ctx.reset x.2).length) hx)
    omega
  refine ⟨⟨hidHi, hday, hgroup, hgeneration, by omega, by omega⟩, hid, hreason, hdictLen, hplaces, hnodup, hrun, hruns, hcss,
    hcoded, fun x hx => ?_, hsum, hsmall, hcount, hdigest⟩
  obtain ⟨hst, hsource, hslot, hok, hne, hcnt, hfirst, hdig⟩ := hrows x hx
  exact ⟨hst, hsource, hslot, fun c hc => (CallRecord.ok_iff c).mp (hok c hc), hne, hcnt, hfirst, hdig, hroom x hx⟩

/-! ### The image -/

/-- The image of an entry as a commit finds it. -/
theorem WrittenAs.image_eq (h : WrittenAs e b css) (fill : List Byte) : segmentImage e b ++ fill
    = headerOctets e b.dict ++ ((e.runs.zip css).flatMap (runOctets b.dict) ++ fill) := by
  rw [segmentImage, payloadOctets_eq h.cssLen h.coded, List.append_assoc]

theorem WrittenAs.length_image (h : WrittenAs e b css) : (segmentImage e b).length = 512 + e.payloadLen := by
  have heq := h.image_eq []
  rw [List.append_nil, List.append_nil] at heq
  rw [heq, List.length_append, length_headerOctets h.dictLen h.places, h.len]

theorem WrittenAs.header (h : WrittenAs e b css) : readHeader (segmentImage e b ++ fill) =
    { segId := e.id, day := e.day, cls := e.cls.val, reason := (e.sealReason.map sealCode).getD 0, group := e.group
      generation := e.generation, prefixCount := b.dict.length, runCount := e.runs.length, payloadLen := e.payloadLen
      digest := digestNat e.segDigest, places := b.dict.map fun p => (p.length, p) } := by
  rw [h.image_eq]
  exact readHeader_headerOctets h.dictLen h.places h.fits _

theorem WrittenAs.payload (h : WrittenAs e b css) :
    slice (segmentImage e b ++ fill) 512 e.payloadLen = (e.runs.zip css).flatMap (runOctets b.dict) := by
  have hhead := length_headerOctets (e := e) h.dictLen h.places
  rw [h.image_eq, slice_append_right hhead.le, hhead, Nat.sub_self, slice_append_left (by rw [← h.len]; omega),
    slice_whole h.len.symm]

theorem WrittenAs.check (h : WrittenAs e b css) : fieldAt (segmentImage e b ++ fill) 508 4
    = (crc32 ((segmentImage e b ++ fill).take 508)).toNat := by
  have hbody := length_headerBody (e := e) h.dictLen h.places
  rw [h.image_eq, headerOctets, List.append_assoc, List.take_left' hbody, fieldAt, slice_append_right hbody.le, hbody,
    Nat.sub_self, slice_append_left (length_crcOctets _).ge, slice_whole (length_crcOctets _), beNat_crcOctets]

theorem WrittenAs.reserved (h : WrittenAs e b css) : slice (segmentImage e b ++ fill) 20 40 = List.replicate 40 0 := by
  rw [h.image_eq, headerOctets_append, slice_append_left (by rw [length_headerFront]), headerFront]
  simp

/-- Place `i` of the dictionary copy in the image. -/
theorem WrittenAs.place (h : WrittenAs e b css) {i : Nat} (hi : i < 64) :
    slice (segmentImage e b ++ fill) (60 + 7 * i) 7 = placeOctets ((b.dict[i]?).getD []) := by
  have hfront := length_headerFront e b.dict
  rw [h.image_eq, headerOctets_append, slice_append_right (by omega), hfront, Nat.add_sub_cancel_left]
  exact slice_flatten (dictPlaces_sizes h.places) _ (getElem?_dictPlaces h.dictLen hi)

theorem sealCode_bounds {r : Option SealReason} (h : r ≠ none) : 1 ≤ (r.map sealCode).getD 0 ∧ (r.map sealCode).getD 0 ≤ 6 := by
  cases r with
  | none => exact absurd rfl h
  | some r => cases r <;> exact ⟨by decide, by decide⟩

theorem WrittenAs.sound (h : WrittenAs e b css) : SoundUnit (segmentImage e b ++ fill) := by
  have hheader := h.header (fill := fill)
  have hlen : 512 ≤ (segmentImage e b ++ fill).length := by
    rw [List.length_append, h.length_image]
    omega
  have hcheck := h.check (fill := fill)
  generalize segmentImage e b ++ fill = img at *
  obtain ⟨hreason, hreason'⟩ := sealCode_bounds h.reason
  have hid : fieldAt img 0 4 = e.id := congrArg Header.segId hheader
  have hcls : octetAt img 6 = e.cls.val := congrArg Header.cls hheader
  have hcode : octetAt img 7 = (e.sealReason.map sealCode).getD 0 := congrArg Header.reason hheader
  have hpayload : fieldAt img 12 4 = e.payloadLen := congrArg Header.payloadLen hheader
  have hruns : octetAt img 11 = e.runs.length := congrArg Header.runCount hheader
  have hprefixes : octetAt img 10 = b.dict.length := congrArg Header.prefixCount hheader
  have hplaces : (readHeader img).places = b.dict.map fun p => (p.length, p) := congrArg Header.places hheader
  unfold SoundUnit
  dsimp only
  rw [hplaces, hid, hcls, hcode, hpayload, hruns, hprefixes]
  refine ⟨hlen, hcheck, h.idPos, Nat.le_of_lt_succ e.cls.isLt, h.small, h.someRun, h.runs, hreason, hreason', h.dictLen,
    fun p hp => ?_, fun i j p q hij hp hq hne heq => ?_⟩
  · obtain ⟨d, hd, rfl⟩ := List.mem_map.mp hp
    exact (h.places d hd).2
  · rw [List.getElem?_map] at hp hq
    obtain ⟨d, hd, rfl⟩ := Option.map_eq_some_iff.mp hp
    obtain ⟨d', hd', rfl⟩ := Option.map_eq_some_iff.mp hq
    obtain ⟨hi, hdi⟩ := List.getElem?_eq_some_iff.mp hd
    obtain ⟨hj, hdj⟩ := List.getElem?_eq_some_iff.mp hd'
    have hsame : i = j := (h.distinct.getElem_inj_iff).mp (hdi.trans (heq.trans hdj.symm))
    omega

theorem WrittenAs.decoded (h : WrittenAs e b css) :
    decodeImage (segmentImage e b ++ fill) = .ok ((e.runs.zip css).map decodedRun) := by
  have hheader := h.header (fill := fill)
  have hpayload := h.payload (fill := fill)
  have hsound := (soundHeader_iff _).mpr (h.sound (fill := fill))
  generalize segmentImage e b ++ fill = img at *
  have hwell : (readHeader img).malformed = false := by
    unfold soundHeader at hsound
    simpa using (Bool.and_eq_true_iff.mp hsound).2
  have hdict : (readHeader img).dict = b.dict := by
    rw [Header.dict, hheader, List.map_map]
    exact List.map_id' _
  have hrunCount : (readHeader img).runCount = (e.runs.zip css).length := by
    rw [hheader, List.length_zip, h.cssLen, Nat.min_self]
  have hpayloadLen : (readHeader img).payloadLen = e.payloadLen := by rw [hheader]
  have hwalk := decodeRuns_runOctets h.dictLen h.rows 0 []
  rw [List.append_nil] at hwalk
  unfold decodeImage
  dsimp only
  rw [hwell, if_neg Bool.false_ne_true, hdict, hrunCount, hpayloadLen, hpayload, hwalk]
  exact if_pos ⟨rfl, h.len.symm⟩

theorem WrittenAs.verified (h : WrittenAs e b css) : verifyImage e (segmentImage e b ++ fill) = .matched := by
  have hagrees : headerAgrees e (readHeader (segmentImage e b ++ fill)) = true := by
    rw [h.header, headerAgrees_iff]
    exact ⟨rfl, rfl, rfl, rfl, rfl, rfl, rfl, rfl, rfl⟩
  have hfst : (e.runs.zip css).map Prod.fst = e.runs := List.map_fst_zip h.cssLen.ge
  have hsnd : (e.runs.zip css).map Prod.snd = css := List.map_snd_zip h.cssLen.le
  have hcompare : compareRuns 0 e.runs ((e.runs.zip css).map decodedRun) = none := by
    have hall := compareRuns_agree 0 (f := Prod.fst) (g := decodedRun) fun x hx => decodedRun_agrees (h.rows x hx)
    rwa [hfst] at hall
  have hdigest : (segmentDigest (((e.runs.zip css).map decodedRun).map DecRun.recomputed)).toNat = digestNat e.segDigest := by
    rw [h.segDigest, List.map_map, show DecRun.recomputed ∘ decodedRun = runDigest ∘ Prod.snd from rfl, ← List.map_map, hsnd]
    rfl
  have hfirm : firmCount ((e.runs.zip css).map decodedRun) = e.recordCount := by
    rw [firmCount_decoded, hfst, h.recordCount]
  rw [verifyImage_decoded hagrees h.decoded, hcompare]
  dsimp only
  rw [if_neg (not_not_intro hdigest), if_neg (not_not_intro hfirm)]

end

/-- Settles O58: a record, the records of a run, and the image part by part. -/
theorem codedRecordsDecode : Obligations.CodedRecordsDecode := by
  refine ⟨fun x dict c rest hx hdict hc => decodeRecord_codeRecord (Ctx.inRange_of_ok hx) (dictOk_iff.mp hdict).1
      ((CallRecord.ok_iff c).mp hc) rest,
    fun dict cs rest hdict hcs => decodeRecords_codeRun (dictOk_iff.mp hdict).1 (fun c hc => (CallRecord.ok_iff c).mp (hcs c hc))
      Ctx.inRange_reset 0 rest,
    fun e b css fill hwritten => ?_⟩
  have h := hwritten.writtenAs
  refine ⟨h.length_image, h.header.trans ?_, h.reserved, fun i hi => ?_, h.sound, h.payload.trans ?_, h.decoded, h.verified⟩
  · rw [h.segDigest]
    cases e.sealReason with
    | none => rfl
    | some r => cases r <;> rfl
  · have hplace := h.place (fill := fill) hi
    have hshort : ((b.dict[i]?).getD []).length ≤ 12 ∧ ∀ x ∈ (b.dict[i]?).getD [], x ≤ 9 := by
      cases hp : b.dict[i]? with
      | none => exact ⟨by decide, fun x hx => nomatch hx⟩
      | some p => exact (h.places p (List.mem_of_getElem? hp)).2
    generalize (b.dict[i]?).getD [] = p at *
    generalize segmentImage e b ++ fill = img at *
    have hoctet : ∀ j, j < 7 → octetAt img (60 + 7 * i + j) = octetAt (placeOctets p) j := fun j hj => by
      rw [← hplace, octetAt_slice hj]
    obtain ⟨-, hfirst, -⟩ := placeOctets_read hshort.1 fun d hd => (hshort.2 d hd).trans (by decide)
    refine ⟨(hoctet 0 (by decide)).trans hfirst, fun k hk => ?_⟩
    rw [← place_nibbles hshort.1 hshort.2 hk, nibbleAt, ← hoctet (1 + k / 2) (by omega),
      show 60 + 7 * i + (1 + k / 2) = 61 + 7 * i + k / 2 by omega]
  · refine List.flatMap_congr fun x hx => ?_
    have hrow := h.rows x hx
    unfold runOctets runHeaderOctets
    rw [hrow.statusOctet, hrow.digestNat_eq]
    rfl

end Sys2Proof.Machine
end
